-- ==== Sys2Proof/Word.lean ====
section
/-! DEFINITION. The word types of the HC-41 and their plainest arithmetic (section 0.6 of 00_scope.md). -/

namespace Sys2Proof

/-- One byte of a route frame or of a site-port message (R106, R191). -/
abbrev Byte := BitVec 8

/-- A received level, or a difference of two, in tenths of a dB (0.6.1). -/
abbrev Level := Int

/-- clamp(x, a, b): x limited to the range a to b inclusive (0.6.3). -/
def clampInt (lo hi x : Int) : Int := if x < lo then lo else if hi < x then hi else x

/-- clamp for values that cannot be negative (0.6.3). -/
def clampNat (lo hi x : Nat) : Nat := if x < lo then lo else if hi < x then hi else x

/-- One more, staying at the largest value (0.6.4). -/
def satInc (max n : Nat) : Nat := if n < max then n + 1 else max

/-- n more, staying at the largest value (0.6.4). -/
def satAdd (max n k : Nat) : Nat := if n + k < max then n + k else max

/-- The largest value of a 16-bit counter. -/
abbrev max16 : Nat := 65535

/-- The largest value of a 32-bit counter. -/
abbrev max32 : Nat := 4294967295

end Sys2Proof
end

