-- ==== Sys2Proof/Syntax.lean ====
section
/-! DEFINITION. The names of the manual's fixed sets, the frames and the Setup Record as they are given to the
part, and Instr: one constructor per row of spec/opcode_table.json. -/

namespace Sys2Proof

/-- The four detector inputs (section 1.1). -/
inductive Input where
  | detA | detB | detC | detD
  deriving DecidableEq, Repr

/-- The four measurement channels (section 1.3). -/
inductive Role where
  | coMain | xMain | coDiv | xDiv
  deriving DecidableEq, Repr

/-- The antennas of one end; the steering role of a sweep (R7). -/
inductive Antenna where
  | main | div
  deriving DecidableEq, Repr

/-- The two axes of the mount (chapter 3). -/
inductive Axis where
  | az | el
  deriving DecidableEq, Repr

/-- The two lines of one encoder (R37). -/
inductive Line where
  | a | b
  deriving DecidableEq, Repr

/-- The two ends of a hop (0.2). -/
inductive HopEnd where
  | a | b
  deriving DecidableEq, Repr

/-- The two directions of the margin test (section 10.5). -/
inductive Direction where
  | one | two
  deriving DecidableEq, Repr

/-- The stages of commissioning (R126). -/
inductive Phase where
  | idle | beacon | sweep | confirm | soak | margin | handover | halted
  deriving DecidableEq, Repr

/-- The range state of an input (R2). -/
inductive RangeState where
  | inRange | under | over
  deriving DecidableEq, Repr

/-- Whose beacon dominates the window (R30). -/
inductive IdentState where
  | noKeying | unsure | own
  | foreign (hop : Nat)
  deriving DecidableEq, Repr

/-- The verdict of a lobe analysis (R76). -/
inductive Verdict where
  | noData | mainFound | unresolved | mainLow | sideOnly
  deriving DecidableEq, Repr

/-- The decline reasons of an ANSWER (R106, R135, R137). -/
inductive DeclineReason where
  | notLegal | notReady | notConfirmed | halted | crossed
  deriving DecidableEq, Repr

/-- A soak's verdict (R174). -/
inductive SoakVerdict where
  | pass | fail
  deriving DecidableEq, Repr

/-- A station's role in its current margin direction, as STATUS carries it (R106). -/
inductive MarginRole where
  | none | transmitting | judge
  deriving DecidableEq, Repr

/-- The three events of an MTEST frame (R106). -/
inductive MtestEvent where
  | step | limit | done
  deriving DecidableEq, Repr

/-- The seven kinds of route frame (R106). -/
inductive FrameKind where
  | status | level | propose | answer | verdict | digest | mtest
  deriving DecidableEq, Repr

/-- What ends a message or a frame early: a gap of more than 5 ms, or a character with its stop bit low (R108, R191). -/
inductive CutCause where
  | gap | lowStop
  deriving DecidableEq, Repr

/-- The cut of a message or a frame: its cause, and the character that is examined afresh, when there is one (R108,
R191). -/
structure LineCut where
  cause : CutCause
  next : Option Byte
  deriving DecidableEq, Repr

/-- The sources of the cue (R90). -/
inductive CueSource where
  | steer | partner | relative
  deriving DecidableEq, Repr

/-- One value for each detector input. -/
structure ByInput (α : Type) where
  detA : α
  detB : α
  detC : α
  detD : α
  deriving DecidableEq, Repr

/-- One value for each role. -/
structure ByRole (α : Type) where
  coMain : α
  xMain : α
  coDiv : α
  xDiv : α
  deriving DecidableEq, Repr

/-- One value for each antenna. -/
structure ByAntenna (α : Type) where
  main : α
  div : α
  deriving DecidableEq, Repr

/-- One value for each axis. -/
structure ByAxis (α : Type) where
  az : α
  el : α
  deriving DecidableEq, Repr

/-- One value for each margin direction. -/
structure ByDirection (α : Type) where
  one : α
  two : α
  deriving DecidableEq, Repr

def ByInput.get {α : Type} (b : ByInput α) : Input → α
  | .detA => b.detA
  | .detB => b.detB
  | .detC => b.detC
  | .detD => b.detD

def ByInput.set {α : Type} (b : ByInput α) (i : Input) (x : α) : ByInput α :=
  match i with
  | .detA => { b with detA := x }
  | .detB => { b with detB := x }
  | .detC => { b with detC := x }
  | .detD => { b with detD := x }

def ByInput.all {α : Type} (b : ByInput α) (p : α → Bool) : Bool :=
  p b.detA && p b.detB && p b.detC && p b.detD

def ByRole.get {α : Type} (b : ByRole α) : Role → α
  | .coMain => b.coMain
  | .xMain => b.xMain
  | .coDiv => b.coDiv
  | .xDiv => b.xDiv

def ByRole.set {α : Type} (b : ByRole α) (r : Role) (x : α) : ByRole α :=
  match r with
  | .coMain => { b with coMain := x }
  | .xMain => { b with xMain := x }
  | .coDiv => { b with coDiv := x }
  | .xDiv => { b with xDiv := x }

def ByRole.map {α β : Type} (b : ByRole α) (f : α → β) : ByRole β :=
  { coMain := f b.coMain, xMain := f b.xMain, coDiv := f b.coDiv, xDiv := f b.xDiv }

def ByRole.all {α : Type} (b : ByRole α) (p : α → Bool) : Bool :=
  p b.coMain && p b.xMain && p b.coDiv && p b.xDiv

def ByAntenna.get {α : Type} (b : ByAntenna α) : Antenna → α
  | .main => b.main
  | .div => b.div

def ByAntenna.set {α : Type} (b : ByAntenna α) (a : Antenna) (x : α) : ByAntenna α :=
  match a with
  | .main => { b with main := x }
  | .div => { b with div := x }

def ByAxis.get {α : Type} (b : ByAxis α) : Axis → α
  | .az => b.az
  | .el => b.el

def ByAxis.set {α : Type} (b : ByAxis α) (a : Axis) (x : α) : ByAxis α :=
  match a with
  | .az => { b with az := x }
  | .el => { b with el := x }

def ByAxis.map {α β : Type} (b : ByAxis α) (f : α → β) : ByAxis β :=
  { az := f b.az, el := f b.el }

def ByDirection.get {α : Type} (b : ByDirection α) : Direction → α
  | .one => b.one
  | .two => b.two

def ByDirection.set {α : Type} (b : ByDirection α) (d : Direction) (x : α) : ByDirection α :=
  match d with
  | .one => { b with one := x }
  | .two => { b with two := x }

/-- The antennas in a set drawn from MAIN and DIV, such as the confirmed set (R85). -/
structure AntennaSet where
  main : Bool
  div : Bool
  deriving DecidableEq, Repr

/-- The identity of a proposal: its proposer's station and its number (R68, R129). -/
structure ProposalId where
  proposer : Nat
  number : Nat
  deriving DecidableEq, Repr

/-- The header of a route frame, without its kind and length, which the body gives (R106). -/
structure Header where
  source : Nat
  dest : Nat
  hop : Nat
  hopEnd : HopEnd
  deriving DecidableEq, Repr

/-- The margin progress a STATUS carries (R106, R181). -/
structure MarginProgress where
  direction : Nat
  role : MarginRole
  step : Nat
  doneOne : Bool
  doneTwo : Bool
  deriving DecidableEq, Repr

/-- The body of a STATUS frame (R106). -/
structure StatusBody where
  phase : Phase
  lastStation : Nat
  lastNumber : Nat
  mainConfirmed : Bool
  divConfirmed : Bool
  wantsLevel : Bool
  supplyLow : Bool
  clash : Bool
  ident : IdentState
  level : Option Level
  soakSeconds : Nat
  progress : MarginProgress
  deriving DecidableEq, Repr

/-- The body of a LEVEL frame (R106). -/
structure LevelBody where
  antenna : Antenna
  level : Option Level
  range : RangeState
  ident : IdentState
  deriving DecidableEq, Repr

/-- The body of a PROPOSE frame (R106). -/
structure ProposeBody where
  number : Nat
  target : Phase
  role : Antenna
  deriving DecidableEq, Repr

/-- The body of an ANSWER frame; accept is the outcome, reason is absent when sent as 0 (R106). -/
structure AnswerBody where
  proposer : Nat
  number : Nat
  target : Phase
  accept : Bool
  reason : Option DeclineReason
  deriving DecidableEq, Repr

/-- The top level of a verdict record and its deviation from G, present together (R77). -/
structure TopFigures where
  level : Level
  deviation : Int
  deriving DecidableEq, Repr

/-- A verdict record, and the body of a VERDICT frame (R77, R106). -/
structure VerdictRecord where
  id : ProposalId
  role : Antenna
  verdict : Verdict
  top : Option TopFigures
  predicted : Level
  xpd : Option Int
  diversity : Option Int
  positionSuspect : Bool
  foreignSeen : Bool
  outsideSeen : Bool
  listOverflow : Bool
  deriving DecidableEq, Repr

/-- The body of a DIGEST frame (R106, R175). -/
structure DigestBody where
  final : Bool
  verdict : Option SoakVerdict
  incomplete : Bool
  seconds : Nat
  clean : Nat
  errored : Nat
  bad : Nat
  outage : Nat
  periods : Nat
  fades : Nat
  deepest : Option Level
  deriving DecidableEq, Repr

/-- The body of an MTEST frame but for its event (R106). -/
structure MtestBody where
  direction : Direction
  step : Nat
  atten : Nat
  margin : Nat
  capped : Bool
  atZero : Bool
  deriving DecidableEq, Repr

/-- The body of a route frame, by kind (R106). -/
inductive FrameBody where
  | status (b : StatusBody)
  | level (b : LevelBody)
  | propose (b : ProposeBody)
  | answer (b : AnswerBody)
  | verdict (b : VerdictRecord)
  | digest (b : DigestBody)
  | mtest (e : MtestEvent) (b : MtestBody)
  deriving DecidableEq, Repr

/-- A route frame as its fields (R106). -/
structure Frame where
  header : Header
  body : FrameBody
  deriving DecidableEq, Repr

/-- A calibration as a record gives it: offset and slope (R5). -/
structure Calibration where
  offset : Int
  slope : Nat
  deriving DecidableEq, Repr

/-- One profile of the Setup Record as given (fields 31 to 38, 39 to 46 of R195). -/
structure ProfileFields where
  shift : Nat
  filter : Nat
  thresholds : ByRole Level
  hysteresis : Nat
  cueOn : Nat
  deriving DecidableEq, Repr

/-- The Setup Record as given, its fields in the order of the table of R195. -/
structure SetupRecord where
  station : Nat
  hop : Nat
  partner : Nat
  hopEnd : Nat
  calibration : ByInput Calibration
  inputs : ByRole Nat
  diversity : Nat
  dualPol : Nat
  predictedMain : Level
  predictedDiv : Level
  mainTolerance : Nat
  sideDepth : Nat
  asymmetryLimit : Nat
  requiredXpd : Nat
  imbalanceLimit : Nat
  columns : Nat
  rows : Nat
  cellWidth : Nat
  cellHeight : Nat
  filterTicks : Nat
  align : ProfileFields
  soak : ProfileFields
  toneFloor : Level
  toneStep : Nat
  meterFloor : Level
  meterSpan : Nat
  modulus : Nat
  words : Option (List (BitVec 16))
  soakMinutes : Nat
  maxErrored : Nat
  maxBad : Nat
  maxOutage : Nat
  marginEnable : Nat
  marginStep : Nat
  marginDwell : Nat
  requiredMargin : Nat
  attenSources : Nat
  supplyLow : Nat
  deriving DecidableEq, Repr

/-- The commands of the part, one constructor per row of spec/opcode_table.json. -/
inductive Instr where
  /-- HARD_RESET -/
  | hardReset
  /-- SAMPLE_EVENT: the four detector codes of one set (R1) -/
  | sampleEvent (codes : ByInput Nat)
  /-- RANGE_WARNING_CLEAR: the input whose 1000th IN sample it is (R3) -/
  | rangeWarningClear (i : Input)
  /-- FADE_START: the role and the sample that completes its run (R18) -/
  | fadeStart (r : Role) (level : Level)
  /-- FADE_END: the role and the sample that completes its clear run (R19) -/
  | fadeEnd (r : Role) (level : Level)
  /-- BLOCK_CLOSE: the steering sample that is the block's 250th (R25) -/
  | blockClose (level : Level)
  /-- ENCODER_TRANSITION: the axis whose line or lines pass their filters (R38) -/
  | encoderTransition (x : Axis)
  /-- ANALYSIS_COMPLETE (R69) -/
  | analysisComplete
  /-- VERDICT_REPEAT (R79) -/
  | verdictRepeat
  /-- CUE_UPDATE (R91) -/
  | cueUpdate
  /-- STALE_CADENCE (R97) -/
  | staleCadence
  /-- FOREIGN_CADENCE (R98) -/
  | foreignCadence
  /-- TONE_TOGGLE (R95) -/
  | toneToggle
  /-- METER_PERIOD_START (R99) -/
  | meterPeriodStart
  /-- SETUP: the Setup Record as given (R195) -/
  | setup (record : SetupRecord)
  /-- QUERY_STATUS (R192) -/
  | queryStatus
  /-- QUERY_LEVELS (R22) -/
  | queryLevels
  /-- QUERY_POSITION (R43) -/
  | queryPosition
  /-- QUERY_MAP_CELL: column and row (R63) -/
  | queryMapCell (column row : Byte)
  /-- QUERY_MAP_SUMMARY (R64) -/
  | queryMapSummary
  /-- QUERY_LOBES (R86) -/
  | queryLobes
  /-- QUERY_VERDICT (R87) -/
  | queryVerdict
  /-- QUERY_ROSTER (R116) -/
  | queryRoster
  /-- QUERY_SOAK (R189) -/
  | querySoak
  /-- QUERY_FADES (R189) -/
  | queryFades
  /-- QUERY_MARGIN (R189) -/
  | queryMargin
  /-- QUERY_HANDOVER (R199) -/
  | queryHandover
  /-- ADVANCE: target and antenna role bytes (R130, R191) -/
  | advance (target role : Byte)
  /-- ABORT (R141) -/
  | abort
  /-- RESTART (R201) -/
  | restart
  /-- ZERO (R44) -/
  | zero
  /-- CUE: the source byte (R90, R191) -/
  | cue (source : Byte)
  /-- REPORTS: the mask's three bytes (R194) -/
  | reports (mask : BitVec 24)
  /-- UNKNOWN_REQUEST: a checksummed message's type and body (R192) -/
  | unknownRequest (type : Byte) (body : List Byte)
  /-- SITE_FRAMING_ERROR: the length as received (R191) -/
  | siteFramingError (length : Nat)
  /-- SITE_GAP_TIMEOUT: what ends the message, and the character examined afresh, when there is one (R191) -/
  | siteGapTimeout (cut : LineCut)
  /-- SITE_CHECKSUM_ERROR: the characters that arrive on the site port's line (R191) -/
  | siteChecksumError (characters : List Byte)
  /-- SITE_MESSAGE_TRANSMIT (R193) -/
  | siteMessageTransmit
  /-- ROUTE_FRAME_DISCARDED: the characters that arrive on the receive line (R108, R109) -/
  | routeFrameDiscarded (bytes : List Byte)
  /-- ROUTE_GAP_TIMEOUT: what ends the frame, and the character examined afresh, when there is one (R108) -/
  | routeGapTimeout (cut : LineCut)
  /-- RECEIVE_STATUS (R111) -/
  | receiveStatus (h : Header) (b : StatusBody)
  /-- RECEIVE_LEVEL (R110) -/
  | receiveLevel (h : Header) (b : LevelBody)
  /-- RECEIVE_PROPOSE (R134) -/
  | receivePropose (h : Header) (b : ProposeBody)
  /-- RECEIVE_ANSWER (R133) -/
  | receiveAnswer (h : Header) (b : AnswerBody)
  /-- RECEIVE_VERDICT (R81) -/
  | receiveVerdict (h : Header) (b : VerdictRecord)
  /-- RECEIVE_DIGEST (R176) -/
  | receiveDigest (h : Header) (b : DigestBody)
  /-- MTEST_STEP (R186) -/
  | mtestStep (h : Header) (b : MtestBody)
  /-- MTEST_LIMIT (R184) -/
  | mtestLimit (h : Header) (b : MtestBody)
  /-- MTEST_DONE (R186) -/
  | mtestDone (h : Header) (b : MtestBody)
  /-- CARRIER_BUSY_HIGH (R120) -/
  | carrierBusyHigh
  /-- CARRIER_BUSY_LOW (R104) -/
  | carrierBusyLow
  /-- GUARD_COMPLETE (R120) -/
  | guardComplete
  /-- BACKOFF_SLOT_END (R120) -/
  | backoffSlotEnd
  /-- TRANSMISSION_COMPLETE (R105) -/
  | transmissionComplete
  /-- STATUS_TIMER_EXPIRY (R121) -/
  | statusTimerExpiry
  /-- LEVEL_TIMER_EXPIRY (R122) -/
  | levelTimerExpiry
  /-- ANSWER_TIMEOUT (R132) -/
  | answerTimeout
  /-- ENTRY_HOLD_EXPIRY (R143) -/
  | entryHoldExpiry
  /-- AUTOMATIC_TIMER_EXPIRY (R140) -/
  | automaticTimerExpiry
  /-- SECOND_EVENT (R197) -/
  | secondEvent
  /-- KEYING_EDGE (R151) -/
  | keyingEdge
  /-- SYNC_PIN (R155) -/
  | syncPin
  /-- SYNC_WORD_FOUND (R160) -/
  | syncWordFound
  /-- PATTERN_WORD_COMPLETE (R162) -/
  | patternWordComplete
  /-- WORD_INTERVAL_END (R159) -/
  | wordIntervalEnd
  /-- DIGEST_TIMER_EXPIRY (R175) -/
  | digestTimerExpiry
  /-- DWELL_EXPIRY (R182) -/
  | dwellExpiry
  /-- MARGIN_STEP_WRITE (R182) -/
  | marginStepWrite
  /-- STEP_ANNOUNCE (R182) -/
  | stepAnnounce
  /-- DONE_REPEAT (R185) -/
  | doneRepeat
  /-- SILENCE_ABORT (R187) -/
  | silenceAbort
  /-- SUPPLY_CROSSING: the input's new value in mV (R198) -/
  | supplyCrossing (millivolts : Nat)
  /-- SUPPLY_DEBOUNCE_EXPIRY (R198) -/
  | supplyDebounceExpiry
  /-- ENCODER_LINE_CHANGE: the axis, the line and its new raw level (R37) -/
  | encoderLineChange (x : Axis) (l : Line) (high : Bool)
  /-- SYNC_INPUT_CHANGE: the new raw level (R155) -/
  | syncInputChange (high : Bool)
  /-- SYNC_FILTERED_FALL (R155) -/
  | syncFilteredFall
  /-- PATTERN_CLOCK_EDGE: the bit on the pattern input (R158) -/
  | patternClockEdge (bit : Bool)
  deriving DecidableEq, Repr

end Sys2Proof
end

