-- ==== Sys2Proof/Machine/Frames.lean ====
section
/-! DEFINITION. Route frames (R106 to R109): the ranges of their fields, their bytes, the check, and the
judgement of a frame taken whole. -/

namespace Sys2Proof

/-- A number that a signed 16-bit field can hold (R106). -/
def fits16 (x : Int) : Bool := decide (-32768 ≤ x) && decide (x ≤ 32767)

/-- An optional signed 16-bit field. -/
def fitsOpt (x : Option Int) : Bool :=
  match x with
  | none => true
  | some v => fits16 v

/-- Station numbers run 1 to 15 (R106). -/
def stationOk (n : Nat) : Bool := decide (1 ≤ n) && decide (n ≤ 15)

/-- Proposal numbers run 1 to 255 (R106). -/
def numberOk (n : Nat) : Bool := decide (1 ≤ n) && decide (n ≤ 255)

/-- Hops run 1 to 7 (R106). -/
def hopOk (n : Nat) : Bool := decide (1 ≤ n) && decide (n ≤ 7)

/-- Unsigned counts of three bytes (R106). -/
def count24Ok (n : Nat) : Bool := decide (n ≤ 16777215)

/-- The foreign hop of an ident state is 1 to 7 (R106). -/
def IdentState.wellFormed : IdentState → Bool
  | .noKeying => true
  | .unsure => true
  | .own => true
  | .foreign h => hopOk h

/-- The header's ranges: source 1 to 15, destination 0 to 15, hop 1 to 7 (R109). -/
def Header.wellFormed (h : Header) : Bool :=
  stationOk h.source && decide (h.dest ≤ 15) && hopOk h.hop

def StatusBody.wellFormed (b : StatusBody) : Bool :=
  decide (b.lastStation ≤ 15) && decide (b.lastNumber ≤ 255) && b.ident.wellFormed &&
    fitsOpt b.level && count24Ok b.soakSeconds && decide (b.progress.direction ≤ 2) &&
    decide (b.progress.step ≤ 255)

def LevelBody.wellFormed (b : LevelBody) : Bool := fitsOpt b.level && b.ident.wellFormed

/-- The antenna role of a PROPOSE is sent as 0 unless its target is SWEEP (R106). -/
def ProposeBody.wellFormed (b : ProposeBody) : Bool :=
  numberOk b.number && (b.role == .main || b.target == .sweep)

def AnswerBody.wellFormed (b : AnswerBody) : Bool := stationOk b.proposer && numberOk b.number

def TopFigures.wellFormed (t : TopFigures) : Bool := fits16 t.level && fits16 t.deviation

def VerdictRecord.wellFormed (b : VerdictRecord) : Bool :=
  stationOk b.id.proposer && numberOk b.id.number &&
    (match b.top with | none => true | some t => t.wellFormed) &&
    fits16 b.predicted && fitsOpt b.xpd && fitsOpt b.diversity

def DigestBody.wellFormed (b : DigestBody) : Bool :=
  count24Ok b.seconds && count24Ok b.clean && count24Ok b.errored && count24Ok b.bad &&
    count24Ok b.outage && decide (b.periods ≤ 65535) && decide (b.fades ≤ 65535) && fitsOpt b.deepest

def MtestBody.wellFormed (b : MtestBody) : Bool :=
  decide (b.step ≤ 255) && decide (b.atten ≤ 63) && decide (b.margin ≤ 63)

def FrameBody.wellFormed : FrameBody → Bool
  | .status b => b.wellFormed
  | .level b => b.wellFormed
  | .propose b => b.wellFormed
  | .answer b => b.wellFormed
  | .verdict b => b.wellFormed
  | .digest b => b.wellFormed
  | .mtest _ b => b.wellFormed

/-- A frame none of whose fields is outside the values the table of 7.2 gives (R109; log 14). -/
def Frame.wellFormed (f : Frame) : Bool := f.header.wellFormed && f.body.wellFormed

/-! ### Codes -/

def FrameBody.kind : FrameBody → FrameKind
  | .status _ => .status
  | .level _ => .level
  | .propose _ => .propose
  | .answer _ => .answer
  | .verdict _ => .verdict
  | .digest _ => .digest
  | .mtest _ _ => .mtest

/-- Header byte 0 (R106). -/
def FrameKind.code : FrameKind → Byte
  | .status => 0x11
  | .level => 0x12
  | .propose => 0x21
  | .answer => 0x22
  | .verdict => 0x31
  | .digest => 0x32
  | .mtest => 0x41

def FrameKind.ofCode (c : Byte) : Option FrameKind :=
  if c = 0x11 then some .status
  else if c = 0x12 then some .level
  else if c = 0x21 then some .propose
  else if c = 0x22 then some .answer
  else if c = 0x31 then some .verdict
  else if c = 0x32 then some .digest
  else if c = 0x41 then some .mtest
  else none

/-- The fixed body length of each kind, in bytes (R106). -/
def FrameKind.bodyLength : FrameKind → Nat
  | .status => 14
  | .level => 5
  | .propose => 3
  | .answer => 5
  | .verdict => 15
  | .digest => 22
  | .mtest => 6

/-- A frame's length in bytes is its body length plus 12 (R106). -/
def FrameKind.length (k : FrameKind) : Nat := k.bodyLength + 12

/-- The class of each kind in the transmit queue; 1 is the highest (R107). -/
def FrameKind.queueClass : FrameKind → Nat
  | .answer => 1
  | .propose => 2
  | .mtest => 3
  | .verdict => 4
  | .digest => 4
  | .level => 5
  | .status => 6

def Phase.code : Phase → Nat
  | .idle => 0
  | .beacon => 1
  | .sweep => 2
  | .confirm => 3
  | .soak => 4
  | .margin => 5
  | .handover => 6
  | .halted => 7

def Phase.ofCode : Nat → Option Phase
  | 0 => some .idle
  | 1 => some .beacon
  | 2 => some .sweep
  | 3 => some .confirm
  | 4 => some .soak
  | 5 => some .margin
  | 6 => some .handover
  | 7 => some .halted
  | _ => none

def Antenna.code : Antenna → Nat
  | .main => 0
  | .div => 1

def Antenna.ofCode : Nat → Option Antenna
  | 0 => some .main
  | 1 => some .div
  | _ => none

def RangeState.code : RangeState → Nat
  | .inRange => 0
  | .under => 1
  | .over => 2

def RangeState.ofCode : Nat → Option RangeState
  | 0 => some .inRange
  | 1 => some .under
  | 2 => some .over
  | _ => none

/-- STATUS byte 4: state in bits 0 to 3, foreign hop in bits 4 to 7 (R106). -/
def IdentState.code : IdentState → Nat
  | .noKeying => 0
  | .unsure => 1
  | .own => 2
  | .foreign h => 3 + 16 * h

def IdentState.ofCode (n : Nat) : Option IdentState :=
  if n = 0 then some .noKeying
  else if n = 1 then some .unsure
  else if n = 2 then some .own
  else if n % 16 = 3 && hopOk (n / 16) then some (.foreign (n / 16))
  else none

def MarginRole.code : MarginRole → Nat
  | .none => 0
  | .transmitting => 1
  | .judge => 2

def MarginRole.ofCode : Nat → Option MarginRole
  | 0 => some .none
  | 1 => some .transmitting
  | 2 => some .judge
  | _ => none

def reasonCode : Option DeclineReason → Nat
  | none => 0
  | some .notLegal => 1
  | some .notReady => 2
  | some .notConfirmed => 3
  | some .halted => 4
  | some .crossed => 5

def reasonOfCode : Nat → Option (Option DeclineReason)
  | 0 => some none
  | 1 => some (some .notLegal)
  | 2 => some (some .notReady)
  | 3 => some (some .notConfirmed)
  | 4 => some (some .halted)
  | 5 => some (some .crossed)
  | _ => none

def Verdict.code : Verdict → Nat
  | .noData => 0
  | .mainFound => 1
  | .unresolved => 2
  | .mainLow => 3
  | .sideOnly => 4

def Verdict.ofCode : Nat → Option Verdict
  | 0 => some .noData
  | 1 => some .mainFound
  | 2 => some .unresolved
  | 3 => some .mainLow
  | 4 => some .sideOnly
  | _ => none

def soakVerdictCode : Option SoakVerdict → Nat
  | none => 0
  | some .pass => 1
  | some .fail => 2

def soakVerdictOfCode : Nat → Option (Option SoakVerdict)
  | 0 => some none
  | 1 => some (some .pass)
  | 2 => some (some .fail)
  | _ => none

def MtestEvent.code : MtestEvent → Nat
  | .step => 1
  | .limit => 2
  | .done => 3

def MtestEvent.ofCode : Nat → Option MtestEvent
  | 1 => some .step
  | 2 => some .limit
  | 3 => some .done
  | _ => none

def Direction.code : Direction → Nat
  | .one => 1
  | .two => 2

def Direction.ofCode : Nat → Option Direction
  | 1 => some .one
  | 2 => some .two
  | _ => none

/-- The outcome byte of an ANSWER: 0 ACCEPT, 1 DECLINE (R106). -/
def outcomeOfCode : Nat → Option Bool
  | 0 => some true
  | 1 => some false
  | _ => none

/-! ### Bytes -/

def byteOf (n : Nat) : Byte := BitVec.ofNat 8 n

/-- A flag at bit n of a byte. -/
def flagAt (b : Bool) (n : Nat) : Nat := if b then 2 ^ n else 0

/-- Bit n of a byte. -/
def bitAt (b : Byte) (n : Nat) : Bool := b.getLsbD n

/-- Two bytes, most significant first (R106). -/
def u16 (n : Nat) : List Byte := [byteOf (n / 256), byteOf n]

/-- Three bytes, most significant first (R106). -/
def u24 (n : Nat) : List Byte := [byteOf (n / 65536), byteOf (n / 256), byteOf n]

/-- A signed 16-bit value in two's complement, most significant byte first (R106). -/
def i16 (x : Int) : List Byte := u16 (BitVec.ofInt 16 x).toNat

/-- An absent field is sent as 0 (R106). -/
def i16Opt : Option Int → List Byte
  | none => i16 0
  | some x => i16 x

def nat16 (h l : Byte) : Nat := h.toNat * 256 + l.toNat

def nat24 (h m l : Byte) : Nat := h.toNat * 65536 + m.toNat * 256 + l.toNat

def int16 (h l : Byte) : Int := (BitVec.ofNat 16 (nat16 h l)).toInt

def optInt (present : Bool) (x : Int) : Option Int := if present then some x else none

/-! ### Bodies (the table of R106) -/

def StatusBody.flags (b : StatusBody) : Nat :=
  flagAt b.mainConfirmed 0 + flagAt b.divConfirmed 1 + flagAt b.wantsLevel 2 + flagAt b.supplyLow 3 +
    flagAt b.clash 4 + flagAt b.level.isSome 5

def StatusBody.bytes (b : StatusBody) : List Byte :=
  [byteOf b.phase.code, byteOf b.lastStation, byteOf b.lastNumber, byteOf b.flags, byteOf b.ident.code] ++
    i16Opt b.level ++ u24 b.soakSeconds ++
    [byteOf b.progress.direction, byteOf b.progress.role.code, byteOf b.progress.step,
      byteOf (flagAt b.progress.doneOne 0 + flagAt b.progress.doneTwo 1)]

/-- A STATUS body read; the bytes of an absent field are not looked at, here and in the other kinds: the model's choice
(R109; log 44). -/
def StatusBody.ofBytes : List Byte → Option StatusBody
  | [p, ls, ln, fl, id, l1, l0, s2, s1, s0, md, mr, ms, dn] =>
    match Phase.ofCode p.toNat, IdentState.ofCode id.toNat, MarginRole.ofCode mr.toNat with
    | some phase, some ident, some role =>
      some
        { phase := phase, lastStation := ls.toNat, lastNumber := ln.toNat,
          mainConfirmed := bitAt fl 0, divConfirmed := bitAt fl 1, wantsLevel := bitAt fl 2,
          supplyLow := bitAt fl 3, clash := bitAt fl 4, ident := ident,
          level := optInt (bitAt fl 5) (int16 l1 l0), soakSeconds := nat24 s2 s1 s0,
          progress :=
            { direction := md.toNat, role := role, step := ms.toNat,
              doneOne := bitAt dn 0, doneTwo := bitAt dn 1 } }
    | _, _, _ => none
  | _ => none

def LevelBody.bytes (b : LevelBody) : List Byte :=
  [byteOf b.antenna.code, byteOf (flagAt b.level.isSome 0 + 2 * b.range.code)] ++ i16Opt b.level ++
    [byteOf b.ident.code]

def LevelBody.ofBytes : List Byte → Option LevelBody
  | [a, fl, l1, l0, id] =>
    match Antenna.ofCode a.toNat, RangeState.ofCode (fl.toNat / 2 % 4), IdentState.ofCode id.toNat with
    | some antenna, some range, some ident =>
      some { antenna := antenna, level := optInt (bitAt fl 0) (int16 l1 l0), range := range, ident := ident }
    | _, _, _ => none
  | _ => none

def ProposeBody.bytes (b : ProposeBody) : List Byte :=
  [byteOf b.number, byteOf b.target.code, byteOf b.role.code]

def ProposeBody.ofBytes : List Byte → Option ProposeBody
  | [n, t, r] =>
    match Phase.ofCode t.toNat, Antenna.ofCode r.toNat with
    | some target, some role => some { number := n.toNat, target := target, role := role }
    | _, _ => none
  | _ => none

def AnswerBody.bytes (b : AnswerBody) : List Byte :=
  [byteOf b.proposer, byteOf b.number, byteOf b.target.code, byteOf (if b.accept then 0 else 1),
    byteOf (reasonCode b.reason)]

def AnswerBody.ofBytes : List Byte → Option AnswerBody
  | [p, n, t, o, r] =>
    match Phase.ofCode t.toNat, outcomeOfCode o.toNat, reasonOfCode r.toNat with
    | some target, some accept, some reason =>
      some { proposer := p.toNat, number := n.toNat, target := target, accept := accept, reason := reason }
    | _, _, _ => none
  | _ => none

def VerdictRecord.flags (b : VerdictRecord) : Nat :=
  flagAt b.top.isSome 0 + flagAt b.xpd.isSome 1 + flagAt b.diversity.isSome 2 + flagAt b.positionSuspect 3 +
    flagAt b.foreignSeen 4 + flagAt b.outsideSeen 5 + flagAt b.listOverflow 6

def VerdictRecord.bytes (b : VerdictRecord) : List Byte :=
  [byteOf b.id.proposer, byteOf b.id.number, byteOf b.role.code, byteOf b.verdict.code, byteOf b.flags] ++
    i16Opt (b.top.map TopFigures.level) ++ i16 b.predicted ++ i16Opt (b.top.map TopFigures.deviation) ++
    i16Opt b.xpd ++ i16Opt b.diversity

def VerdictRecord.ofBytes : List Byte → Option VerdictRecord
  | [p, n, r, v, fl, t1, t0, g1, g0, d1, d0, x1, x0, y1, y0] =>
    match Antenna.ofCode r.toNat, Verdict.ofCode v.toNat with
    | some role, some verdict =>
      some
        { id := { proposer := p.toNat, number := n.toNat }, role := role, verdict := verdict,
          top :=
            if bitAt fl 0 then some { level := int16 t1 t0, deviation := int16 d1 d0 } else none,
          predicted := int16 g1 g0, xpd := optInt (bitAt fl 1) (int16 x1 x0),
          diversity := optInt (bitAt fl 2) (int16 y1 y0), positionSuspect := bitAt fl 3,
          foreignSeen := bitAt fl 4, outsideSeen := bitAt fl 5, listOverflow := bitAt fl 6 }
    | _, _ => none
  | _ => none

def DigestBody.flags (b : DigestBody) : Nat :=
  flagAt b.final 0 + 2 * soakVerdictCode b.verdict + flagAt b.incomplete 3 + flagAt b.deepest.isSome 4

def DigestBody.bytes (b : DigestBody) : List Byte :=
  [byteOf b.flags] ++ u24 b.seconds ++ u24 b.clean ++ u24 b.errored ++ u24 b.bad ++ u24 b.outage ++
    u16 b.periods ++ u16 b.fades ++ i16Opt b.deepest

def DigestBody.ofBytes : List Byte → Option DigestBody
  | [fl, s2, s1, s0, c2, c1, c0, e2, e1, e0, b2, b1, b0, o2, o1, o0, p1, p0, f1, f0, d1, d0] =>
    match soakVerdictOfCode (fl.toNat / 2 % 4) with
    | some verdict =>
      some
        { final := bitAt fl 0, verdict := verdict, incomplete := bitAt fl 3, seconds := nat24 s2 s1 s0,
          clean := nat24 c2 c1 c0, errored := nat24 e2 e1 e0, bad := nat24 b2 b1 b0,
          outage := nat24 o2 o1 o0, periods := nat16 p1 p0, fades := nat16 f1 f0,
          deepest := optInt (bitAt fl 4) (int16 d1 d0) }
    | none => none
  | _ => none

def MtestBody.bytes (e : MtestEvent) (b : MtestBody) : List Byte :=
  [byteOf e.code, byteOf b.direction.code, byteOf b.step, byteOf b.atten, byteOf b.margin,
    byteOf (flagAt b.capped 0 + flagAt b.atZero 1)]

def MtestBody.ofBytes : List Byte → Option (MtestEvent × MtestBody)
  | [e, d, k, a, m, fl] =>
    match MtestEvent.ofCode e.toNat, Direction.ofCode d.toNat with
    | some event, some direction =>
      some
        (event,
          { direction := direction, step := k.toNat, atten := a.toNat, margin := m.toNat,
            capped := bitAt fl 0, atZero := bitAt fl 1 })
    | _, _ => none
  | _ => none

def FrameBody.bytes : FrameBody → List Byte
  | .status b => b.bytes
  | .level b => b.bytes
  | .propose b => b.bytes
  | .answer b => b.bytes
  | .verdict b => b.bytes
  | .digest b => b.bytes
  | .mtest e b => b.bytes e

/-- A body of the kind's fixed length, read field by field; none where a field holds a code the table of
7.2 does not give (R109). -/
def FrameBody.ofBytes (k : FrameKind) (bs : List Byte) : Option FrameBody :=
  match k with
  | .status => (StatusBody.ofBytes bs).map .status
  | .level => (LevelBody.ofBytes bs).map .level
  | .propose => (ProposeBody.ofBytes bs).map .propose
  | .answer => (AnswerBody.ofBytes bs).map .answer
  | .verdict => (VerdictRecord.ofBytes bs).map .verdict
  | .digest => (DigestBody.ofBytes bs).map .digest
  | .mtest => (MtestBody.ofBytes bs).map fun eb => .mtest eb.1 eb.2

/-! ### The check -/

/-- One bit of the CRC register, generator x^16 + x^12 + x^5 + 1 (R106). -/
def crcShift (r : BitVec 16) : BitVec 16 :=
  if r.getLsbD 15 then (r <<< 1) ^^^ 0x1021 else r <<< 1

/-- k bits of the CRC register. -/
def crcShifts : Nat → BitVec 16 → BitVec 16
  | 0, r => r
  | k + 1, r => crcShifts k (crcShift r)

/-- One byte, most significant bit first (R106). -/
def crcByte (r : BitVec 16) (b : Byte) : BitVec 16 :=
  crcShifts 8 (r ^^^ (BitVec.ofNat 16 (b.toNat * 256)))

/-- The check over header and body bytes, starting at all ones (R106). -/
def crc16 (bs : List Byte) : BitVec 16 := bs.foldl crcByte 0xFFFF

/-! ### Whole frames -/

/-- Header byte 3: hop in bits 0 to 2, end in bit 7 (R106). -/
def Header.hopByte (h : Header) : Byte :=
  byteOf (h.hop + match h.hopEnd with | .a => 0 | .b => 128)

/-- The header and body bytes, over which the check runs (R106). -/
def Frame.core (f : Frame) : List Byte :=
  [f.body.kind.code, byteOf f.header.source, byteOf f.header.dest, f.header.hopByte,
    byteOf f.body.kind.bodyLength] ++ f.body.bytes

/-- What follows the delimiter: header, body, check (R106). -/
def Frame.afterDelimiter (f : Frame) : List Byte := f.core ++ u16 (crc16 f.core).toNat

/-- Every byte of the frame as it is sent: preamble, delimiter, header, body, check (R106). -/
def Frame.wire (f : Frame) : List Byte := [0x55, 0x55, 0x55, 0x9E, 0x35] ++ f.afterDelimiter

/-- How a run of bytes after a delimiter is judged (R108, R109). -/
inductive Judged where
  | truncated
  | oversize
  | crcError
  | malformed
  | good (f : Frame)
  deriving DecidableEq, Repr

/-- The header's fields from bytes 1 to 3; bits 3 to 6 of byte 3 are ignored (R106). -/
def Header.ofBytes (src dst he : Byte) : Header :=
  { source := src.toNat, dest := dst.toNat, hop := he.toNat % 8,
    hopEnd := if bitAt he 7 then .b else .a }

/-- A body whose check is right: malformed, or the frame it spells (R109). -/
def judgeBody (kind src dst he : Byte) (body : List Byte) : Judged :=
  match FrameKind.ofCode kind with
  | none => .malformed
  | some k =>
    if body.length = k.bodyLength then
      match FrameBody.ofBytes k body with
      | none => .malformed
      | some b =>
        let f : Frame := { header := Header.ofBytes src dst he, body := b }
        if f.wellFormed then .good f else .malformed
    else .malformed

/-- The judgement of the bytes after a delimiter: a body length above 24, too few bytes, the check, then the
fields, in that order; bytes after the check belong to no frame (R108, R109). -/
def judge : List Byte → Judged
  | kind :: src :: dst :: he :: len :: rest =>
    if 24 < len.toNat then .oversize
    else if rest.length < len.toNat + 2 then .truncated
    else
      let body := rest.take len.toNat
      if (rest.drop len.toNat).take 2 = u16 (crc16 ([kind, src, dst, he, len] ++ body)).toNat then
        judgeBody kind src dst he body
      else .crcError
  | _ => .truncated

/-! ### Characters -/

/-- A character's ten line levels, high as true: start bit low, eight data bits least significant first, stop bit
high (R104, R191). -/
def characterOf (b : Byte) : List Bool := false :: (List.range 8).map (fun i => b.getLsbD i) ++ [true]

/-- The levels a line carries for a run of bytes, bit by bit and without gaps (R104, R191). -/
def lineLevels (bs : List Byte) : List Bool := bs.flatMap characterOf

end Sys2Proof
end

