-- ==== Sys2Proof/Config.lean ====
section
/-! DEFINITION. What the part leaves to chance: its random draws, a free value (R119, R121; log 6). -/

namespace Sys2Proof

/-- The n-th random draw of the part. Nothing is known of it: the backoff count of R119 and the random
part of the STATUS timer of R121 are this value modulo the size of their range. Marked DESIGN CHOICE in
log entry 6; safe, since every claim holds whatever the draws are. -/
opaque Config.randomDraw : Nat → Nat

end Sys2Proof
end

