-- ==== Sys2Proof/Machine/State.lean ====
section
/-! DEFINITION. The state of the part as plain data, block by block, and the state after a hard reset. -/

namespace Sys2Proof.Machine

/-- What is left of a timer, in the unit of its chapter: none is stopped, some 0 has run out and its event is
due (log 3, 5). -/
abbrev Timer := Option Nat

/-- The second counter and the index 0..999 of a sample event (R1, R197). -/
structure SampleTime where
  second : Nat
  index : Nat
  deriving DecidableEq, Repr

/-- The timebase (R197). secondDue: the second event of the latest sample event is still to be taken (log 3).
firstTick: no cue-clock tick has come since the hard reset (R47, R155). -/
structure Timebase where
  now : SampleTime
  secondDue : Bool
  firstTick : Bool
  deriving DecidableEq, Repr

/-- What a station is given in its Setup Record and keeps until the next hard reset (0.2, R196). -/
structure Station where
  number : Nat
  hop : Nat
  partner : Nat
  hopEnd : HopEnd
  deriving DecidableEq, Repr

/-! ### Settings -/

/-- The two profiles (R128). -/
inductive Profile where
  | align | soak
  deriving DecidableEq, Repr

/-- A profile's settings as taken (R14, R17, R101). -/
structure ProfileSettings where
  shift : Nat
  filter : Nat
  thresholds : ByRole Level
  hysteresis : Nat
  cueOn : Bool
  deriving DecidableEq, Repr

/-- The map geometry W, H, cw, ch (R48). -/
structure Geometry where
  columns : Nat
  rows : Nat
  cellWidth : Nat
  cellHeight : Nat
  deriving DecidableEq, Repr

/-- A set of apply sources (R155). -/
structure ApplySet where
  second : Bool
  keyingEdge : Bool
  syncPin : Bool
  deriving DecidableEq, Repr

/-- Everything the chapters call "from setup" but the station itself (R195). supplyLow is the code 0..3 of
R198; soakMinutes is the duration as given. -/
structure Settings where
  calibration : ByInput Calibration
  mapping : ByRole Input
  diversity : Bool
  dualPol : Bool
  predicted : ByAntenna Level
  mainTolerance : Nat
  sideDepth : Nat
  asymmetryLimit : Nat
  requiredXpd : Nat
  imbalanceLimit : Nat
  geometry : Geometry
  filterTicks : Nat
  align : ProfileSettings
  soak : ProfileSettings
  toneFloor : Level
  toneStep : Nat
  meterFloor : Level
  meterSpan : Nat
  modulus : Nat
  words : List (BitVec 16)
  soakMinutes : Nat
  maxErrored : Nat
  maxBad : Nat
  maxOutage : Nat
  marginEnabled : Bool
  marginStep : Nat
  marginDwell : Nat
  requiredMargin : Nat
  attenSources : ApplySet
  supplyLow : Nat
  deriving DecidableEq, Repr

/-! ### Level unit (chapter 1) -/

/-- One detector input (R2, R3, R4). -/
structure InputState where
  code : Nat
  sample : Level
  range : RangeState
  warning : Bool
  inCount : Nat
  deriving DecidableEq, Repr

/-- The states of a fade comparator (R17). -/
inductive FadeState where
  | clear | faded
  deriving DecidableEq, Repr

/-- A fade comparator (section 1.4, R17 to R19). -/
structure Comparator where
  state : FadeState
  run : Nat
  runStart : SampleTime
  runMin : Level
  fadeStart : SampleTime
  deepest : Level
  deriving DecidableEq, Repr

/-- A measurement channel (section 1.4). -/
structure Channel where
  acc : Int
  fresh : Bool
  admitted : Nat
  gated : Nat
  cmp : Comparator
  deriving DecidableEq, Repr

structure LevelUnit where
  inputs : ByInput InputState
  steering : Antenna
  channels : ByRole Channel
  deriving DecidableEq, Repr

/-! ### Beacon identifier (chapter 2) -/

/-- A closed block's maximum and minimum (R25). -/
structure Block where
  hi : Level
  lo : Level
  deriving DecidableEq, Repr

structure Identifier where
  running : Bool
  blockCount : Nat
  blockMax : Option Level
  blockMin : Option Level
  closed : List Block
  swing : Option Int
  decision : Option Level
  below : Nat
  lastRise : Option SampleTime
  ring : List Nat
  state : IdentState
  deriving DecidableEq, Repr

/-! ### Position counter (chapter 3) -/

/-- One line of an encoder: its raw and filtered levels, true for high, and its candidate count (R37). -/
structure LineState where
  raw : Bool
  filtered : Bool
  candidate : Nat
  deriving DecidableEq, Repr

structure AxisState where
  lineA : LineState
  lineB : LineState
  count : Int
  saturated : Bool
  slipped : Bool
  slipCount : Nat
  deriving DecidableEq, Repr

/-- The snapshot pair (R42). -/
structure Snapshot where
  az : Int
  el : Int
  azSaturated : Bool
  elSaturated : Bool
  deriving DecidableEq, Repr

structure Position where
  axes : ByAxis AxisState
  snapshot : Snapshot
  deriving DecidableEq, Repr

/-! ### Alignment map (chapter 4) -/

inductive MapState where
  | empty | recording | frozen
  deriving DecidableEq, Repr

/-- A visited cell's record (R50). -/
structure CellRecord where
  column : Nat
  row : Nat
  count : Nat
  best : Level
  visit : Nat
  deriving DecidableEq, Repr

/-- A cell's column and row (R49). -/
structure CellPos where
  column : Nat
  row : Nat
  deriving DecidableEq, Repr

/-- The sweep best: level and cell (R57). -/
structure SweepBest where
  level : Level
  cell : CellPos
  deriving DecidableEq, Repr

/-- The map's slip flag of one axis and its slip mark (R59). -/
structure SlipMark where
  flag : Bool
  mark : Option Nat
  deriving DecidableEq, Repr

/-- The alignment map. cells lists the visited cells in the order of their visit indices; a cell not listed is
unvisited (R50). -/
structure AlignMap where
  state : MapState
  cells : List CellRecord
  visits : Nat
  best : Option SweepBest
  role : Option Antenna
  outside : Nat
  foreign : Nat
  saturated : Nat
  range : Nat
  slips : ByAxis SlipMark
  deriving DecidableEq, Repr

/-! ### Lobe analyser (chapter 5) -/

inductive AnalysisState where
  | notRun | running | complete
  deriving DecidableEq, Repr

/-- The class of a lobe list entry (R75). -/
inductive LobeClass where
  | top | side | minor
  deriving DecidableEq, Repr

/-- An entry of the lobe list (R74). -/
structure LobeEntry where
  cell : CellPos
  level : Level
  visit : Nat
  neighbours : Nat
  supported : Bool
  edge : Bool
  rank : LobeClass
  deriving DecidableEq, Repr

/-- Why a cross-check is REJECTED (R83). -/
inductive RejectReason where
  | localNotMain | partnerNotMain | asymmetry | xpdLow | diversityImbalance
  deriving DecidableEq, Repr

inductive CrossResult where
  | none | pending | confirmed
  | rejected (r : RejectReason)
  deriving DecidableEq, Repr

/-- A kept verdict slot (R78, R84). -/
structure KeptVerdict where
  own : VerdictRecord
  partner : Option VerdictRecord
  result : CrossResult
  deriving DecidableEq, Repr

/-- The lobe analyser. elapsed counts the sample events since the analysis started (R69). -/
structure Analyser where
  state : AnalysisState
  elapsed : Nat
  id : Option ProposalId
  list : List LobeEntry
  overflow : Nat
  own : Option VerdictRecord
  held : Option VerdictRecord
  result : CrossResult
  confirmed : AntennaSet
  kept : ByAntenna (Option KeptVerdict)
  ignored : Nat
  repeatTimer : Timer
  deriving DecidableEq, Repr

/-! ### Cue unit (chapter 6) -/

inductive ToneState where
  | off | tone | stale | foreign
  deriving DecidableEq, Repr

inductive Generator where
  | sounding | stopping | silent
  deriving DecidableEq, Repr

/-- The cue figures QUERY STATUS shows, as they stood after the latest update (R102; log 13). -/
structure CueShown where
  source : CueSource
  tone : ToneState
  cadence : Nat
  stagedHalf : Nat
  modulus : Nat
  stagedDuty : Nat
  used : Option Level
  reference : Option Level
  age : Option Nat
  deriving DecidableEq, Repr

/-- The cue unit. updateDue, cadenceDue and periodDue: an update, a cadence boundary, or the start of the meter
period whose ticks periodCounter counts, is still to be taken (log 3). -/
structure Cue where
  source : CueSource
  updateTimer : Nat
  updateDue : Bool
  tone : ToneState
  cadence : Nat
  cadenceDue : Bool
  stagedHalf : Nat
  liveHalf : Nat
  halfCounter : Nat
  output : Bool
  generator : Generator
  periodCounter : Nat
  periodDue : Bool
  stagedDuty : Nat
  liveDuty : Nat
  used : Option Level
  shown : CueShown
  deriving DecidableEq, Repr

/-! ### Route channel controller (chapter 7) -/

inductive FramerState where
  | hunt | header | body | check
  deriving DecidableEq, Repr

/-- The receive framer and the bytes of the frame in progress (R108). gap is what is left of the 5 ms within which the
next character joins the bytes held; none while nothing is held in HUNT (log 5). -/
structure Framer where
  state : FramerState
  bytes : List Byte
  gap : Timer
  deriving DecidableEq, Repr

inductive Liveness where
  | live | quiet | lost
  deriving DecidableEq, Repr

/-- A level and the sample time at which the roster set it (R110). -/
structure TimedLevel where
  level : Level
  time : SampleTime
  deriving DecidableEq, Repr

/-- A roster entry (R113). -/
structure RosterEntry where
  station : Nat
  hop : Nat
  hopEnd : HopEnd
  phase : Option Phase
  lastAccepted : Option ProposalId
  confirmed : Option AntennaSet
  ident : Option IdentState
  wantsLevel : Bool
  supplyLow : Bool
  clash : Bool
  soakSeconds : Option Nat
  progress : Option MarginProgress
  level : Option TimedLevel
  age : Nat
  liveness : Liveness
  deriving DecidableEq, Repr

/-- A built frame; resend marks a PROPOSE queued again by R132. -/
structure QFrame where
  frame : Frame
  resend : Bool
  deriving DecidableEq, Repr

inductive Contention where
  | empty | defer | backoff | sending
  deriving DecidableEq, Repr

/-- The counters of R124. -/
structure RouteCounters where
  sent : Nat
  good : Nat
  crcErrors : Nat
  malformed : Nat
  truncated : Nat
  clashes : Nat
  dropped : Nat
  replacements : Nat
  deriving DecidableEq, Repr

/-- The route channel controller. idle is the idle time, slot the idle time in the backoff slot in progress, and
sendTime the time since the transmission began, all in ms; wire is the frame on the transmit line. -/
structure Route where
  framer : Framer
  roster : List RosterEntry
  partner : Liveness
  conflict : Bool
  waiting : List QFrame
  inFlight : Option QFrame
  contention : Contention
  backoff : Option Nat
  idle : Nat
  slot : Nat
  sendTime : Nat
  transmitEnable : Bool
  wire : List Byte
  carrierBusy : Bool
  statusTimer : Timer
  levelTimer : Timer
  clash : Bool
  counters : RouteCounters
  deriving DecidableEq, Repr

/-! ### Hop coordinator (chapter 8) -/

inductive HaltCause where
  | operator | partner | partnerRestart
  deriving DecidableEq, Repr

/-- The causes of entry a PHASE report carries (R127). -/
inductive EntryCause where
  | answered | accepted | catchUp
  | halt (c : HaltCause)
  deriving DecidableEq, Repr

/-- The outstanding proposal (R131). -/
structure Proposal where
  number : Nat
  target : Phase
  role : Antenna
  attempts : Nat
  automatic : Bool
  deriving DecidableEq, Repr

/-- The failed proposal (R132). -/
structure FailedProposal where
  number : Nat
  target : Phase
  role : Antenna
  deriving DecidableEq, Repr

/-- The last-answered record (R136); reason absent is an accept. -/
structure AnsweredRecord where
  proposer : Nat
  number : Nat
  target : Phase
  accept : Bool
  reason : Option DeclineReason
  deriving DecidableEq, Repr

structure Coordinator where
  phase : Phase
  haltCause : Option HaltCause
  profile : Profile
  nextNumber : Nat
  outstanding : Option Proposal
  answerTimer : Timer
  failed : Option FailedProposal
  lastAnswered : Option AnsweredRecord
  lastAccepted : Option ProposalId
  entryHold : Timer
  leftPhase : Option Phase
  mismatch : Nat
  autoTimer : Timer
  serial : Nat
  ignored : Nat
  deriving DecidableEq, Repr

/-! ### Test source and pattern checker (chapter 9) -/

inductive BeaconMode where
  | off | keyed | steady
  deriving DecidableEq, Repr

/-- A test-source output: live value, staged value, pending flag (R154). -/
structure Staged (α : Type) where
  live : α
  staged : α
  pending : Bool
  deriving DecidableEq, Repr

/-- The test source. edgeDue: a keying edge is still to be taken (log 3). sync is the sync input's filter. -/
structure Source where
  beacon : Staged BeaconMode
  atten : Staged Nat
  pattern : Staged Bool
  keyOut : Bool
  keyCount : Nat
  edgeDue : Bool
  sync : LineState
  genWord : Nat
  genBit : Nat
  genOut : Bool
  deriving DecidableEq, Repr

inductive SyncState where
  | hunt | confirming | locked
  deriving DecidableEq, Repr

/-- The five per-second counts (R163). -/
structure Totals where
  intervals : Nat
  notLocked : Nat
  bitsChecked : Nat
  bitErrors : Nat
  slips : Nat
  deriving DecidableEq, Repr

/-- The totals of a second as delivered, with the enabled flag (R163). -/
structure Delivery where
  totals : Totals
  enabled : Bool
  deriving DecidableEq, Repr

/-- The pattern checker. wordBits and intervalBits stand at 16 while a completed word or interval is still to be
taken (log 3). -/
structure Checker where
  state : SyncState
  window : BitVec 16
  sinceHunt : Nat
  wordBits : Nat
  expected : Nat
  confirm : Nat
  hits : Nat
  intervalBits : Nat
  totals : Totals
  lockCount : Nat
  slipCount : Nat
  latest : Option Delivery
  deriving DecidableEq, Repr

/-! ### Soak recorder and margin procedure (chapter 10) -/

inductive SoakState where
  | notStarted | waiting | opened | closed | incomplete
  deriving DecidableEq, Repr

/-- The class of a second (R169). -/
inductive SecondClass where
  | clean | errored | bad
  deriving DecidableEq, Repr

inductive Availability where
  | available | outage
  deriving DecidableEq, Repr

/-- A pending second: its number and provisional class (R170). -/
structure PendingSecond where
  number : Nat
  provisional : SecondClass
  deriving DecidableEq, Repr

/-- An open fade (R177). -/
structure OpenFade where
  start : SampleTime
  deepest : Level
  deriving DecidableEq, Repr

/-- A role's fade record (R177). -/
structure FadeRecord where
  openFade : Option OpenFade
  count : Nat
  total : Nat
  longest : Nat
  deepest : Option Level
  deriving DecidableEq, Repr

/-- An entry of the fade list (R179). -/
structure FadeEntry where
  role : Role
  start : SampleTime
  duration : Nat
  deepest : Level
  cut : Bool
  deriving DecidableEq, Repr

/-- The partner digest and its arrival time (R176). -/
structure HeldDigest where
  body : DigestBody
  arrival : SampleTime
  deriving DecidableEq, Repr

/-- The soak recorder. digestTimer counts second events (R175). -/
structure Soak where
  state : SoakState
  settling : Nat
  elapsed : Nat
  availability : Availability
  pending : List PendingSecond
  clean : Nat
  errored : Nat
  bad : Nat
  outage : Nat
  suspect : Nat
  lowSeen : Bool
  periods : Nat
  currentOutage : Nat
  longestOutage : Nat
  verdict : Option SoakVerdict
  latest : Option SecondClass
  fades : ByRole FadeRecord
  joint : Nat
  list : List FadeEntry
  discards : Nat
  digestTimer : Timer
  partnerDigest : Option HeldDigest
  deriving DecidableEq, Repr

inductive DirectionState where
  | notBegun | active | aborted | done
  deriving DecidableEq, Repr

inductive MarginOutcome where
  | pass | fail | aborted
  deriving DecidableEq, Repr

/-- A direction's result (section 10.5). -/
structure MarginResult where
  margin : Option Nat
  capped : Bool
  atZero : Bool
  outcome : MarginOutcome
  deriving DecidableEq, Repr

/-- The margin procedure. current is absent before any direction begins; announceDue: the announcement of a
written step is still to be taken (log 3); doneBody is the DONE the repeats carry (log 23). -/
structure Margin where
  states : ByDirection DirectionState
  current : Option Direction
  stepIndex : Nat
  announced : Nat
  dwell : Nat
  stepDue : Bool
  announceDue : Bool
  heard : Nat
  latched : Option Nat
  results : ByDirection (Option MarginResult)
  acknowledged : ByDirection Bool
  doneTimer : Timer
  doneBody : Option MtestBody
  silence : Nat
  deriving DecidableEq, Repr

/-! ### Handover record (section 11.7) -/

/-- The overall verdict of a handover record (R200). -/
inductive Overall where
  | pending | pass | fail | incomplete
  deriving DecidableEq, Repr

/-- The handover record (R199). -/
structure HandoverRecord where
  station : Station
  predicted : ByAntenna Level
  confirmed : AntennaSet
  kept : ByAntenna (Option KeptVerdict)
  soakState : SoakState
  seconds : Nat
  clean : Nat
  errored : Nat
  bad : Nat
  outage : Nat
  periods : Nat
  longestOutage : Nat
  verdict : Option SoakVerdict
  partnerDigest : Option HeldDigest
  fades : ByRole (Option FadeRecord)
  joint : Nat
  list : List FadeEntry
  discards : Nat
  results : Option (ByDirection (Option MarginResult))
  suspect : Nat
  clashes : Nat
  overall : Overall
  deriving DecidableEq, Repr

/-! ### Site port (chapter 11) -/

/-- The event flags: one per kind, per input for RANGE and per role for FADE (R194). -/
inductive EventFlag where
  | range (i : Input)
  | ident | foreign | slip
  | fade (r : Role)
  | verdict | crosscheck | clash | endsConflict | partner | phase | proposal | mismatch
  | pattern | outage | soak | margin | supply | handover
  deriving DecidableEq, Repr

/-- The outcomes a PROPOSAL report carries (R133, R132, R138). -/
inductive ProposalOutcome where
  | accepted | declined | withdrawn | failed | cancelled | joined
  deriving DecidableEq, Repr

/-- The two OUTAGE events (R172). -/
inductive OutageEvent where
  | start | finish
  deriving DecidableEq, Repr

/-- The reports, with the content R194 lists. -/
inductive Report where
  | range (i : Input) (r : RangeState)
  | ident (s : IdentState)
  | foreign (hop : Nat) (steering : Antenna) (swing : Option Int) (decision : Option Level)
  | slip (x : Axis) (count : Nat) (snapshot : Snapshot)
  | fade (r : Role) (ended : Bool) (start : SampleTime) (duration : Nat) (deepest : Level)
  | verdict (v : Verdict) (role : Antenna) (top : Option TopFigures)
      (positionSuspect foreignSeen outsideSeen listOverflow : Bool)
  | crosscheck (r : CrossResult) (role : Antenna) (confirmed : AntennaSet)
  | clash (kind : Option FrameKind) (hop : Nat) (hopEnd : HopEnd)
  | endsConflict (hop : Nat) (hopEnd : HopEnd)
  | partner (l : Liveness) (age : Nat)
  | phase (left entered : Phase) (cause : EntryCause)
  | proposal (number : Nat) (target : Phase) (outcome : ProposalOutcome) (reason : Option DeclineReason)
  | mismatch (own partner : Phase)
  | pattern (s : SyncState) (locks slips : Nat)
  | outage (e : OutageEvent) (second periods length : Nat)
  | soak (s : SoakState) (v : Option SoakVerdict) (seconds clean errored bad outage : Nat)
  | margin (d : Direction) (role : MarginRole) (margin : Option Nat) (capped atZero : Bool)
      (outcome : MarginOutcome)
  | supply (low : Bool)
  | handover (v : Overall)
  deriving DecidableEq, Repr

/-- The refusal reasons of R191. -/
inductive RefuseReason where
  | unconfigured | notNow | busy | notLegal | notReady | notConfirmed | partnerLost | proposalPending
  | endsConflict | badField
  deriving DecidableEq, Repr

/-- The identifier's part of QUERY STATUS (R34). -/
structure IdentReply where
  running : Bool
  state : IdentState
  closedBlocks : Nat
  swing : Option Int
  decision : Option Level
  ringCount : Nat
  ring : List Nat
  deriving DecidableEq, Repr

/-- The cue unit's part of QUERY STATUS (R102); pitch is the p of the staged half-period. -/
structure CueReply where
  shown : CueShown
  pitch : Nat
  generator : Generator
  liveHalf : Nat
  liveDuty : Nat
  deriving DecidableEq, Repr

/-- The coordinator's part of QUERY STATUS (R147). -/
structure HopReply where
  phase : Phase
  haltCause : Option HaltCause
  profile : Profile
  configured : Bool
  outstanding : Option Proposal
  failed : Option FailedProposal
  lastAnswered : Option AnsweredRecord
  lastAccepted : Option ProposalId
  nextNumber : Nat
  mismatch : Nat
  entryHold : Bool
  autoTimer : Bool
  serial : Nat
  ignored : Nat
  partner : Liveness
  conflict : Bool
  deriving DecidableEq, Repr

/-- The keying figures, shown while KEYED (R164). -/
structure KeyingFigures where
  output : Bool
  count : Nat
  deriving DecidableEq, Repr

/-- The test source's and the checker's part of QUERY STATUS (R164). -/
structure SourceReply where
  beacon : Staged BeaconMode
  beaconSet : ApplySet
  atten : Staged Nat
  attenSet : ApplySet
  pattern : Staged Bool
  patternSet : ApplySet
  keying : Option KeyingFigures
  syncFiltered : Bool
  genWord : Nat
  genBit : Nat
  state : SyncState
  expected : Nat
  confirm : Nat
  hits : Nat
  totals : Totals
  latest : Option Delivery
  lockCount : Nat
  slipCount : Nat
  deriving DecidableEq, Repr

/-- The counters of R193: malformed and truncated together, checksum errors, report drops, request overruns. -/
structure SiteCounters where
  malformed : Nat
  checksum : Nat
  drops : Nat
  overruns : Nat
  deriving DecidableEq, Repr

/-- The QUERY STATUS reply (R192). -/
structure StatusReply where
  ident : IdentReply
  cue : CueReply
  hop : HopReply
  source : SourceReply
  flags : List EventFlag
  mask : BitVec 19
  counters : SiteCounters
  supplyLow : Bool
  configured : Bool
  second : Nat
  deriving DecidableEq, Repr

/-- One role's figures in QUERY LEVELS (R22). -/
structure RoleFigures where
  input : Input
  range : RangeState
  level : Option Level
  admitted : Nat
  gated : Nat
  fade : FadeState
  deriving DecidableEq, Repr

/-- The QUERY LEVELS reply (R22). -/
structure LevelsReply where
  roles : ByRole RoleFigures
  warnings : ByInput Bool
  steering : Antenna
  gate : Bool
  xpdMain : Option Int
  xpdDiv : Option Int
  diversity : Option Int
  deriving DecidableEq, Repr

/-- The QUERY POSITION reply (R43). -/
structure PositionReply where
  snapshot : Snapshot
  slipped : ByAxis Bool
  slipCounts : ByAxis Nat
  filterTicks : Nat
  deriving DecidableEq, Repr

/-- The QUERY MAP CELL reply (R63). -/
structure MapCellReply where
  serial : Nat
  state : MapState
  column : Nat
  row : Nat
  count : Nat
  best : Option Level
  visit : Option Nat
  centreAz : Int
  centreEl : Int
  current : Bool
  deriving DecidableEq, Repr

/-- The QUERY MAP SUMMARY reply (R64); cell is absent when the snapshot is OUTSIDE. -/
structure MapSummaryReply where
  state : MapState
  serial : Nat
  geometry : Geometry
  role : Option Antenna
  visits : Nat
  best : Option SweepBest
  outside : Nat
  foreign : Nat
  saturated : Nat
  range : Nat
  slips : ByAxis SlipMark
  az : Int
  el : Int
  cell : Option CellPos
  deriving DecidableEq, Repr

/-- The offset to the top cell (R80). -/
structure Offset where
  az : Int
  el : Int
  deriving DecidableEq, Repr

/-- The QUERY LOBES reply (R86). -/
structure LobesReply where
  state : AnalysisState
  serial : Nat
  count : Nat
  list : List LobeEntry
  overflow : Nat
  offset : Option Offset
  snapshot : Snapshot
  deriving DecidableEq, Repr

/-- The QUERY VERDICT reply (R87). -/
structure VerdictReply where
  state : AnalysisState
  id : Option ProposalId
  own : Option VerdictRecord
  held : Option VerdictRecord
  result : CrossResult
  confirmed : AntennaSet
  ignored : Nat
  kept : ByAntenna (Option KeptVerdict)
  deriving DecidableEq, Repr

/-- A roster entry as QUERY ROSTER shows it, with the age of its level in ms (R116). -/
structure RosterLine where
  entry : RosterEntry
  levelAge : Option Nat
  deriving DecidableEq, Repr

/-- The QUERY ROSTER reply (R116). -/
structure RosterReply where
  entries : List RosterLine
  partnerEntry : Option Nat
  partner : Liveness
  liveCount : Nat
  window : Nat
  clash : Bool
  conflict : Bool
  contention : Contention
  inFlight : Option FrameKind
  backoff : Option Nat
  waiting : List FrameKind
  counters : RouteCounters
  deriving DecidableEq, Repr

/-- The QUERY SOAK reply (R189). -/
structure SoakReply where
  state : SoakState
  settling : Nat
  elapsed : Nat
  duration : Nat
  availability : Availability
  pending : List PendingSecond
  clean : Nat
  errored : Nat
  bad : Nat
  outage : Nat
  suspect : Nat
  periods : Nat
  currentOutage : Nat
  longestOutage : Nat
  verdict : Option SoakVerdict
  latest : Option SecondClass
  partnerDigest : Option HeldDigest
  maxErrored : Nat
  maxBad : Nat
  maxOutage : Nat
  deriving DecidableEq, Repr

/-- The QUERY FADES reply; a role that is not fitted is absent (R189). -/
structure FadesReply where
  fades : ByRole (Option FadeRecord)
  joint : Nat
  list : List FadeEntry
  discards : Nat
  deriving DecidableEq, Repr

/-- One direction's figures in QUERY MARGIN (R189). -/
structure DirectionFigures where
  state : DirectionState
  role : MarginRole
  result : Option MarginResult
  deriving DecidableEq, Repr

/-- The QUERY MARGIN reply (R189). -/
structure MarginReply where
  enabled : Bool
  step : Nat
  dwellSetting : Nat
  required : Nat
  current : Option Direction
  directions : ByDirection DirectionFigures
  stepIndex : Nat
  announced : Nat
  dwell : Nat
  stepDue : Bool
  heard : Nat
  latched : Option Nat
  acknowledged : ByDirection Bool
  doneTimer : Bool
  silence : Nat
  attenLive : Nat
  attenStaged : Nat
  deriving DecidableEq, Repr

/-- The content of an ACCEPTED reply, by the request answered. -/
inductive Reply where
  | setup (clamped : List Nat)
  | status (r : StatusReply)
  | levels (r : LevelsReply)
  | position (r : PositionReply)
  | mapCell (r : MapCellReply)
  | mapSummary (r : MapSummaryReply)
  | lobes (r : LobesReply)
  | verdict (r : VerdictReply)
  | roster (r : RosterReply)
  | soak (r : SoakReply)
  | fades (r : FadesReply)
  | margin (r : MarginReply)
  | handover (r : Option HandoverRecord)
  | advance (number : Nat) (target : Phase)
  | abort
  | restart
  | zero
  | cue (source : CueSource)
  | reports (mask : BitVec 19)
  deriving DecidableEq, Repr

/-- A message of the output queue (R191, R193). clears: the event flags a QUERY STATUS reply showed set and that
have not been set again since it was built (R194); empty for every other reply. -/
inductive SiteMessage where
  | accepted (r : Reply) (clears : List EventFlag)
  | refused (requestType : Byte) (reason : RefuseReason) (field : Option Nat)
  | report (r : Report)
  deriving DecidableEq, Repr

/-- The input framer: hunting, or taking a message whose bytes so far are held (R191). gap is what is left of the 5 ms
within which the next character joins them (log 5). -/
inductive SiteFramer where
  | hunting
  | taking (bytes : List Byte) (gap : Nat)
  deriving DecidableEq, Repr

/-- The site port. sending is the message that last left the queue (R193; log 23). flags lists the event flags
that are set, each once (R194). -/
structure Site where
  framer : SiteFramer
  out : List SiteMessage
  sending : Option SiteMessage
  mask : BitVec 19
  flags : List EventFlag
  counters : SiteCounters
  deriving DecidableEq, Repr

/-- The supply watch: state, debounce in ms, and the supply-sense input in mV (R198). -/
structure Supply where
  low : Bool
  debounce : Timer
  sense : Nat
  deriving DecidableEq, Repr

/-! ### The whole state -/

/-- The state of the part, with the queue of commands that wait, first in first out, and the number of random
draws made so far (log 6). -/
structure State where
  pending : List Instr
  draws : Nat
  time : Timebase
  station : Option Station
  settings : Settings
  level : LevelUnit
  ident : Identifier
  pos : Position
  map : AlignMap
  lobe : Analyser
  cue : Cue
  route : Route
  hop : Coordinator
  src : Source
  chk : Checker
  soak : Soak
  margin : Margin
  handover : Option HandoverRecord
  site : Site
  supply : Supply
  deriving DecidableEq, Repr

/-- Why the machine stops with a fault: it never does, since the manual describes no such stop (log 25, safe). -/
inductive Fault where
  deriving DecidableEq, Repr

/-- Why a command has no meaning. -/
inductive Refusal where
  /-- Raised by exec's arm of a command that has no meaning yet; safe. No arm raises it now. -/
  | notModelled (mnemonic : String)
  deriving DecidableEq, Repr

/-- What a command answers. -/
abbrev Result := Host.Outcome State Fault Refusal

/-! ### The state after a hard reset -/

/-- Sample time 0.0. -/
def SampleTime.zero : SampleTime := { second := 0, index := 0 }

/-- The profile of R14 and R17 before setup, cue on (R101). -/
def ProfileSettings.beforeSetup : ProfileSettings :=
  { shift := 3, filter := 8
    thresholds := { coMain := -900, xMain := -900, coDiv := -900, xDiv := -900 }
    hysteresis := 20, cueOn := true }

/-- The default pattern words (R158). -/
def defaultWords : List (BitVec 16) :=
  [0x3C5A, 0xC3A5, 0x0FF0, 0xF00F, 0x5AA5, 0xA55A, 0x9669, 0x6996]

/-- Every setting's "before setup" value (R5, R6, R14, R46, R48, R67, R101, R156, R158, R166, R198). -/
def Settings.beforeSetup : Settings :=
  let cal : Calibration := { offset := -1100, slope := 64 }
  { calibration := { detA := cal, detB := cal, detC := cal, detD := cal }
    mapping := { coMain := .detA, xMain := .detB, coDiv := .detC, xDiv := .detD }
    diversity := false, dualPol := false
    predicted := { main := -600, div := -600 }
    mainTolerance := 30, sideDepth := 180, asymmetryLimit := 30, requiredXpd := 280, imbalanceLimit := 60
    geometry := { columns := 16, rows := 8, cellWidth := 4, cellHeight := 4 }
    filterTicks := 8
    align := .beforeSetup, soak := .beforeSetup
    toneFloor := -900, toneStep := 5, meterFloor := -1000, meterSpan := 500, modulus := 64
    words := defaultWords
    soakMinutes := 60, maxErrored := 20, maxBad := 0, maxOutage := 0
    marginEnabled := true, marginStep := 2, marginDwell := 10, requiredMargin := 30
    attenSources := { second := true, keyingEdge := false, syncPin := false }
    supplyLow := 0 }

/-- A comparator after a hard reset: CLEAR with run count 0 (R17); the rest has no meaning yet (log 7). -/
def Comparator.reset : Comparator :=
  { state := .clear, run := 0, runStart := .zero, runMin := -100, fadeStart := .zero, deepest := -100 }

/-- A fresh channel (R8); its accumulator has no meaning yet (log 7). -/
def Channel.reset : Channel := { acc := 0, fresh := true, admitted := 0, gated := 0, cmp := .reset }

/-- An input after a hard reset (R2, R3; log 7). -/
def InputState.reset : InputState :=
  { code := 0, sample := -1100, range := .inRange, warning := false, inCount := 0 }

def LevelUnit.reset : LevelUnit :=
  { inputs := { detA := .reset, detB := .reset, detC := .reset, detD := .reset }
    steering := .main
    channels := { coMain := .reset, xMain := .reset, coDiv := .reset, xDiv := .reset } }

/-- The stopped identifier with everything cleared (R23). -/
def Identifier.cleared : Identifier :=
  { running := false, blockCount := 0, blockMax := none, blockMin := none, closed := [], swing := none
    decision := none, below := 0, lastRise := none, ring := [], state := .noKeying }

/-- A line with its raw level low (log 8). -/
def LineState.reset : LineState := { raw := false, filtered := false, candidate := 0 }

def AxisState.reset : AxisState :=
  { lineA := .reset, lineB := .reset, count := 0, saturated := false, slipped := false, slipCount := 0 }

/-- The snapshot of a zero (R44). -/
def Snapshot.zero : Snapshot := { az := 0, el := 0, azSaturated := false, elSaturated := false }

def Position.reset : Position :=
  { axes := { az := .reset, el := .reset }, snapshot := .zero }

/-- The map with nothing recorded (R66). -/
def AlignMap.empty : AlignMap :=
  { state := .empty, cells := [], visits := 0, best := none, role := none, outside := 0, foreign := 0
    saturated := 0, range := 0
    slips := { az := { flag := false, mark := none }, el := { flag := false, mark := none } } }

/-- The analyser after either reset (R89). -/
def Analyser.reset : Analyser :=
  { state := .notRun, elapsed := 0, id := none, list := [], overflow := 0, own := none, held := none
    result := .none, confirmed := { main := false, div := false }, kept := { main := none, div := none }
    ignored := 0, repeatTimer := none }

/-- The cue unit after either reset, with the modulus in force (R103). Until the first update QUERY STATUS shows these
figures, and no age of a partner level, although a restart keeps the roster: the model's choice (log 13). -/
def Cue.reset (modulus : Nat) : Cue :=
  { source := .steer, updateTimer := 0, updateDue := false, tone := .tone, cadence := 0, cadenceDue := false
    stagedHalf := 640, liveHalf := 640, halfCounter := 0, output := false, generator := .sounding
    periodCounter := 0, periodDue := false, stagedDuty := 0, liveDuty := 0, used := none
    shown :=
      { source := .steer, tone := .tone, cadence := 0, stagedHalf := 640, modulus := modulus
        stagedDuty := 0, used := none, reference := none, age := none } }

def RouteCounters.zero : RouteCounters :=
  { sent := 0, good := 0, crcErrors := 0, malformed := 0, truncated := 0, clashes := 0, dropped := 0
    replacements := 0 }

/-- The route channel controller after a hard reset (R125), carrier-busy low (log 8). -/
def Route.reset : Route :=
  { framer := { state := .hunt, bytes := [], gap := none }, roster := [], partner := .lost, conflict := false
    waiting := [], inFlight := none, contention := .empty, backoff := none, idle := 0, slot := 0
    sendTime := 0, transmitEnable := false, wire := [], carrierBusy := false, statusTimer := none
    levelTimer := none, clash := false, counters := .zero }

/-- The coordinator after a hard reset (R148). -/
def Coordinator.reset : Coordinator :=
  { phase := .idle, haltCause := none, profile := .align, nextNumber := 1, outstanding := none
    answerTimer := none, failed := none, lastAnswered := none, lastAccepted := none, entryHold := none
    leftPhase := none, mismatch := 0, autoTimer := none, serial := 0, ignored := 0 }

/-- The test source after a hard reset (R165). -/
def Source.reset : Source :=
  { beacon := { live := .off, staged := .off, pending := false }
    atten := { live := 0, staged := 0, pending := false }
    pattern := { live := false, staged := false, pending := false }
    keyOut := false, keyCount := 0, edgeDue := false, sync := .reset, genWord := 0, genBit := 15
    genOut := false }

def Totals.zero : Totals := { intervals := 0, notLocked := 0, bitsChecked := 0, bitErrors := 0, slips := 0 }

/-- The checker after either reset (R165). -/
def Checker.reset : Checker :=
  { state := .hunt, window := 0, sinceHunt := 0, wordBits := 0, expected := 0, confirm := 0, hits := 0
    intervalBits := 0, totals := .zero, lockCount := 0, slipCount := 0, latest := none }

def FadeRecord.empty : FadeRecord := { openFade := none, count := 0, total := 0, longest := 0, deepest := none }

/-- The soak recorder after either reset (R190). -/
def Soak.reset : Soak :=
  { state := .notStarted, settling := 0, elapsed := 0, availability := .available, pending := [], clean := 0
    errored := 0, bad := 0, outage := 0, suspect := 0, lowSeen := false, periods := 0, currentOutage := 0
    longestOutage := 0, verdict := none, latest := none
    fades := { coMain := .empty, xMain := .empty, coDiv := .empty, xDiv := .empty }
    joint := 0, list := [], discards := 0, digestTimer := none, partnerDigest := none }

/-- The margin procedure after either reset (R190). -/
def Margin.reset : Margin :=
  { states := { one := .notBegun, two := .notBegun }, current := none, stepIndex := 0, announced := 0
    dwell := 0, stepDue := false, announceDue := false, heard := 0, latched := none
    results := { one := none, two := none }, acknowledged := { one := false, two := false }
    doneTimer := none, doneBody := none, silence := 0 }

/-- The site port after a hard reset: every report kind enabled (R201). -/
def Site.reset : Site :=
  { framer := .hunting, out := [], sending := none, mask := 0x7FFFF, flags := []
    counters := { malformed := 0, checksum := 0, drops := 0, overruns := 0 } }

/-- The supply watch after a hard reset, the input above the level (R198; log 8). -/
def Supply.reset : Supply := { low := false, debounce := none, sense := 12000 }

/-- The part right after a hard reset. -/
def State.reset : State :=
  { pending := [], draws := 0
    time := { now := .zero, secondDue := false, firstTick := true }
    station := none
    settings := .beforeSetup
    level := .reset, ident := .cleared, pos := .reset, map := .empty, lobe := .reset
    cue := Cue.reset 64, route := .reset, hop := .reset, src := .reset, chk := .reset, soak := .reset
    margin := .reset, handover := none, site := .reset, supply := .reset }

end Sys2Proof.Machine
end

