-- ==== Sys2Proof/Machine/Messages.lean ====
section
/-! DEFINITION. The bytes of the messages the part sends on the site port (R191): the layout of R191, and the contents
that the owning rules list, in their order. Widths and codes that the manual leaves open are log 19's. -/

namespace Sys2Proof.Machine

/-! ### Fields (R191; log 19) -/

/-- An unsigned number of one byte. -/
def u8 (n : Nat) : List Byte := [byteOf n]

/-- Four bytes, high byte first (R191). -/
def u32 (n : Nat) : List Byte := u16 (n / 65536) ++ u16 n

/-- A signed number of four bytes. -/
def i32 (x : Int) : List Byte := u32 (BitVec.ofInt 32 x).toNat

/-- A flag: 1 set, 0 clear. -/
def flagByte (b : Bool) : List Byte := u8 (flagAt b 0)

/-- An optional field, with its presence byte before it (R191). -/
def optional {α : Type} (f : α → List Byte) : Option α → List Byte
  | none => [0]
  | some x => 1 :: f x

/-- A list's entries, in order. -/
def entries {α : Type} (f : α → List Byte) (xs : List α) : List Byte := xs.flatMap f

/-- A list with its number of entries before it. -/
def counted {α : Type} (f : α → List Byte) (xs : List α) : List Byte := u8 xs.length ++ entries f xs

/-! ### Codes (log 19) -/

def Input.code : Input → Nat
  | .detA => 0
  | .detB => 1
  | .detC => 2
  | .detD => 3

def Role.code : Role → Nat
  | .coMain => 0
  | .xMain => 1
  | .coDiv => 2
  | .xDiv => 3

def Axis.code : Axis → Nat
  | .az => 0
  | .el => 1

def HopEnd.code : HopEnd → Nat
  | .a => 0
  | .b => 1

def FadeState.code : FadeState → Nat
  | .clear => 0
  | .faded => 1

def MapState.code : MapState → Nat
  | .empty => 0
  | .recording => 1
  | .frozen => 2

def AnalysisState.code : AnalysisState → Nat
  | .notRun => 0
  | .running => 1
  | .complete => 2

def LobeClass.code : LobeClass → Nat
  | .top => 0
  | .side => 1
  | .minor => 2

def RejectReason.code : RejectReason → Nat
  | .localNotMain => 0
  | .partnerNotMain => 1
  | .asymmetry => 2
  | .xpdLow => 3
  | .diversityImbalance => 4

def CrossResult.code : CrossResult → Nat
  | .none => 0
  | .pending => 1
  | .confirmed => 2
  | .rejected _ => 3

def CrossResult.reason : CrossResult → Option RejectReason
  | .rejected r => some r
  | _ => Option.none

/-- The codes of the CUE body (R191). -/
def CueSource.code : CueSource → Nat
  | .steer => 0
  | .partner => 1
  | .relative => 2

def ToneState.code : ToneState → Nat
  | .off => 0
  | .tone => 1
  | .stale => 2
  | .foreign => 3

def Generator.code : Generator → Nat
  | .sounding => 0
  | .stopping => 1
  | .silent => 2

def Liveness.code : Liveness → Nat
  | .live => 0
  | .quiet => 1
  | .lost => 2

def Contention.code : Contention → Nat
  | .empty => 0
  | .defer => 1
  | .backoff => 2
  | .sending => 3

def HaltCause.code : HaltCause → Nat
  | .operator => 0
  | .partner => 1
  | .partnerRestart => 2

/-- The causes of entry in the order of the table of R127. -/
def EntryCause.code : EntryCause → Nat
  | .answered => 0
  | .accepted => 1
  | .catchUp => 2
  | .halt c => 3 + c.code

def Profile.code : Profile → Nat
  | .align => 0
  | .soak => 1

def BeaconMode.code : BeaconMode → Nat
  | .off => 0
  | .keyed => 1
  | .steady => 2

def SyncState.code : SyncState → Nat
  | .hunt => 0
  | .confirming => 1
  | .locked => 2

def SoakState.code : SoakState → Nat
  | .notStarted => 0
  | .waiting => 1
  | .opened => 2
  | .closed => 3
  | .incomplete => 4

def SecondClass.code : SecondClass → Nat
  | .clean => 0
  | .errored => 1
  | .bad => 2

def Availability.code : Availability → Nat
  | .available => 0
  | .outage => 1

def DirectionState.code : DirectionState → Nat
  | .notBegun => 0
  | .active => 1
  | .aborted => 2
  | .done => 3

def MarginOutcome.code : MarginOutcome → Nat
  | .pass => 0
  | .fail => 1
  | .aborted => 2

def Overall.code : Overall → Nat
  | .pending => 0
  | .pass => 1
  | .fail => 2
  | .incomplete => 3

def ProposalOutcome.code : ProposalOutcome → Nat
  | .accepted => 0
  | .declined => 1
  | .withdrawn => 2
  | .failed => 3
  | .cancelled => 4
  | .joined => 5

def OutageEvent.code : OutageEvent → Nat
  | .start => 0
  | .finish => 1

/-- The reasons of REFUSED (R191). -/
def RefuseReason.code : RefuseReason → Nat
  | .unconfigured => 1
  | .notNow => 2
  | .busy => 3
  | .notLegal => 4
  | .notReady => 5
  | .notConfirmed => 6
  | .partnerLost => 7
  | .proposalPending => 8
  | .endsConflict => 9
  | .badField => 10

/-! ### Figures that many contents share -/

/-- A sample time: second counter, then sample index. -/
def SampleTime.bytes (t : SampleTime) : List Byte := u32 t.second ++ u16 t.index

/-- A set drawn from MAIN and DIV: bit 0 MAIN, bit 1 DIV. -/
def antennaSetBytes (x : AntennaSet) : List Byte := u8 (flagAt x.main 0 + flagAt x.div 1)

/-- An apply-source set, as field 61 of the Setup Record (R195). -/
def ApplySet.bytes (a : ApplySet) : List Byte :=
  u8 (flagAt a.second 0 + flagAt a.keyingEdge 1 + flagAt a.syncPin 2)

def proposalIdBytes (p : ProposalId) : List Byte := u8 p.proposer ++ u8 p.number

/-- An ident state's code, as the low bits of STATUS byte 4. -/
def identStateCode : IdentState → Nat
  | .noKeying => 0
  | .unsure => 1
  | .own => 2
  | .foreign _ => 3

def identHop : IdentState → Option Nat
  | .foreign h => some h
  | _ => none

/-- An ident state, with the hop when it is FOREIGN (R34, R35). -/
def identBytes (x : IdentState) : List Byte := u8 (identStateCode x) ++ optional u8 (identHop x)

def soakVerdictByte (v : SoakVerdict) : List Byte := u8 (soakVerdictCode (some v))

/-- A cross-check result, with its reason when REJECTED (R84, R87). -/
def CrossResult.bytes (r : CrossResult) : List Byte := u8 r.code ++ optional (fun x => u8 x.code) r.reason

/-- A snapshot: counts, then SATURATED flags (R43, R86). -/
def Snapshot.bytes (x : Snapshot) : List Byte :=
  i16 x.az ++ i16 x.el ++ flagByte x.azSaturated ++ flagByte x.elSaturated

/-- A verdict record, field by field (R77). -/
def verdictRecordBytes (v : VerdictRecord) : List Byte :=
  proposalIdBytes v.id ++ u8 v.role.code ++ u8 v.verdict.code ++ optional i16 (v.top.map TopFigures.level) ++
    i16 v.predicted ++ optional i16 (v.top.map TopFigures.deviation) ++ optional i16 v.xpd ++
    optional i16 v.diversity ++ flagByte v.positionSuspect ++ flagByte v.foreignSeen ++ flagByte v.outsideSeen ++
    flagByte v.listOverflow

/-- A kept verdict slot that is not absent (R87). -/
def KeptVerdict.bytes (k : KeptVerdict) : List Byte :=
  verdictRecordBytes k.own ++ optional verdictRecordBytes k.partner ++ k.result.bytes

/-- The five counts of a second (R163). -/
def Totals.bytes (t : Totals) : List Byte :=
  u32 t.intervals ++ u32 t.notLocked ++ u32 t.bitsChecked ++ u32 t.bitErrors ++ u32 t.slips

def Delivery.bytes (d : Delivery) : List Byte := d.totals.bytes ++ flagByte d.enabled

def OpenFade.bytes (f : OpenFade) : List Byte := f.start.bytes ++ i16 f.deepest

/-- A role's fade record (R177, R189). -/
def FadeRecord.bytes (f : FadeRecord) : List Byte :=
  optional OpenFade.bytes f.openFade ++ u16 f.count ++ u32 f.total ++ u32 f.longest ++ optional i16 f.deepest

/-- An entry of the fade list (R179, R189). -/
def FadeEntry.bytes (f : FadeEntry) : List Byte :=
  u8 (Role.code f.role) ++ f.start.bytes ++ u32 f.duration ++ i16 f.deepest ++ flagByte f.cut

/-- The fitted roles' records: each role's presence, then its record (R189). -/
def fittedBytes (f : ByRole (Option FadeRecord)) : List Byte :=
  optional FadeRecord.bytes f.coMain ++ optional FadeRecord.bytes f.xMain ++ optional FadeRecord.bytes f.coDiv ++
    optional FadeRecord.bytes f.xDiv

/-- A digest's fields in the order of R175, with its arrival time (R176, R189). -/
def HeldDigest.bytes (d : HeldDigest) : List Byte :=
  flagByte d.body.final ++ optional soakVerdictByte d.body.verdict ++ flagByte d.body.incomplete ++
    u24 d.body.seconds ++ u24 d.body.clean ++ u24 d.body.errored ++ u24 d.body.bad ++ u24 d.body.outage ++
    u16 d.body.periods ++ u16 d.body.fades ++ optional i16 d.body.deepest ++ d.arrival.bytes

/-- A direction's result (section 10.5). -/
def MarginResult.bytes (r : MarginResult) : List Byte :=
  optional u8 r.margin ++ flagByte r.capped ++ flagByte r.atZero ++ u8 r.outcome.code

/-- The margin progress a roster entry holds (R113). -/
def progressBytes (p : MarginProgress) : List Byte :=
  u8 p.direction ++ u8 p.role.code ++ u8 p.step ++ flagByte p.doneOne ++ flagByte p.doneTwo

/-! ### The contents of ACCEPTED -/

/-- The identifier's part of QUERY STATUS (R34); the run state is a flag, RUNNING 1 (log 19). -/
def IdentReply.bytes (r : IdentReply) : List Byte :=
  flagByte r.running ++ identBytes r.state ++ u8 r.closedBlocks ++ optional i16 r.swing ++ optional i16 r.decision ++
    u8 r.ringCount ++ entries u16 r.ring

/-- The cue unit's part of QUERY STATUS (R102). -/
def CueReply.bytes (r : CueReply) : List Byte :=
  u8 (CueSource.code r.shown.source) ++ u8 r.shown.tone.code ++ u16 r.shown.cadence ++ u8 r.generator.code ++
    u16 r.shown.stagedHalf ++ u8 r.pitch ++ u16 r.liveHalf ++ u16 r.shown.modulus ++ u8 r.shown.stagedDuty ++
    u8 r.liveDuty ++ optional i16 r.shown.used ++ optional i16 r.shown.reference ++ optional u32 r.shown.age

def Proposal.bytes (p : Proposal) : List Byte :=
  u8 p.number ++ u8 p.target.code ++ u8 p.role.code ++ u8 p.attempts ++ flagByte p.automatic

def FailedProposal.bytes (p : FailedProposal) : List Byte := u8 p.number ++ u8 p.target.code ++ u8 p.role.code

/-- The last-answered record, its outcome and reason coded as in an ANSWER (R106). -/
def AnsweredRecord.bytes (a : AnsweredRecord) : List Byte :=
  u8 a.proposer ++ u8 a.number ++ u8 a.target.code ++ u8 (if a.accept then 0 else 1) ++ u8 (reasonCode a.reason)

/-- The coordinator's part of QUERY STATUS (R147). -/
def HopReply.bytes (r : HopReply) : List Byte :=
  u8 r.phase.code ++ optional (fun c => u8 c.code) r.haltCause ++ u8 r.profile.code ++ flagByte r.configured ++
    optional Proposal.bytes r.outstanding ++ optional FailedProposal.bytes r.failed ++
    optional AnsweredRecord.bytes r.lastAnswered ++ optional proposalIdBytes r.lastAccepted ++ u8 r.nextNumber ++
    u8 r.mismatch ++ flagByte r.entryHold ++ flagByte r.autoTimer ++ u16 r.serial ++ u8 r.ignored ++
    u8 r.partner.code ++ flagByte r.conflict

def KeyingFigures.bytes (k : KeyingFigures) : List Byte := flagByte k.output ++ u8 k.count

/-- An output of the test source: live, staged, pending, apply-source set (R164). -/
def Staged.bytes {α : Type} (f : α → List Byte) (sources : ApplySet) (x : Staged α) : List Byte :=
  f x.live ++ f x.staged ++ flagByte x.pending ++ sources.bytes

/-- The test source's and the checker's part of QUERY STATUS (R164). -/
def SourceReply.bytes (r : SourceReply) : List Byte :=
  r.beacon.bytes (fun m => u8 m.code) r.beaconSet ++ r.atten.bytes u8 r.attenSet ++
    r.pattern.bytes flagByte r.patternSet ++ optional KeyingFigures.bytes r.keying ++ flagByte r.syncFiltered ++
    u8 r.genWord ++ u8 r.genBit ++ u8 r.state.code ++ u8 r.expected ++ u8 r.confirm ++ u8 r.hits ++ r.totals.bytes ++
    optional Delivery.bytes r.latest ++ u16 r.lockCount ++ u16 r.slipCount

/-- The event flags in the order of the table of R194, RANGE for each input and FADE for each role. -/
def flagOrder : List EventFlag :=
  [.range .detA, .range .detB, .range .detC, .range .detD, .ident, .foreign, .slip, .fade .coMain, .fade .xMain,
    .fade .coDiv, .fade .xDiv, .verdict, .crosscheck, .clash, .endsConflict, .partner, .phase, .proposal, .mismatch,
    .pattern, .outage, .soak, .margin, .supply, .handover]

/-- A run of flags as a number, the first at the bit given. -/
def flagNumber (flags : List EventFlag) (bit : Nat) : List EventFlag → Nat
  | [] => 0
  | f :: fs => flagAt (flags.contains f) bit + flagNumber flags (bit + 1) fs

/-- The event flags, four bytes, the first flag at bit 0. -/
def flagsBytes (flags : List EventFlag) : List Byte := u32 (flagNumber flags 0 flagOrder)

/-- A report mask, as the REPORTS body gives it (R191). -/
def maskBytes (mask : BitVec 19) : List Byte := u24 mask.toNat

def SiteCounters.bytes (c : SiteCounters) : List Byte :=
  u16 c.malformed ++ u16 c.checksum ++ u16 c.drops ++ u16 c.overruns

/-- QUERY STATUS (R192). -/
def StatusReply.bytes (r : StatusReply) : List Byte :=
  r.ident.bytes ++ r.cue.bytes ++ r.hop.bytes ++ r.source.bytes ++ flagsBytes r.flags ++ maskBytes r.mask ++
    r.counters.bytes ++ flagByte r.supplyLow ++ flagByte r.configured ++ u32 r.second

def RoleFigures.bytes (r : RoleFigures) : List Byte :=
  u8 (Input.code r.input) ++ u8 r.range.code ++ optional i16 r.level ++ u16 r.admitted ++ u16 r.gated ++ u8 r.fade.code

/-- QUERY LEVELS (R22). -/
def LevelsReply.bytes (r : LevelsReply) : List Byte :=
  r.roles.coMain.bytes ++ r.roles.xMain.bytes ++ r.roles.coDiv.bytes ++ r.roles.xDiv.bytes ++
    flagByte r.warnings.detA ++ flagByte r.warnings.detB ++ flagByte r.warnings.detC ++ flagByte r.warnings.detD ++
    u8 r.steering.code ++ flagByte r.gate ++ optional i16 r.xpdMain ++ optional i16 r.xpdDiv ++
    optional i16 r.diversity

/-- QUERY POSITION (R43). -/
def PositionReply.bytes (r : PositionReply) : List Byte :=
  r.snapshot.bytes ++ flagByte r.slipped.az ++ u16 r.slipCounts.az ++ flagByte r.slipped.el ++ u16 r.slipCounts.el ++
    u8 r.filterTicks

/-- QUERY MAP CELL (R63). -/
def MapCellReply.bytes (r : MapCellReply) : List Byte :=
  u16 r.serial ++ u8 r.state.code ++ u8 r.column ++ u8 r.row ++ u8 r.count ++ optional i16 r.best ++
    optional u16 r.visit ++ i16 r.centreAz ++ i16 r.centreEl ++ flagByte r.current

def CellPos.bytes (p : CellPos) : List Byte := u8 p.column ++ u8 p.row

def SweepBest.bytes (b : SweepBest) : List Byte := i16 b.level ++ b.cell.bytes

def SlipMark.bytes (m : SlipMark) : List Byte := flagByte m.flag ++ optional u16 m.mark

/-- QUERY MAP SUMMARY (R64); the snapshot's place has a presence byte, 0 for OUTSIDE (log 19). -/
def MapSummaryReply.bytes (r : MapSummaryReply) : List Byte :=
  u8 r.state.code ++ u16 r.serial ++ u8 r.geometry.columns ++ u8 r.geometry.rows ++ u8 r.geometry.cellWidth ++
    u8 r.geometry.cellHeight ++ optional (fun a => u8 (Antenna.code a)) r.role ++ u16 r.visits ++
    optional SweepBest.bytes r.best ++ u16 r.outside ++ u16 r.foreign ++ u16 r.saturated ++ u16 r.range ++
    r.slips.az.bytes ++ r.slips.el.bytes ++ i16 r.az ++ i16 r.el ++ optional CellPos.bytes r.cell

/-- An entry of the lobe list (R86). -/
def LobeEntry.bytes (e : LobeEntry) : List Byte :=
  e.cell.bytes ++ i16 e.level ++ u16 e.visit ++ u8 e.neighbours ++ flagByte e.supported ++ flagByte e.edge ++
    u8 e.rank.code

def Offset.bytes (o : Offset) : List Byte := i32 o.az ++ i32 o.el

/-- QUERY LOBES (R86). -/
def LobesReply.bytes (r : LobesReply) : List Byte :=
  u8 r.state.code ++ u16 r.serial ++ u8 r.count ++ entries LobeEntry.bytes r.list ++ u8 r.overflow ++
    optional Offset.bytes r.offset ++ r.snapshot.bytes

/-- QUERY VERDICT (R87). -/
def VerdictReply.bytes (r : VerdictReply) : List Byte :=
  u8 r.state.code ++ optional proposalIdBytes r.id ++ optional verdictRecordBytes r.own ++
    optional verdictRecordBytes r.held ++ r.result.bytes ++ antennaSetBytes r.confirmed ++ u8 r.ignored ++
    optional KeptVerdict.bytes r.kept.main ++ optional KeptVerdict.bytes r.kept.div

/-- A roster entry's level with its time and its age in ms (R113, R116). -/
def timedLevelBytes (age : Option Nat) (l : TimedLevel) : List Byte := i16 l.level ++ l.time.bytes ++ u32 (age.getD 0)

/-- A roster entry (R113, R116). -/
def RosterLine.bytes (x : RosterLine) : List Byte :=
  let e := x.entry
  u8 e.station ++ u8 e.hop ++ u8 (HopEnd.code e.hopEnd) ++ optional (fun p => u8 (Phase.code p)) e.phase ++
    optional proposalIdBytes e.lastAccepted ++ optional antennaSetBytes e.confirmed ++ optional identBytes e.ident ++
    flagByte e.wantsLevel ++ flagByte e.supplyLow ++ flagByte e.clash ++ optional u24 e.soakSeconds ++
    optional progressBytes e.progress ++ optional (timedLevelBytes x.levelAge) e.level ++ u8 e.age ++ u8 e.liveness.code

/-- A frame's kind, as header byte 0 (R106). -/
def kindByte (k : FrameKind) : List Byte := [k.code]

/-- The counters of R124, in its order. -/
def RouteCounters.bytes (c : RouteCounters) : List Byte :=
  u16 c.sent ++ u16 c.good ++ u16 c.crcErrors ++ u16 c.malformed ++ u16 c.truncated ++ u16 c.clashes ++ u16 c.dropped ++
    u16 c.replacements

/-- QUERY ROSTER (R116). -/
def RosterReply.bytes (r : RosterReply) : List Byte :=
  counted RosterLine.bytes r.entries ++ optional u8 r.partnerEntry ++ u8 r.partner.code ++ u8 r.liveCount ++
    u8 r.window ++ flagByte r.clash ++ flagByte r.conflict ++ u8 r.contention.code ++ optional kindByte r.inFlight ++
    optional u8 r.backoff ++ counted kindByte r.waiting ++ r.counters.bytes

def PendingSecond.bytes (p : PendingSecond) : List Byte := u24 p.number ++ u8 p.provisional.code

/-- QUERY SOAK (R189). -/
def SoakReply.bytes (r : SoakReply) : List Byte :=
  u8 r.state.code ++ u8 r.settling ++ u24 r.elapsed ++ u24 r.duration ++ u8 r.availability.code ++
    counted PendingSecond.bytes r.pending ++ u24 r.clean ++ u24 r.errored ++ u24 r.bad ++ u24 r.outage ++
    u16 r.suspect ++ u16 r.periods ++ u24 r.currentOutage ++ u24 r.longestOutage ++
    optional soakVerdictByte r.verdict ++ optional (fun c => u8 (SecondClass.code c)) r.latest ++
    optional HeldDigest.bytes r.partnerDigest ++ u16 r.maxErrored ++ u16 r.maxBad ++ u16 r.maxOutage

/-- QUERY FADES (R189). -/
def FadesReply.bytes (r : FadesReply) : List Byte :=
  fittedBytes r.fades ++ u32 r.joint ++ counted FadeEntry.bytes r.list ++ u16 r.discards

def DirectionFigures.bytes (f : DirectionFigures) : List Byte :=
  u8 f.state.code ++ u8 f.role.code ++ optional MarginResult.bytes f.result

/-- The current direction 0..2. -/
def currentCode : Option Direction → Nat
  | none => 0
  | some d => d.code

/-- QUERY MARGIN (R189). -/
def MarginReply.bytes (r : MarginReply) : List Byte :=
  flagByte r.enabled ++ u8 r.step ++ u8 r.dwellSetting ++ u8 r.required ++ u8 (currentCode r.current) ++
    r.directions.one.bytes ++ r.directions.two.bytes ++ u8 r.stepIndex ++ u8 r.announced ++ u8 r.dwell ++
    flagByte r.stepDue ++ u8 r.heard ++ optional u8 r.latched ++ flagByte r.acknowledged.one ++
    flagByte r.acknowledged.two ++ flagByte r.doneTimer ++ u16 r.silence ++ u8 r.attenLive ++ u8 r.attenStaged

/-- The two directions' results, each optional (R199). -/
def resultsBytes (r : ByDirection (Option MarginResult)) : List Byte :=
  optional MarginResult.bytes r.one ++ optional MarginResult.bytes r.two

/-- The handover record (R199). -/
def HandoverRecord.bytes (h : HandoverRecord) : List Byte :=
  u8 h.station.number ++ u8 h.station.partner ++ u8 h.station.hop ++ u8 (HopEnd.code h.station.hopEnd) ++
    i16 h.predicted.main ++ i16 h.predicted.div ++ antennaSetBytes h.confirmed ++
    optional KeptVerdict.bytes h.kept.main ++ optional KeptVerdict.bytes h.kept.div ++ u8 h.soakState.code ++
    u24 h.seconds ++ u24 h.clean ++ u24 h.errored ++ u24 h.bad ++ u24 h.outage ++ u16 h.periods ++
    u24 h.longestOutage ++ optional soakVerdictByte h.verdict ++ optional HeldDigest.bytes h.partnerDigest ++
    fittedBytes h.fades ++ u32 h.joint ++ counted FadeEntry.bytes h.list ++ u16 h.discards ++
    optional resultsBytes h.results ++ u16 h.suspect ++ u16 h.clashes ++ u8 h.overall.code

/-- The type of the request an ACCEPTED answers (R191). -/
def Reply.requestType : Reply → Byte
  | .setup _ => 0x01
  | .advance _ _ => 0x03
  | .abort => 0x04
  | .restart => 0x05
  | .zero => 0x06
  | .cue _ => 0x07
  | .reports _ => 0x08
  | _ => 0x02

/-- The content of an ACCEPTED, after the type of the request answered (R191). -/
def Reply.bytes : Reply → List Byte
  | .setup clamped => counted u8 clamped
  | .status r => r.bytes
  | .levels r => r.bytes
  | .position r => r.bytes
  | .mapCell r => r.bytes
  | .mapSummary r => r.bytes
  | .lobes r => r.bytes
  | .verdict r => r.bytes
  | .roster r => r.bytes
  | .soak r => r.bytes
  | .fades r => r.bytes
  | .margin r => r.bytes
  | .handover r => optional HandoverRecord.bytes r
  | .advance number target => u8 number ++ u8 target.code
  | .abort => []
  | .restart => []
  | .zero => []
  | .cue source => u8 (CueSource.code source)
  | .reports mask => maskBytes mask

/-! ### Reports -/

/-- An event kind's number (the table of R194). -/
def Report.kindNumber : Report → Nat
  | .range _ _ => 0
  | .ident _ => 1
  | .foreign _ _ _ _ => 2
  | .slip _ _ _ => 3
  | .fade _ _ _ _ _ => 4
  | .verdict _ _ _ _ _ _ _ => 5
  | .crosscheck _ _ _ => 6
  | .clash _ _ _ => 7
  | .endsConflict _ _ => 8
  | .partner _ _ => 9
  | .phase _ _ _ => 10
  | .proposal _ _ _ _ => 11
  | .mismatch _ _ => 12
  | .pattern _ _ _ => 13
  | .outage _ _ _ _ => 14
  | .soak _ _ _ _ _ _ _ => 15
  | .margin _ _ _ _ _ _ => 16
  | .supply _ => 17
  | .handover _ => 18

/-- A report's content, after its event kind (R194). -/
def Report.bytes : Report → List Byte
  | .range i r => u8 (Input.code i) ++ u8 r.code
  | .ident x => identBytes x
  | .foreign h a w d => u8 h ++ u8 a.code ++ i16 (w.getD 0) ++ i16 (d.getD 0)
  | .slip x n p => u8 (Axis.code x) ++ u16 n ++ p.bytes
  | .fade r e t d l => u8 (Role.code r) ++ flagByte e ++ t.bytes ++ u32 d ++ i16 l
  | .verdict v r t b0 b1 b2 b3 =>
    u8 v.code ++ u8 r.code ++ optional i16 (t.map TopFigures.level) ++ optional i16 (t.map TopFigures.deviation) ++
      flagByte b0 ++ flagByte b1 ++ flagByte b2 ++ flagByte b3
  | .crosscheck r a c => r.bytes ++ u8 a.code ++ antennaSetBytes c
  | .clash k h e => optional kindByte k ++ u8 h ++ u8 (HopEnd.code e)
  | .endsConflict h e => u8 h ++ u8 (HopEnd.code e)
  | .partner l a => u8 l.code ++ u8 a
  | .phase p q c => u8 p.code ++ u8 q.code ++ u8 c.code
  | .proposal n p o r => u8 n ++ u8 p.code ++ u8 o.code ++ optional (fun x => u8 (reasonCode (some x))) r
  | .mismatch p q => u8 p.code ++ u8 q.code
  | .pattern x l n => u8 x.code ++ u16 l ++ u16 n
  | .outage e t n l => u8 e.code ++ u24 t ++ u16 n ++ u24 l
  | .soak x v n c e b o => u8 x.code ++ optional soakVerdictByte v ++ u24 n ++ u24 c ++ u24 e ++ u24 b ++ u24 o
  | .margin d r m c z o =>
    u8 d.code ++ u8 r.code ++ optional u8 m ++ flagByte c ++ flagByte z ++ u8 o.code
  | .supply b => flagByte b
  | .handover v => u8 v.code

/-! ### Whole messages (R191) -/

/-- The third byte of a REFUSED for a SETUP (R191). -/
def refusedField : Option Nat → List Byte
  | none => []
  | some n => u8 n

/-- Type and body of a message from the part (R191). -/
def SiteMessage.body : SiteMessage → List Byte
  | .accepted r _ => 0x80 :: r.requestType :: r.bytes
  | .refused requestType reason field => 0x81 :: requestType :: u8 reason.code ++ refusedField field
  | .report r => 0x90 :: u8 r.kindNumber ++ r.bytes

/-- The sum of a message's bytes modulo 256 (R191). -/
def byteSum (bs : List Byte) : Byte := bs.foldl (fun a b => a + b) 0

/-- Every byte of a message: start, length, type and body, and the checksum that brings the sum to 0 (R191). -/
def SiteMessage.bytes (m : SiteMessage) : List Byte :=
  let rest := u16 m.body.length ++ m.body
  0xA7 :: rest ++ [-(byteSum rest)]

/-- The bytes of the message that last left the queue, as the line carries them (R191, R193). -/
def Site.wire (p : Site) : List Byte :=
  match p.sending with
  | none => []
  | some m => m.bytes

/-- The site port's line at a bit time of that message; it is high after its last stop bit (R191; log 27). -/
def Site.lineAt (bit : Nat) (p : Site) : Bool := (lineLevels p.wire).getD bit true

end Sys2Proof.Machine
end

