-- ==== Sys2Proof/Machine/Flags.lean ====
section
/-! DEFINITION. Event flags, reports and replies: how an event sets its flag and queues its report, and how a
message joins the output queue (R193, R194). -/

namespace Sys2Proof.Machine

/-- The output queue holds at most 8 messages (R193). -/
def outLimit : Nat := 8

/-- The bit of an event kind in the report mask (the table of R194). -/
def EventFlag.bit : EventFlag → Nat
  | .range _ => 0
  | .ident => 1
  | .foreign => 2
  | .slip => 3
  | .fade _ => 4
  | .verdict => 5
  | .crosscheck => 6
  | .clash => 7
  | .endsConflict => 8
  | .partner => 9
  | .phase => 10
  | .proposal => 11
  | .mismatch => 12
  | .pattern => 13
  | .outage => 14
  | .soak => 15
  | .margin => 16
  | .supply => 17
  | .handover => 18

/-- The event flag a report belongs to (R194). -/
def Report.event : Report → EventFlag
  | .range i _ => .range i
  | .ident _ => .ident
  | .foreign _ _ _ _ => .foreign
  | .slip _ _ _ => .slip
  | .fade r _ _ _ _ => .fade r
  | .verdict _ _ _ _ _ _ _ => .verdict
  | .crosscheck _ _ _ => .crosscheck
  | .clash _ _ _ => .clash
  | .endsConflict _ _ => .endsConflict
  | .partner _ _ => .partner
  | .phase _ _ _ => .phase
  | .proposal _ _ _ _ => .proposal
  | .mismatch _ _ => .mismatch
  | .pattern _ _ _ => .pattern
  | .outage _ _ _ _ => .outage
  | .soak _ _ _ _ _ _ _ => .soak
  | .margin _ _ _ _ _ _ => .margin
  | .supply _ => .supply
  | .handover _ => .handover

/-- The kinds of a mask that enables this report (R194). -/
def reportEnabled (mask : BitVec 19) (f : EventFlag) : Bool := mask.getLsbD f.bit

/-- A set flag stays set; the list holds each flag once. -/
def setFlag (f : EventFlag) (fs : List EventFlag) : List EventFlag :=
  if f ∈ fs then fs else fs ++ [f]

/-- A queued QUERY STATUS reply no longer clears a flag whose event has happened since it was built (R194). -/
def SiteMessage.keepFlag (f : EventFlag) : SiteMessage → SiteMessage
  | .accepted r clears => .accepted r (clears.filter fun g => g != f)
  | .refused t reason field => .refused t reason field
  | .report r => .report r

/-- A report joins the queue, or is dropped and counted when the queue holds 8 (R193). -/
def Site.queueReport (r : Report) (p : Site) : Site :=
  if p.out.length < outLimit then { p with out := p.out ++ [.report r] }
  else { p with counters := { p.counters with drops := satInc max16 p.counters.drops } }

/-- The flag of an event is set, whatever the mask (R194). -/
def Site.raiseFlag (f : EventFlag) (p : Site) : Site :=
  { p with flags := setFlag f p.flags, out := p.out.map (SiteMessage.keepFlag f) }

/-- An event: its flag is set, and its report queued when its kind is enabled (R194). -/
def Site.signal (r : Report) (p : Site) : Site :=
  let p := p.raiseFlag r.event
  if reportEnabled p.mask r.event then p.queueReport r else p

/-- An event of the part (R194). -/
def State.signal (r : Report) (s : State) : State := { s with site := s.site.signal r }

/-- A reply joins the queue; a request is taken only while there is room (R192, R193). -/
def Site.queueReply (m : SiteMessage) (p : Site) : Site := { p with out := p.out ++ [m] }

/-- ACCEPTED with its content (R192). -/
def State.accept (r : Reply) (s : State) : State := { s with site := s.site.queueReply (.accepted r []) }

/-- REFUSED with its reason (R191, R192). -/
def State.refuse (requestType : Byte) (reason : RefuseReason) (s : State) : State :=
  { s with site := s.site.queueReply (.refused requestType reason none) }

end Sys2Proof.Machine
end

