-- ==== Sys2Proof/Machine/Ops.lean ====
section
/-! DEFINITION. The operations that many blocks share: timers, sample times, random draws, settings and profile
in force, the staged values of the test source, and what cuts a message of the site port short. -/

namespace Sys2Proof.Machine

/-- One ms, or one second event, off a timer that runs; at 0 it stays due (log 3, 5). -/
def Timer.tick : Timer → Timer
  | none => none
  | some 0 => some 0
  | some (n + 1) => some n

/-- A timer has run out and its event is due. -/
def Timer.due (t : Timer) : Bool := t == some 0

/-- The longest gap, in ms, between two characters of a frame or a message (R108, R191). -/
def longestGap : Nat := 5

/-- A sample time in ms (R1). -/
def SampleTime.ms (t : SampleTime) : Nat := t.second * 1000 + t.index

/-- The difference of two sample times in ms (R1; log 18). -/
def SampleTime.since (later earlier : SampleTime) : Nat := later.ms - earlier.ms

/-- A draw from the n values 0 to n - 1 (R119, R121; log 6). -/
def drawBelow (draws n : Nat) : Nat := Config.randomDraw draws % n

/-- The profile in force (R14, R128). -/
def State.profile (s : State) : ProfileSettings :=
  match s.hop.profile with
  | .align => s.settings.align
  | .soak => s.settings.soak

def State.configured (s : State) : Bool := s.station.isSome

/-- The station's own hop; 0 matches no hop before setup (R30, R23). -/
def State.ownHop (s : State) : Nat :=
  match s.station with
  | none => 0
  | some st => st.hop

/-- The station's own number; 0 before setup. -/
def State.ownNumber (s : State) : Nat :=
  match s.station with
  | none => 0
  | some st => st.number

/-- The partner's number; 0 before setup. -/
def State.partnerNumber (s : State) : Nat :=
  match s.station with
  | none => 0
  | some st => st.partner

/-- The phase is one of those named. -/
def State.phaseIn (s : State) (ps : List Phase) : Bool := ps.contains s.hop.phase

/-- The roster entry of a station (R113). -/
def Route.entryOf (r : Route) (station : Nat) : Option RosterEntry := r.roster.find? fun e => e.station == station

/-- The partner's roster entry; none before setup (R114). -/
def State.partnerEntry (s : State) : Option RosterEntry :=
  match s.station with
  | none => none
  | some st => s.route.entryOf st.partner

/-- The latest level of the partner's roster entry, with the sample time that set it (R110). -/
def State.partnerLevel (s : State) : Option TimedLevel := s.partnerEntry.bind RosterEntry.level

/-! ### Staged values (R154) -/

/-- A write: the value is staged and pending (R154). -/
def Staged.write {α : Type} (v : α) (x : Staged α) : Staged α :=
  { live := x.live, staged := v, pending := true }

/-- An apply event: a pending value becomes live (R154). -/
def Staged.applyOn {α : Type} (event : Bool) (x : Staged α) : Staged α :=
  if event && x.pending then { live := x.staged, staged := x.staged, pending := false } else x

/-- A restore: the value takes effect at once, with nothing pending (R157). -/
def Staged.restore {α : Type} (v : α) (_x : Staged α) : Staged α :=
  { live := v, staged := v, pending := false }

/-! ### The cut of a site-port message (R191) -/

/-- The input framer hunts again (R191). -/
def Site.hunt (p : Site) : Site := { p with framer := .hunting }

/-- A malformed or truncated message is counted (R191, R193). -/
def Site.countMalformed (p : Site) : Site :=
  { p with counters := { p.counters with malformed := satInc max16 p.counters.malformed } }

/-- One ms off what is left of the longest gap, which runs out at 0 (R191; log 5). -/
def SiteFramer.tick : SiteFramer → SiteFramer
  | .hunting => .hunting
  | .taking bytes gap => .taking bytes (gap - 1)

/-- A gap of more than 5 ms may have passed while a message is being taken (R191; log 5). -/
def SiteFramer.gapDue : SiteFramer → Bool
  | .hunting => false
  | .taking _ gap => gap == 0

/-- The framer may be cut: a low stop bit cuts it at once, a gap only once the 5 ms may have passed (R191; log 5). -/
def SiteFramer.cutBy (cause : CutCause) (f : SiteFramer) : Bool :=
  match cause with
  | .lowStop => true
  | .gap => f == .hunting || f.gapDue

/-- A gap or a low stop bit ends a message early; while hunting there is none to end (R191). -/
def Site.gap (p : Site) : Site :=
  match p.framer with
  | .hunting => p
  | .taking _ _ => p.hunt.countMalformed

/-- A gap of more than 5 ms that no row has taken (R191; log 3, 5). -/
def Site.settleGap (p : Site) : Site := if p.framer.gapDue then p.gap else p

end Sys2Proof.Machine
end

