-- ==== Sys2Proof/Machine/Level.lean ====
section
/-! DEFINITION. The level unit: conversion, range, crossbar, averaging and the fade comparators (chapter 1). -/

namespace Sys2Proof.Machine

/-- The range state of a code (R2). -/
def rangeOf (code : Nat) : RangeState :=
  if code ≤ 15 then .under else if 4080 ≤ code then .over else .inRange

/-- A code's sample level under a calibration (R4). -/
def convert (cal : Calibration) (code : Nat) : Level :=
  clampInt (-1200) (-100) (cal.offset + (((code * cal.slope + 128) / 256 : Nat) : Int))

/-- An IN sample of an input: it counts while the warning is set, and the 1000th clears it (R3). -/
def InputState.countIn (x : InputState) : InputState :=
  if x.warning then
    { x with inCount := satInc 1000 x.inCount, warning := decide (x.inCount + 1 < 1000) }
  else x

/-- The 1000th IN sample of an input whose warning is set is the next one (R3). -/
def InputState.warningEnds (x : InputState) : Bool := x.warning && decide (1000 ≤ x.inCount + 1)

/-- The warning's work for a sample whose range state stands; the flag says whether RANGE is raised (R3). -/
def InputState.watch (x : InputState) : InputState × Bool :=
  match x.range with
  | .inRange => (x.countIn, false)
  | _ => ({ x with warning := true, inCount := 0 }, !x.warning)

/-- One input at a sample event (R2, R3, R4). -/
def InputState.take (cal : Calibration) (code : Nat) (x : InputState) : InputState × Bool :=
  ({ x with code := code, sample := convert cal code, range := rangeOf code } : InputState).watch

/-- The steering channel's role (R7). -/
def steeringRole : Antenna → Role
  | .main => .coMain
  | .div => .coDiv

/-- The cross-polar role of an antenna (R16). -/
def crossRole : Antenna → Role
  | .main => .xMain
  | .div => .xDiv

/-- A channel's reported level (R13). -/
def Channel.level (c : Channel) : Option Level :=
  if c.fresh then none else some ((c.acc + 128) / 256)

/-- An admitted sample: seed or update of the accumulator (R11, R12). -/
def Channel.average (k : Nat) (s : Level) (c : Channel) : Channel :=
  let acc := if c.fresh then s * 256 else c.acc + (s * 256 - c.acc) / ((2 ^ k : Nat) : Int)
  { c with acc := acc, fresh := false, admitted := satInc max16 c.admitted }

/-- Admission by the gate: a gated channel admits a sample at or above the decision level (R9). -/
def admits (gate : Option Level) (s : Level) : Bool :=
  match gate with
  | none => true
  | some d => decide (d ≤ s)

/-- A channel's averager at a sample event (R9). -/
def Channel.takeAverage (k : Nat) (gate : Option Level) (s : Level) (c : Channel) : Channel :=
  if admits gate s then c.average k s else { c with gated := satInc max16 c.gated }

/-- What a comparator delivers at the start or the end of a fade (R18, R19). -/
structure FadeEvent where
  ended : Bool
  start : SampleTime
  duration : Nat
  deepest : Level
  deriving DecidableEq, Repr

/-- A comparator in CLEAR takes a sample (R18). -/
def Comparator.takeClear (threshold : Level) (filter : Nat) (t : SampleTime) (s : Level) (c : Comparator) :
    Comparator × Option FadeEvent :=
  if s < threshold then
    let start := if c.run = 0 then t else c.runStart
    let low := if c.run = 0 then s else min c.runMin s
    if c.run + 1 < filter then ({ c with run := c.run + 1, runStart := start, runMin := low }, none)
    else
      ({ c with state := .faded, run := 0, runStart := start, runMin := low, fadeStart := start, deepest := low },
        some { ended := false, start := start, duration := filter, deepest := low })
  else ({ c with run := 0 }, none)

/-- A comparator in FADED takes a sample (R19). -/
def Comparator.takeFaded (clearLevel : Level) (filter : Nat) (t : SampleTime) (s : Level) (c : Comparator) :
    Comparator × Option FadeEvent :=
  let deep := min c.deepest s
  if clearLevel ≤ s then
    let start := if c.run = 0 then t else c.runStart
    if c.run + 1 < filter then ({ c with run := c.run + 1, runStart := start, deepest := deep }, none)
    else
      ({ c with state := .clear, run := 0, runStart := start, deepest := deep },
        some
          { ended := true, start := c.fadeStart, duration := min max32 (start.since c.fadeStart),
            deepest := deep })
  else ({ c with run := 0, deepest := deep }, none)

/-- A comparator takes a sample of its role under the profile in force (R17). -/
def Comparator.take (p : ProfileSettings) (r : Role) (t : SampleTime) (s : Level) (c : Comparator) :
    Comparator × Option FadeEvent :=
  match c.state with
  | .clear => c.takeClear (p.thresholds.get r) p.filter t s
  | .faded => c.takeFaded (p.thresholds.get r + p.hysteresis) p.filter t s

/-- One channel at a sample event: the average, then the comparator (R1, R9, R17). -/
def Channel.take (p : ProfileSettings) (r : Role) (gate : Option Level) (t : SampleTime) (s : Level)
    (c : Channel) : Channel × Option FadeEvent :=
  let c := c.takeAverage p.shift gate s
  let taken := c.cmp.take p r t s
  ({ c with cmp := taken.1 }, taken.2)

/-- A channel restart (R8; log 7). -/
def Channel.restart (c : Channel) : Channel :=
  { c with fresh := true, admitted := 0, gated := 0, cmp := { c.cmp with state := .clear, run := 0 } }

/-- A profile switch sets every comparator's run count to 0 (R20). -/
def Channel.profileSwitch (c : Channel) : Channel := { c with cmp := { c.cmp with run := 0 } }

def LevelUnit.restartChannels (u : LevelUnit) : LevelUnit :=
  { u with channels := u.channels.map Channel.restart }

def LevelUnit.profileSwitch (u : LevelUnit) : LevelUnit :=
  { u with channels := u.channels.map Channel.profileSwitch }

/-- The level unit after a restart (section 1.9.1). -/
def LevelUnit.restart (u : LevelUnit) : LevelUnit := { u.restartChannels with steering := .main }

/-! ### What the unit hands on -/

/-- A difference of two levels, present when both are (R16). -/
def levelDifference : Option Level → Option Level → Option Int
  | some x, some y => some (x - y)
  | _, _ => none

/-- A role's reported level (R13). -/
def LevelUnit.roleLevel (u : LevelUnit) (r : Role) : Option Level := (u.channels.get r).level

/-- The steering level (R22). -/
def LevelUnit.steeringLevel (u : LevelUnit) : Option Level := u.roleLevel (steeringRole u.steering)

/-- The XPD of an antenna (R16). -/
def LevelUnit.xpd (u : LevelUnit) (a : Antenna) : Option Int :=
  levelDifference (u.roleLevel (steeringRole a)) (u.roleLevel (crossRole a))

/-- The diversity difference (R16). -/
def LevelUnit.diversityDifference (u : LevelUnit) : Option Int :=
  levelDifference (u.roleLevel .coMain) (u.roleLevel .coDiv)

/-- The input a role selects (R6). -/
def State.roleInput (s : State) (r : Role) : InputState :=
  s.level.inputs.get (s.settings.mapping.get r)

/-- The steering channel's converted sample (R23). -/
def State.steeringSample (s : State) : Level := (s.roleInput (steeringRole s.level.steering)).sample

/-- The steering channel's range state (R22). -/
def State.steeringRange (s : State) : RangeState := (s.roleInput (steeringRole s.level.steering)).range

end Sys2Proof.Machine
end

