-- ==== Sys2Proof/Machine/Ident.lean ====
section
/-! DEFINITION. The beacon identifier (chapter 2). -/

namespace Sys2Proof.Machine

/-- The keying half-period of a hop in ms (the table at the head of chapter 2; R151). -/
def halfPeriod : Nat → Nat
  | 1 => 40
  | 2 => 52
  | 3 => 68
  | 4 => 88
  | 5 => 114
  | 6 => 148
  | _ => 192

/-- The full period P(h) (the table at the head of chapter 2). -/
def fullPeriod (h : Nat) : Nat := 2 * halfPeriod h

/-- An interval matches a hop when |i - P(h)| x 10 ≤ P(h) (R30). -/
def matchesHop (h i : Nat) : Bool :=
  decide ((max i (fullPeriod h) - min i (fullPeriod h)) * 10 ≤ fullPeriod h)

/-- The ring's intervals that match a hop (R30). -/
def matchCount (ring : List Nat) (h : Nat) : Nat := (ring.filter (matchesHop h)).length

/-- The hop with 6 or more matching intervals, if any (R30). -/
def ringHop (ring : List Nat) : Option Nat := [1, 2, 3, 4, 5, 6, 7].find? fun h => decide (6 ≤ matchCount ring h)

/-- The result of an evaluation (the table of R30). -/
def Identifier.evaluation (own : Nat) (x : Identifier) : IdentState :=
  if x.closed.length < 4 then .noKeying
  else
    match x.swing with
    | none => .noKeying
    | some w =>
      if w < 60 then .noKeying
      else if x.ring.length < 8 then .unsure
      else
        match ringHop x.ring with
        | none => .unsure
        | some h => if h = own then .own else .foreign h

def Identifier.evaluate (own : Nat) (x : Identifier) : Identifier := { x with state := x.evaluation own }

/-- The newest interval joins the ring, which holds at most 8 (R28). -/
def pushInterval (i : Nat) (ring : List Nat) : List Nat :=
  let ring := ring ++ [i]
  if 8 < ring.length then ring.drop 1 else ring

/-- A rise (R27, R28). -/
def Identifier.rise (t : SampleTime) (x : Identifier) : Identifier :=
  { x with
    ring :=
      match x.lastRise with
      | none => x.ring
      | some u => pushInterval (min 1000 (t.since u)) x.ring
    lastRise := some t
    below := 0 }

/-- The comparison of a sample, and the evaluation at a rise (R27, R30). -/
def Identifier.compare (own : Nat) (t : SampleTime) (s : Level) (x : Identifier) : Identifier :=
  match x.decision, x.swing with
  | some d, some w =>
    if w < 60 then { x with below := 0 }
    else if s < d then { x with below := satInc 1000 x.below }
    else if 3 ≤ x.below then (x.rise t).evaluate own
    else { x with below := 0 }
  | _, _ => { x with below := 0 }

/-- The highest maximum of the closed blocks. -/
def highest (bs : List Block) : Level := bs.foldl (fun m b => max m b.hi) (-1200)

/-- The lowest minimum of the closed blocks. -/
def lowest (bs : List Block) : Level := bs.foldl (fun m b => min m b.lo) (-100)

/-- The window update of R26. Where R36 says that an input that pins falls to NO_KEYING at the next block close, the
model follows R26, R29 and section 2.7.4: the swing is that of the four blocks, quiet ones and earlier ones alike, so
the fall comes when the last block before the pinning has left the window (the model's choice, log 35). -/
def Identifier.updateWindow (x : Identifier) : Identifier :=
  if x.closed.length < 4 then x
  else
    let w := highest x.closed - lowest x.closed
    { x with swing := some w, decision := some (lowest x.closed + w / 2) }

/-- The clearing of R29. -/
def Identifier.clearRing (x : Identifier) : Identifier :=
  match x.swing with
  | none => x
  | some w => if w < 60 then { x with ring := [], lastRise := none, below := 0, state := .noKeying } else x

/-- A closed block joins the window, which holds at most four (R25). -/
def pushBlock (b : Block) (bs : List Block) : List Block :=
  let bs := bs ++ [b]
  if 4 < bs.length then bs.drop 1 else bs

/-- A block close and its evaluation (R25, R26, R29, R30). -/
def Identifier.closeBlock (own : Nat) (b : Block) (x : Identifier) : Identifier :=
  let x := { x with blockCount := 0, blockMax := none, blockMin := none, closed := pushBlock b x.closed }
  x.updateWindow.clearRing.evaluate own

/-- A sample raises a maximum, or starts it (R25). -/
def raiseTo (s : Level) : Option Level → Level
  | none => s
  | some m => max m s

/-- A sample lowers a minimum, or starts it (R25). -/
def lowerTo (s : Level) : Option Level → Level
  | none => s
  | some m => min m s

/-- The block update of a sample, and the close at the 250th (R25). -/
def Identifier.addSample (own : Nat) (s : Level) (x : Identifier) : Identifier :=
  let hi := raiseTo s x.blockMax
  let lo := lowerTo s x.blockMin
  if x.blockCount + 1 < 250 then
    { x with blockCount := x.blockCount + 1, blockMax := some hi, blockMin := some lo }
  else x.closeBlock own { hi := hi, lo := lo }

/-- The identifier takes a steering sample, in the order of R31; a stopped one takes none (R23). -/
def Identifier.take (own : Nat) (t : SampleTime) (s : Level) (x : Identifier) : Identifier :=
  if x.running then (x.compare own t s).addSample own s else x

/-- The next sample closes the block (R25). -/
def Identifier.blockEnds (x : Identifier) : Bool := x.running && decide (250 ≤ x.blockCount + 1)

/-- An identifier restart or stop: everything is cleared (R23, R24). -/
def Identifier.restart (running : Bool) : Identifier := { Identifier.cleared with running := running }

/-- The ident state is OWN or FOREIGN (R32). -/
def identGates : IdentState → Bool
  | .own => true
  | .foreign _ => true
  | _ => false

def identForeign : IdentState → Bool
  | .foreign _ => true
  | _ => false

/-- The gate and its decision level; none while inactive (R9, R32). -/
def Identifier.gate (x : Identifier) : Option Level := if identGates x.state then x.decision else none

/-- The events of an ident state change, from the state before to the one standing (R35). -/
def State.signalIdent (before : IdentState) (s : State) : State :=
  if before = s.ident.state then s
  else
    let s' := s.signal (.ident s.ident.state)
    match s.ident.state with
    | .foreign h => s'.signal (.foreign h s.level.steering s.ident.swing s.ident.decision)
    | _ => s'

/-- The identifier takes a steering sample, and its change of state is signalled (R31, R35). -/
def State.identSample (level : Level) (s : State) : State :=
  { s with ident := s.ident.take s.ownHop s.time.now level }.signalIdent s.ident.state

/-- A restart or stop caused by a phase entry, signalled (R23, R24, R35). -/
def State.identEntry (running : Bool) (s : State) : State :=
  { s with ident := Identifier.restart running }.signalIdent s.ident.state

/-- The identifier's part of QUERY STATUS (R34). -/
def Identifier.reply (x : Identifier) : IdentReply :=
  { running := x.running, state := x.state, closedBlocks := x.closed.length, swing := x.swing,
    decision := x.decision, ringCount := x.ring.length, ring := x.ring }

end Sys2Proof.Machine
end

