-- ==== Sys2Proof/Machine/Position.lean ====
section
/-! DEFINITION. The position counter (chapter 3): line filters, decoding, saturation, snapshot, zero. -/

namespace Sys2Proof.Machine

/-- The candidate count of a line at one cue-clock tick (R37). -/
def LineState.tick (l : LineState) : LineState :=
  if l.raw = l.filtered then { l with candidate := 0 } else { l with candidate := l.candidate + 1 }

/-- The line's candidate count has reached the filter time (R37). -/
def LineState.due (n : Nat) (l : LineState) : Bool := decide (n ≤ l.candidate) && (l.raw != l.filtered)

/-- A line whose count has reached the filter time takes its raw level (R37). -/
def LineState.pass (n : Nat) (l : LineState) : LineState :=
  if l.due n then { l with filtered := l.raw, candidate := 0 } else l

/-- The raw level changes between two ticks; only a tick samples it (R37, R155; log 22). -/
def LineState.drive (high : Bool) (l : LineState) : LineState := { l with raw := high }

/-- The first tick after a hard reset: the filtered level is the raw one (R47, R155). -/
def LineState.settleFirst (l : LineState) : LineState := { l with filtered := l.raw, candidate := 0 }

/-- The place of a filtered pair (A, B) in the sequence that counts up (R38). -/
def quadrature : Bool → Bool → Nat
  | false, false => 0
  | true, false => 1
  | true, true => 2
  | false, true => 3

/-- What a change of the filtered pair is (the table of R38). -/
inductive Move where
  | stay | up | down | slip
  deriving DecidableEq, Repr

def moveOf (before after : Nat) : Move :=
  match (after + 4 - before) % 4 with
  | 0 => .stay
  | 1 => .up
  | 3 => .down
  | _ => .slip

/-- A step up at the limits of the count (R41). -/
def AxisState.stepUp (x : AxisState) : AxisState :=
  if 32767 ≤ x.count then { x with saturated := true } else { x with count := x.count + 1, saturated := false }

/-- A step down at the limits of the count (R41). -/
def AxisState.stepDown (x : AxisState) : AxisState :=
  if x.count ≤ -32768 then { x with saturated := true } else { x with count := x.count - 1, saturated := false }

/-- A slip (R39). -/
def AxisState.slip (x : AxisState) : AxisState :=
  { x with slipped := true, slipCount := satInc max16 x.slipCount }

/-- The lines that have run their filter time pass, and the change is decoded (R37, R38). -/
def AxisState.pass (n : Nat) (x : AxisState) : AxisState × Move :=
  let a := x.lineA.pass n
  let b := x.lineB.pass n
  let move := moveOf (quadrature x.lineA.filtered x.lineB.filtered) (quadrature a.filtered b.filtered)
  let x := { x with lineA := a, lineB := b }
  match move with
  | .stay => (x, move)
  | .up => (x.stepUp, move)
  | .down => (x.stepDown, move)
  | .slip => (x.slip, move)

/-- A line of the axis has run its filter time. -/
def AxisState.due (n : Nat) (x : AxisState) : Bool := x.lineA.due n || x.lineB.due n

def AxisState.line (x : AxisState) : Line → LineState
  | .a => x.lineA
  | .b => x.lineB

def AxisState.setLine (x : AxisState) (l : Line) (v : LineState) : AxisState :=
  match l with
  | .a => { x with lineA := v }
  | .b => { x with lineB := v }

def AxisState.mapLines (f : LineState → LineState) (x : AxisState) : AxisState :=
  { x with lineA := f x.lineA, lineB := f x.lineB }

/-- The snapshot latched between two ticks (R42). -/
def Position.latch (p : Position) : Position :=
  { p with
    snapshot :=
      { az := p.axes.az.count, el := p.axes.el.count, azSaturated := p.axes.az.saturated,
        elSaturated := p.axes.el.saturated } }

/-- An axis is zeroed; its slip count and filters are kept (R44). -/
def AxisState.zero (x : AxisState) : AxisState :=
  { x with count := 0, saturated := false, slipped := false }

/-- A zero of both axes and the snapshot (R44). -/
def Position.zero (p : Position) : Position :=
  { axes := p.axes.map AxisState.zero, snapshot := .zero }

/-- A restart: a zero that also clears the slip counts (R47). -/
def Position.restart (p : Position) : Position :=
  { axes := p.axes.map fun x => { x.zero with slipCount := 0 }, snapshot := .zero }

/-- Acceptance of the Setup Record sets the candidate counts to 0 (R46). -/
def Position.clearCandidates (p : Position) : Position :=
  { p with axes := p.axes.map (AxisState.mapLines fun l => { l with candidate := 0 }) }

/-- The QUERY POSITION reply (R43). -/
def Position.reply (n : Nat) (p : Position) : PositionReply :=
  { snapshot := p.snapshot, slipped := p.axes.map AxisState.slipped, slipCounts := p.axes.map AxisState.slipCount,
    filterTicks := n }

end Sys2Proof.Machine
end

