-- ==== Sys2Proof/Machine/MapUnit.lean ====
section
/-! DEFINITION. The alignment map (chapter 4): placing, recording, slips, states and queries. -/

namespace Sys2Proof.Machine

/-- The column at which a snapshot is placed; it may lie outside the map (R49). -/
def Geometry.columnAt (g : Geometry) (az : Int) : Int := az / g.cellWidth + g.columns / 2

/-- The row at which a snapshot is placed; it may lie outside the map (R49). -/
def Geometry.rowAt (g : Geometry) (el : Int) : Int := el / g.cellHeight + g.rows / 2

/-- The cell in which a snapshot lies; none when it is outside the map (R49). -/
def Geometry.place (g : Geometry) (az el : Int) : Option CellPos :=
  let c := g.columnAt az
  let r := g.rowAt el
  if 0 ≤ c ∧ c < g.columns ∧ 0 ≤ r ∧ r < g.rows then some { column := c.toNat, row := r.toNat } else none

/-- The AZ count of a cell's centre (R49). -/
def Geometry.centreAz (g : Geometry) (column : Nat) : Int :=
  ((column : Int) - (g.columns / 2 : Nat)) * g.cellWidth + (g.cellWidth / 2 : Nat)

/-- The EL count of a cell's centre (R49). -/
def Geometry.centreEl (g : Geometry) (row : Nat) : Int :=
  ((row : Int) - (g.rows / 2 : Nat)) * g.cellHeight + (g.cellHeight / 2 : Nat)

def CellRecord.pos (c : CellRecord) : CellPos := { column := c.column, row := c.row }

/-- A visited cell's record; none while the cell is unvisited (R50). -/
def AlignMap.find (m : AlignMap) (p : CellPos) : Option CellRecord := m.cells.find? fun c => c.pos == p

/-- A sample recorded in a visited cell (R56). -/
def CellRecord.add (level : Level) (c : CellRecord) : CellRecord :=
  { c with count := satInc 255 c.count, best := max c.best level }

/-- A sample recorded in its cell, visited or not (R56). -/
def AlignMap.recordCell (p : CellPos) (level : Level) (m : AlignMap) : AlignMap :=
  match m.find p with
  | some _ => { m with cells := m.cells.map fun c => if c.pos = p then c.add level else c }
  | none =>
    { m with
      visits := m.visits + 1
      cells := m.cells ++ [{ column := p.column, row := p.row, count := 1, best := level, visit := m.visits + 1 }] }

/-- The sweep best after a recorded sample (R57). -/
def sweepBestAfter (p : CellPos) (level : Level) : Option SweepBest → Option SweepBest
  | none => some { level := level, cell := p }
  | some b => if b.level < level then some { level := level, cell := p } else some b

/-- A recorded sample (R56, R57). -/
def AlignMap.record (p : CellPos) (level : Level) (range : RangeState) (m : AlignMap) : AlignMap :=
  let m := m.recordCell p level
  { m with
    best := sweepBestAfter p level m.best
    range := if range = .inRange then m.range else satInc max16 m.range }

/-- A considered sample event: refused under the first reason that applies, or recorded (R55). -/
def AlignMap.consider (g : Geometry) (isForeign : Bool) (snap : Snapshot) (level : Level) (range : RangeState)
    (m : AlignMap) : AlignMap :=
  if isForeign then { m with foreign := satInc max16 m.foreign }
  else if snap.azSaturated || snap.elSaturated then { m with saturated := satInc max16 m.saturated }
  else
    match g.place snap.az snap.el with
    | none => { m with outside := satInc max16 m.outside }
    | some p => m.record p level range

/-- The map's part of a sample event whose steering sample was admitted or skipped (R54). -/
def State.mapSample (admitted : Bool) (s : State) : State :=
  if s.map.state = .recording ∧ admitted then
    match s.level.steeringLevel with
    | none => s
    | some level =>
      { s with
        map :=
          s.map.consider s.settings.geometry (identForeign s.ident.state) s.pos.snapshot level s.steeringRange }
  else s

/-- A slip handed to the map during a sweep (R59). -/
def AlignMap.slip (x : Axis) (m : AlignMap) : AlignMap :=
  if (m.slips.get x).flag then m else { m with slips := m.slips.set x { flag := true, mark := some m.visits } }

/-- The clearing at SWEEP entry, with the accepted proposal's antenna role (R51). -/
def AlignMap.sweepEntry (role : Antenna) : AlignMap :=
  { AlignMap.empty with state := .recording, role := some role }

/-- CONFIRM entry, and HALTED entry, freeze a recording map (R52, R53). -/
def AlignMap.freeze (m : AlignMap) : AlignMap := if m.state = .recording then { m with state := .frozen } else m

/-- The QUERY MAP CELL reply (R63). -/
def State.mapCellReply (column row : Nat) (s : State) : MapCellReply :=
  let g := s.settings.geometry
  let p : CellPos := { column := column, row := row }
  let cell := s.map.find p
  { serial := s.hop.serial, state := s.map.state, column := column, row := row
    count := match cell with | none => 0 | some c => c.count
    best := cell.map CellRecord.best, visit := cell.map CellRecord.visit
    centreAz := g.centreAz column, centreEl := g.centreEl row
    current := g.place s.pos.snapshot.az s.pos.snapshot.el == some p }

/-- The QUERY MAP SUMMARY reply (R64). -/
def State.mapSummaryReply (s : State) : MapSummaryReply :=
  { state := s.map.state, serial := s.hop.serial, geometry := s.settings.geometry, role := s.map.role
    visits := s.map.visits, best := s.map.best, outside := s.map.outside, foreign := s.map.foreign
    saturated := s.map.saturated, range := s.map.range, slips := s.map.slips
    az := s.pos.snapshot.az, el := s.pos.snapshot.el
    cell := s.settings.geometry.place s.pos.snapshot.az s.pos.snapshot.el }

end Sys2Proof.Machine
end

