-- ==== Sys2Proof/Machine/Lobe.lean ====
section
/-! DEFINITION. The lobe analyser (chapter 5): local maxima, lobe list, verdict, records and cross-check. -/

namespace Sys2Proof.Machine

/-! ### The lobe list -/

/-- The higher and the lower of two numbers differ by at most one. -/
def withinOne (x y : Nat) : Bool := decide (x ≤ y + 1) && decide (y ≤ x + 1)

/-- Two different cells that differ by at most one column and one row (R72). -/
def neighbours (c d : CellRecord) : Bool :=
  withinOne c.column d.column && withinOne c.row d.row && (c.pos != d.pos)

/-- d stands above c: higher, or equal and visited earlier (R72). -/
def standsAbove (d c : CellRecord) : Bool :=
  decide (c.best < d.best) || (d.best == c.best && decide (d.visit < c.visit))

/-- No visited neighbour stands above the cell (R72). -/
def localMaximum (cells : List CellRecord) (c : CellRecord) : Bool :=
  !(cells.any fun d => neighbours c d && standsAbove d c)

/-- Insertion in the order of R74: level descending, then visit index ascending. -/
def insertByHeight (c : CellRecord) : List CellRecord → List CellRecord
  | [] => [c]
  | d :: ds => if standsAbove c d then c :: d :: ds else d :: insertByHeight c ds

/-- The local maxima of the map in the order of R74. -/
def maximaInOrder (cells : List CellRecord) : List CellRecord :=
  (cells.filter (localMaximum cells)).foldl (fun acc c => insertByHeight c acc) []

/-- The cell lies on a side of the map (R73). -/
def onEdge (g : Geometry) (c : CellRecord) : Bool :=
  c.column == 0 || c.column + 1 == g.columns || c.row == 0 || c.row + 1 == g.rows

/-- The class of an entry that is not the first (R75). -/
def laterClass (top : Level) (sideDepth : Nat) (level : Level) : LobeClass :=
  if level ≤ top - sideDepth then .side else .minor

/-- An entry of the list (R73, R74). -/
def lobeEntry (g : Geometry) (cells : List CellRecord) (rank : LobeClass) (c : CellRecord) : LobeEntry :=
  let n := (cells.filter (neighbours c)).length
  { cell := c.pos, level := c.best, visit := c.visit, neighbours := n, supported := decide (3 ≤ n),
    edge := onEdge g c, rank := rank }

/-- The lobe list of a map: the first 8 maxima, the first of them TOP (R74, R75). -/
def lobeList (g : Geometry) (sideDepth : Nat) (cells : List CellRecord) : List LobeEntry :=
  match (maximaInOrder cells).take 8 with
  | [] => []
  | top :: rest =>
    lobeEntry g cells .top top :: rest.map fun c => lobeEntry g cells (laterClass top.best sideDepth c.best) c

/-- The maxima beyond the eighth, saturating at 255 (R74). -/
def lobeOverflow (cells : List CellRecord) : Nat := min 255 ((maximaInOrder cells).length - 8)

/-! ### The verdict -/

/-- The predicted level G of the antenna steered (R76). -/
def predictedLevel (st : Settings) (role : Antenna) : Level := st.predicted.get role

/-- The verdict on a top entry (the table of R76). -/
def verdictOf (st : Settings) (role : Antenna) (list : List LobeEntry) : Verdict :=
  let g := predictedLevel st role
  match list with
  | [] => .noData
  | top :: _ =>
    if g - st.mainTolerance ≤ top.level then
      if top.supported && !top.edge then .mainFound else .unresolved
    else if g - st.sideDepth ≤ top.level then .mainLow
    else .sideOnly

/-- The top level and its deviation from G (R77). -/
def topFigures (g : Level) (list : List LobeEntry) : Option TopFigures :=
  list.head?.map fun top => { level := top.level, deviation := top.level - g }

/-- The local verdict record (R77). -/
def verdictRecord (st : Settings) (u : LevelUnit) (m : AlignMap) (id : ProposalId) (list : List LobeEntry)
    (overflow : Nat) : VerdictRecord :=
  let role := m.role.getD .main
  let g := predictedLevel st role
  { id := id, role := role, verdict := verdictOf st role list, top := topFigures g list, predicted := g
    xpd := u.xpd u.steering, diversity := u.diversityDifference
    positionSuspect := m.slips.az.flag || m.slips.el.flag
    foreignSeen := decide (0 < m.foreign), outsideSeen := decide (0 < m.outside)
    listOverflow := decide (0 < overflow) }

/-! ### The cross-check -/

/-- The two deviations differ by at most the limit; absent ones fail (R83; log 33). -/
def symmetric (limit : Nat) (own partner : VerdictRecord) : Bool :=
  match own.top, partner.top with
  | some t, some u => decide ((t.deviation - u.deviation).natAbs ≤ limit)
  | _, _ => false

/-- A figure is present and at least the limit (R83). -/
def atLeast (limit : Nat) : Option Int → Bool
  | none => false
  | some x => decide ((limit : Int) ≤ x)

/-- A figure is present and within the limit either way (R83). -/
def within (limit : Nat) : Option Int → Bool
  | none => false
  | some x => decide (x.natAbs ≤ limit)

/-- The outcome of the cross-check of two records (R83). -/
def crossCheck (st : Settings) (own partner : VerdictRecord) : CrossResult :=
  if own.verdict ≠ .mainFound then .rejected .localNotMain
  else if partner.verdict ≠ .mainFound then .rejected .partnerNotMain
  else if own.role = .main ∧ partner.role = .main ∧ ¬ symmetric st.asymmetryLimit own partner then
    .rejected .asymmetry
  else if st.dualPol ∧ ¬ atLeast st.requiredXpd own.xpd then .rejected .xpdLow
  else if own.role = .div ∧ ¬ within st.imbalanceLimit own.diversity then .rejected .diversityImbalance
  else .confirmed

/-- An antenna joins the confirmed set (R85). -/
def addAntenna (x : AntennaSet) : Antenna → AntennaSet
  | .main => { x with main := true }
  | .div => { x with div := true }

/-- The confirmed set holds MAIN, and DIV when diversity is fitted (R85). -/
def confirmedEnough (diversity : Bool) (x : AntennaSet) : Bool := x.main && (x.div || !diversity)

/-- The decided cross-check, in the analyser (R84, R85). -/
def Analyser.decide (st : Settings) (own partner : VerdictRecord) (a : Analyser) : Analyser :=
  let result := crossCheck st own partner
  { a with
    result := result
    kept := a.kept.set own.role (some { own := own, partner := some partner, result := result })
    confirmed := if result = .confirmed then addAntenna a.confirmed own.role else a.confirmed }

/-- The cross-check runs, with its event, when both records are present (R82, R84). -/
def State.runCrossCheck (s : State) : State :=
  match s.lobe.own, s.lobe.held with
  | some own, some held =>
    let s := { s with lobe := s.lobe.decide s.settings own held }
    s.signal (.crosscheck s.lobe.result own.role s.lobe.confirmed)
  | _, _ => s

/-! ### Entries, cancellation and the partner's record -/

/-- The record of the completion: list, verdict, local record, kept slot, repeat timer of 5 s (R69, R78). -/
def Analyser.complete (st : Settings) (u : LevelUnit) (m : AlignMap) (a : Analyser) : Analyser :=
  match a.id with
  | none => a
  | some id =>
    let list := lobeList st.geometry st.sideDepth m.cells
    let overflow := lobeOverflow m.cells
    let own := verdictRecord st u m id list overflow
    { a with
      state := .complete, list := list, overflow := overflow, own := some own
      kept := a.kept.set own.role (some { own := own, partner := none, result := .pending })
      repeatTimer := some 5000 }

/-- The start of an analysis at CONFIRM entry (R68). -/
def Analyser.start (id : ProposalId) (a : Analyser) : Analyser :=
  { a with
    state := .running, elapsed := 0, id := some id, result := .pending, repeatTimer := none
    held := a.held.filter fun r => r.id == id }

/-- Any exit from CONFIRM: a running analysis is cancelled, a complete one keeps its result (R70, R79). -/
def Analyser.leaveConfirm (a : Analyser) : Analyser :=
  let a := { a with repeatTimer := none }
  if a.state = .running then { a with state := .notRun, result := .none, id := none, held := none } else a

/-- SWEEP entry (R71). -/
def Analyser.sweepEntry (a : Analyser) : Analyser :=
  { a with state := .notRun, list := [], overflow := 0, own := none, id := none, held := none, result := .none }

/-- A partner VERDICT that is not taken and is counted (R81). -/
def Analyser.countIgnored (a : Analyser) : Analyser := { a with ignored := satInc 255 a.ignored }

/-- A partner VERDICT delivered by the route channel controller (the table of R81). -/
def State.takeVerdict (r : VerdictRecord) (s : State) : State :=
  let matching := s.lobe.id == some r.id
  match s.hop.phase with
  | .sweep => { s with lobe := { s.lobe with held := some r } }
  | .confirm =>
    if s.lobe.result = .pending then
      if matching then { s with lobe := { s.lobe with held := some r } }.runCrossCheck
      else { s with lobe := s.lobe.countIgnored }
    else if matching then s
    else { s with lobe := s.lobe.countIgnored }
  | _ => { s with lobe := s.lobe.countIgnored }

/-! ### What the outside sees -/

/-- The top entry, once the analysis is complete (R80, R88). -/
def Analyser.top (a : Analyser) : Option LobeEntry := if a.state = .complete then a.list.head? else none

/-- The offset to the top cell (R80). -/
def State.lobeOffset (s : State) : Option Offset :=
  s.lobe.top.map fun top =>
    { az := s.settings.geometry.centreAz top.cell.column - s.pos.snapshot.az
      el := s.settings.geometry.centreEl top.cell.row - s.pos.snapshot.el }

/-- The QUERY LOBES reply (R86). -/
def State.lobesReply (s : State) : LobesReply :=
  { state := s.lobe.state, serial := s.hop.serial, count := s.lobe.list.length, list := s.lobe.list
    overflow := s.lobe.overflow, offset := s.lobeOffset, snapshot := s.pos.snapshot }

/-- The QUERY VERDICT reply (R87). -/
def Analyser.reply (a : Analyser) : VerdictReply :=
  { state := a.state, id := a.id, own := a.own, held := a.held, result := a.result, confirmed := a.confirmed
    ignored := a.ignored, kept := a.kept }

end Sys2Proof.Machine
end

