-- ==== Sys2Proof/Machine/Cue.lean ====
section
/-! DEFINITION. The cue unit (chapter 6): update, tone state, pitch, generator, cadences and meter. -/

namespace Sys2Proof.Machine

/-- The age of the partner level in ms (R92, R102). -/
def State.partnerLevelAge (s : State) : Option Nat := s.partnerLevel.map fun l => s.time.now.since l.time

/-- No partner level, or one more than 2000 ms old (R92). -/
def State.partnerStale (s : State) : Bool :=
  match s.partnerLevelAge with
  | none => true
  | some age => decide (2000 < age)

/-- The cue's source is PARTNER and its level is stale (R92, R93). -/
def State.cueStale (s : State) : Bool := s.cue.source == .partner && s.partnerStale

/-- The reference of RELATIVE (R60, R88, R92). -/
def State.cueReference (s : State) : Option Level :=
  if s.hop.phase = .sweep then s.map.best.map SweepBest.level else s.lobe.top.map LobeEntry.level

/-- The level used at an update (the table of R92). -/
def State.cueLevel (s : State) : Option Level :=
  match s.cue.source with
  | .steer => s.level.steeringLevel
  | .partner => if s.partnerStale then none else s.partnerLevel.map TimedLevel.level
  | .relative => levelDifference s.level.steeringLevel s.cueReference

/-- The tone state an update decides (the table of R93). -/
def State.cueTone (s : State) : ToneState :=
  if s.profile.cueOn = false then .off
  else if identForeign s.ident.state then .foreign
  else if s.cueStale then .stale
  else .tone

/-- The pitch step of a level used (R94). -/
def pitchStep (st : Settings) (source : CueSource) : Option Level → Nat
  | none => 0
  | some l =>
    match source with
    | .relative => (clampInt 0 63 (63 + l / st.toneStep)).toNat
    | _ => (clampInt 0 63 ((l - st.toneFloor) / st.toneStep)).toNat

/-- The half-period of a pitch step in cue-clock ticks (R94). -/
def halfPeriodOf (p : Nat) : Nat := 640 - 8 * p

/-- The meter duty of a level used (the table of R100). -/
def meterDuty (st : Settings) (source : CueSource) : Option Level → Nat
  | none => 0
  | some l =>
    let m : Int := st.modulus
    match source with
    | .relative => (clampInt 0 (m - 1) ((m - 1) + l * m / st.meterSpan)).toNat
    | _ => (clampInt 0 (m - 1) ((l - st.meterFloor) * m / st.meterSpan)).toNat

/-- A silence request (the table of R96). -/
def Cue.silence (c : Cue) : Cue :=
  match c.generator with
  | .sounding => { c with generator := .stopping }
  | _ => c

/-- A resume request (the table of R96). -/
def Cue.resume (c : Cue) : Cue :=
  match c.generator with
  | .sounding => c
  | .stopping => { c with generator := .sounding }
  | .silent => { c with generator := .sounding, output := true, halfCounter := 0, liveHalf := c.stagedHalf }

/-- The cadence starts, or is not used (R93). -/
def Cue.restartCadence (c : Cue) : Cue := { c with cadence := 0, cadenceDue := false }

/-- The work of an update in TONE (R94, R96, R100). -/
def Cue.workTone (st : Settings) (used : Option Level) (c : Cue) : Cue :=
  { c.restartCadence with
    stagedHalf := halfPeriodOf (pitchStep st c.source used), stagedDuty := meterDuty st c.source used }.resume

/-- The work of an update in OFF (R96, R100). -/
def Cue.workOff (entry : Bool) (c : Cue) : Cue :=
  let c := { c.restartCadence with stagedDuty := 0 }
  if entry then c.silence else c

/-- The work of an update in STALE (R97). -/
def Cue.workStale (entry : Bool) (c : Cue) : Cue := if entry then c.restartCadence.resume else c

/-- The work of an update in FOREIGN (R98). -/
def Cue.workForeign (entry : Bool) (c : Cue) : Cue :=
  let c := if entry then { c.restartCadence with stagedHalf := 640 } else c
  { c with stagedDuty := 0 }.resume

/-- The third part of an update: what the new tone state asks (R91). -/
def Cue.work (st : Settings) (next : ToneState) (used : Option Level) (c : Cue) : Cue :=
  let entry := next != c.tone
  let c := { c with tone := next, used := used, updateDue := false }
  match next with
  | .off => c.workOff entry
  | .tone => c.workTone st used
  | .stale => c.workStale entry
  | .foreign => c.workForeign entry

/-- The figures QUERY STATUS shows until the next update (R102; log 13). -/
def State.cueFigures (s : State) : CueShown :=
  { source := s.cue.source, tone := s.cue.tone, cadence := s.cue.cadence, stagedHalf := s.cue.stagedHalf
    modulus := s.settings.modulus, stagedDuty := s.cue.stagedDuty, used := s.cue.used
    reference := if s.cue.source = .relative then s.cueReference else none, age := s.partnerLevelAge }

/-- A cue update on the values standing (R91). -/
def State.updateCue (s : State) : State :=
  let s := { s with cue := s.cue.work s.settings s.cueTone s.cueLevel }
  { s with cue := { s.cue with shown := s.cueFigures } }

/-- A boundary of the STALE cadence (R97). -/
def Cue.staleCadence (c : Cue) : Cue :=
  let c := { c with cadenceDue := false }
  if c.cadence = 0 then c.resume else c.silence

/-- A boundary of the FOREIGN cadence (R98). -/
def Cue.foreignCadence (c : Cue) : Cue :=
  { c with cadenceDue := false, stagedHalf := if c.cadence = 0 then 640 else 136 }

/-- The cadence timer at a sample event (R97, R98). -/
def Cue.tickCadence (c : Cue) : Cue :=
  match c.tone with
  | .stale =>
    if c.cadence + 1 = 250 then { c with cadence := 250, cadenceDue := true }
    else if 500 ≤ c.cadence + 1 then { c with cadence := 0, cadenceDue := true }
    else { c with cadence := c.cadence + 1 }
  | .foreign =>
    if c.cadence + 1 = 125 then { c with cadence := 125, cadenceDue := true }
    else if 250 ≤ c.cadence + 1 then { c with cadence := 0, cadenceDue := true }
    else { c with cadence := c.cadence + 1 }
  | _ => c

/-- The update timer at a sample event (R91). -/
def Cue.tickUpdate (c : Cue) : Cue :=
  if 50 ≤ c.updateTimer + 1 then { c with updateTimer := 0, updateDue := true }
  else { c with updateTimer := c.updateTimer + 1 }

/-- The cue unit at a sample event. -/
def Cue.sample (c : Cue) : Cue := c.tickUpdate.tickCadence

/-- The half-cycle in progress has run its length (R95). -/
def Cue.halfEnds (c : Cue) : Bool := c.generator != .silent && decide (c.liveHalf ≤ c.halfCounter)

/-- The end of a half-cycle (R95, R96). -/
def Cue.toggle (c : Cue) : Cue :=
  match c.generator with
  | .sounding => { c with output := !c.output, liveHalf := c.stagedHalf, halfCounter := 0 }
  | .stopping => { c with output := false, liveHalf := c.stagedHalf, halfCounter := 0, generator := .silent }
  | .silent => c

/-- The tone output pin; while a half-cycle's end is due, the level that end gives it (R95, R96). -/
def Cue.toneOutput (c : Cue) : Bool := if c.halfEnds then c.toggle.output else c.output

/-- The meter period that has begun takes the staged duty (R99). -/
def Cue.startPeriod (c : Cue) : Cue := { c with periodDue := false, liveDuty := c.stagedDuty }

/-- The tick at which the period counter passes M − 1 (R99). -/
def Cue.periodWraps (modulus : Nat) (c : Cue) : Bool := decide (modulus ≤ c.periodCounter + 1)

/-- The counters of the cue unit at a cue-clock tick (R95, R96, R99). -/
def Cue.tick (modulus : Nat) (c : Cue) : Cue :=
  { c with
    halfCounter := if c.generator = .silent then c.halfCounter else c.halfCounter + 1
    periodCounter := if c.periodWraps modulus then 0 else c.periodCounter + 1
    periodDue := c.periodDue || c.periodWraps modulus }

/-- The duty of the meter period in progress; while its start is due, the staged one that the start takes (R99). -/
def Cue.dutyInForce (c : Cue) : Nat := if c.periodDue then c.stagedDuty else c.liveDuty

/-- The meter output pin (R99). -/
def Cue.meterOutput (c : Cue) : Bool := decide (c.periodCounter < c.dutyInForce)

/-- Acceptance of a modulus (R101; log 34). -/
def Cue.newModulus (c : Cue) : Cue :=
  { c with periodCounter := 0, periodDue := false, stagedDuty := 0, liveDuty := 0 }

/-- The cue unit's part of QUERY STATUS (R102). -/
def Cue.reply (c : Cue) : CueReply :=
  { shown := c.shown, pitch := (640 - c.shown.stagedHalf) / 8, generator := c.generator, liveHalf := c.liveHalf
    liveDuty := c.liveDuty }

end Sys2Proof.Machine
end

