-- ==== Sys2Proof/Machine/Route.lean ====
section
/-! DEFINITION. The route channel controller's sending half (chapter 7): building frames, the waiting queue,
contention, transmission and the periodic frames. -/

namespace Sys2Proof.Machine

/-! ### Contention -/

/-- The number of LIVE roster entries (R119). -/
def Route.liveCount (r : Route) : Nat := (r.roster.filter fun e => e.liveness == .live).length

/-- The contention window of a LIVE count (R119). -/
def contentionWindow (live : Nat) : Nat :=
  if live ≤ 3 then 8 else if live ≤ 7 then 16 else if live ≤ 11 then 32 else 64

/-- The window from which the in-flight frame draws (R119). -/
def Route.drawWindow (r : Route) (resend : Bool) : Nat :=
  let cw := contentionWindow r.liveCount
  if resend then min 64 (2 * cw) else cw

/-- The channel has been idle for the guard (R104). -/
def Route.guardPassed (r : Route) : Bool := !r.carrierBusy && decide (20 ≤ r.idle)

/-- The in-flight frame's transmission begins (R105). -/
def Route.startTransmission (r : Route) : Route :=
  { r with
    contention := .sending, transmitEnable := true, sendTime := 0, idle := 0, slot := 0
    wire := match r.inFlight with | none => [] | some q => q.frame.wire
    framer := { state := .hunt, bytes := [], gap := none } }

/-- With a count in hand after the guard: SENDING at 0, BACKOFF otherwise (R120). -/
def Route.backOff (n : Nat) (r : Route) : Route :=
  let r := { r with backoff := some n, slot := 0 }
  if n = 0 then r.startTransmission else { r with contention := .backoff }

/-- DEFER at the idle time of 20 ms: the held count, or a fresh draw (R119, R120). -/
def Route.takeGuard (draws : Nat) (r : Route) : Nat × Route :=
  match r.backoff with
  | some n => (draws, r.backOff n)
  | none =>
    let resend := match r.inFlight with | none => false | some q => q.resend
    (draws + 1, r.backOff (drawBelow draws (r.drawWindow resend)))

/-- A frame enters the slot (the first two rows of R120). -/
def Route.enterSlot (draws : Nat) (q : QFrame) (rest : List QFrame) (r : Route) : Nat × Route :=
  let r := { r with waiting := rest, inFlight := some q, backoff := none }
  if r.guardPassed && !q.resend then (draws, r.startTransmission)
  else
    let r := { r with contention := .defer }
    if r.guardPassed then r.takeGuard draws else (draws, r)

/-- The head of the queue enters an empty slot (R117). -/
def Route.feedSlot (draws : Nat) (r : Route) : Nat × Route :=
  match r.inFlight, r.waiting with
  | none, q :: rest => r.enterSlot draws q rest
  | _, _ => (draws, r)

/-! ### The waiting queue -/

/-- The waiting queue holds at most 6 frames (R117). -/
def waitingLimit : Nat := 6

def QFrame.kind (q : QFrame) : FrameKind := q.frame.body.kind

/-- The frame's class number; 1 is the highest class (R107). -/
def QFrame.classNumber (q : QFrame) : Nat := q.kind.queueClass

/-- A frame's place: behind every frame of the same or a higher class (R117). -/
def insertByClass (q : QFrame) : List QFrame → List QFrame
  | [] => [q]
  | w :: ws => if w.classNumber ≤ q.classNumber then w :: insertByClass q ws else q :: w :: ws

/-- A new STATUS or LEVEL takes the place of a waiting one (R118). -/
def replacesKind (k : FrameKind) : Bool :=
  match k with
  | .status => true
  | .level => true
  | _ => false

/-- A frame joins a full queue: the last waiting frame gives way if its class is lower (R118; log 28). -/
def Route.joinFull (q : QFrame) (r : Route) : Route :=
  let r := { r with counters := { r.counters with dropped := satInc max16 r.counters.dropped } }
  match r.waiting.getLast? with
  | none => r
  | some last =>
    if q.classNumber < last.classNumber then { r with waiting := insertByClass q r.waiting.dropLast } else r

/-- A frame joins the waiting queue (R117, R118). -/
def Route.joinQueue (q : QFrame) (r : Route) : Route :=
  if replacesKind q.kind && r.waiting.any (fun w => w.kind == q.kind) then
    { r with waiting := r.waiting.map fun w => if w.kind = q.kind then q else w }
  else if r.waiting.length < waitingLimit then { r with waiting := insertByClass q r.waiting }
  else r.joinFull q

/-- A frame is queued (R117). -/
def Route.enqueue (draws : Nat) (q : QFrame) (r : Route) : Nat × Route := (r.joinQueue q).feedSlot draws

/-- A waiting PROPOSE is withdrawn (R117, R132). -/
def Route.withdrawPropose (r : Route) : Route :=
  { r with waiting := r.waiting.filter fun w => w.kind != .propose }

/-! ### Transmission and carrier -/

/-- The in-flight frame's length in bytes (R106). -/
def Route.inFlightLength (r : Route) : Nat :=
  match r.inFlight with
  | none => 0
  | some q => q.kind.length

/-- The transmission may complete: less than 1 ms can be left of its n x 25/24 ms (R105; log 5). -/
def Route.transmissionMayEnd (r : Route) : Bool :=
  r.contention == .sending && decide (25 * r.inFlightLength < (r.sendTime + 1) * 24)

/-- The transmission must have completed (R105; log 5). -/
def Route.transmissionOver (r : Route) : Bool :=
  r.contention == .sending && decide (25 * r.inFlightLength ≤ r.sendTime * 24)

/-- The state of the slot after a transmission's completion, the frame counted (R105). -/
def Route.clearSlot (r : Route) : Route :=
  { r with
    transmitEnable := false, wire := [], inFlight := none, contention := .empty, backoff := none
    idle := 0, slot := 0, framer := { state := .hunt, bytes := [], gap := none }
    counters := { r.counters with sent := satInc max16 r.counters.sent } }

/-- A transmission's completion, and the next frame's entry (R105, R117). -/
def Route.finishTransmission (draws : Nat) (r : Route) : Nat × Route := r.clearSlot.feedSlot draws

/-- A deferred frame's guard is complete (R120). -/
def Route.guardDue (r : Route) : Bool := r.contention == .defer && r.guardPassed

/-- A slot of 10 ms idle time has passed in BACKOFF (R120). -/
def Route.slotDue (r : Route) : Bool := r.contention == .backoff && decide (10 ≤ r.slot)

/-- A slot's end (R120). -/
def Route.endSlot (r : Route) : Route := r.backOff (r.backoff.getD 1 - 1)

/-- Carrier-busy goes high; while transmitting only the pin is recorded (R104, R105, R120; log 26). -/
def Route.carrierHigh (r : Route) : Route :=
  if r.contention = .sending then { r with carrierBusy := true }
  else
    { r with
      carrierBusy := true, idle := 0, slot := 0
      contention := if r.contention = .backoff then .defer else r.contention }

/-- Carrier-busy goes low (R104; log 26). -/
def Route.carrierLow (r : Route) : Route :=
  if r.contention = .sending then { r with carrierBusy := false }
  else if r.carrierBusy then { r with carrierBusy := false, idle := 0, slot := 0 }
  else r

/-- One ms of the controller's times (R104, R105, R120; log 5). -/
def Route.tickTimes (r : Route) : Route :=
  if r.contention = .sending then { r with sendTime := r.sendTime + 1 }
  else if r.carrierBusy then r
  else { r with idle := r.idle + 1, slot := if r.contention = .backoff then r.slot + 1 else r.slot }

/-- The transmit line's level at a bit time of the transmission in progress; it rests high between frames (R104). -/
def Route.lineAt (bit : Nat) (r : Route) : Bool := (lineLevels r.wire).getD bit true

/-- The transmit line's level at the latest sample event: 9600 bit/s are 48 bits in 5 ms (R104; log 27). -/
def Route.transmitLine (r : Route) : Bool := r.lineAt (r.sendTime * 48 / 5)

/-! ### The receive framer -/

/-- The framer in HUNT with nothing held (R108). -/
def Framer.hunting : Framer := { state := .hunt, bytes := [], gap := none }

/-- The framer right after a character, with these bytes held: the next one may come within 5 ms (R108). -/
def Framer.holding (state : FramerState) (bytes : List Byte) : Framer :=
  { state := state, bytes := bytes, gap := some longestGap }

/-- A character in HUNT: 0x35 after 0x9E completes the delimiter (R108). -/
def Framer.huntByte (b : Byte) (f : Framer) : Framer :=
  if b = 0x35 ∧ f.bytes = [0x9E] then .holding .header []
  else if b = 0x9E then .holding .hunt [0x9E]
  else .hunting

/-- What the framer stands in with these bytes of a frame held: five of header, the body, two of check (R108). -/
def framerStateOf (bytes : List Byte) : FramerState :=
  if bytes.length < 5 then .header
  else if bytes.length < 5 + (bytes.getD 4 0).toNat then .body
  else .check

/-- A frame's bytes end: the header's last byte is above 24, or the check is whole (R108). -/
def frameEnds (bytes : List Byte) : Bool :=
  decide (5 ≤ bytes.length) &&
    (decide (24 < (bytes.getD 4 0).toNat) || decide (7 + (bytes.getD 4 0).toNat ≤ bytes.length))

/-- The framer takes one character; at the frame's end it hunts again, with the judgement (R108, R109). -/
def Framer.take (b : Byte) (f : Framer) : Framer × Option Judged :=
  match f.state with
  | .hunt => (f.huntByte b, none)
  | _ =>
    let bytes := f.bytes ++ [b]
    if frameEnds bytes then (Framer.hunting, some (judge bytes))
    else (.holding (framerStateOf bytes) bytes, none)

/-- The framer may be cut: a low stop bit cuts it at once, a gap only once the 5 ms may have passed (R108; log 5). -/
def Framer.cutBy (cause : CutCause) (f : Framer) : Bool :=
  match cause with
  | .lowStop => true
  | .gap => f.gap == none || Timer.due f.gap

/-- A gap or a low stop bit ends a frame after its delimiter, and the framer hunts again (R108). One that falls between
the two delimiter bytes makes the framer forget the first: the model's choice (log 41). -/
def Route.gap (r : Route) : Route :=
  { r with
    framer := Framer.hunting
    counters :=
      { r.counters with
        truncated :=
          if r.framer.state = .hunt then r.counters.truncated else satInc max16 r.counters.truncated } }

/-! ### Building and queueing frames -/

def State.liftRoute (f : Nat → Route → Nat × Route) (s : State) : State :=
  { s with draws := (f s.draws s.route).1, route := (f s.draws s.route).2 }

/-- A station's role in a direction: end A transmits in direction 1, end B in direction 2 (section 10.5). -/
def roleIn (e : HopEnd) (d : Direction) : MarginRole :=
  match e, d with
  | .a, .one => .transmitting
  | .a, .two => .judge
  | .b, .one => .judge
  | .b, .two => .transmitting

/-- This station's role in a direction; none before setup. -/
def State.roleOf (s : State) (d : Direction) : MarginRole :=
  match s.station with
  | none => .none
  | some st => roleIn st.hopEnd d

/-- A direction is done at this station: its result is PASS or FAIL (R181). -/
def Margin.doneAt (m : Margin) (d : Direction) : Bool :=
  match m.results.get d with
  | none => false
  | some r => r.outcome != .aborted

/-- The margin progress of a STATUS (R107, R181). -/
def State.marginProgress (s : State) : MarginProgress :=
  let done1 := s.margin.doneAt .one
  let done2 := s.margin.doneAt .two
  match s.margin.current with
  | none => { direction := 0, role := .none, step := 0, doneOne := done1, doneTwo := done2 }
  | some d =>
    let role := s.roleOf d
    { direction := d.code, role := role
      step := if role = .transmitting then s.margin.announced else s.margin.heard
      doneOne := done1, doneTwo := done2 }

/-- The STATUS body gathered from its owners (R107). -/
def State.statusBody (s : State) : StatusBody :=
  { phase := s.hop.phase
    lastStation := match s.hop.lastAccepted with | none => 0 | some p => p.proposer
    lastNumber := match s.hop.lastAccepted with | none => 0 | some p => p.number
    mainConfirmed := s.lobe.confirmed.main, divConfirmed := s.lobe.confirmed.div
    wantsLevel := s.cue.source == .partner, supplyLow := s.supply.low, clash := s.route.clash
    ident := s.ident.state, level := s.level.steeringLevel, soakSeconds := s.soak.elapsed
    progress := s.marginProgress }

/-- The LEVEL body (R107). -/
def State.levelBody (s : State) : LevelBody :=
  { antenna := s.level.steering, level := s.level.steeringLevel, range := s.steeringRange, ident := s.ident.state }

/-- The destination of each kind (the table of R107). -/
def destinationOf (st : Station) (k : FrameKind) : Nat :=
  match k with
  | .status => 0
  | _ => st.partner

/-- The frame the controller builds of a body (R107). -/
def buildFrame (st : Station) (body : FrameBody) : Frame :=
  { header := { source := st.number, dest := destinationOf st body.kind, hop := st.hop, hopEnd := st.hopEnd }
    body := body }

/-- A body is queued; an unconfigured station queues nothing (R117, R123). -/
def State.queueBody (resend : Bool) (body : FrameBody) (s : State) : State :=
  match s.station with
  | none => s
  | some st => s.liftRoute fun draws r => r.enqueue draws { frame := buildFrame st body, resend := resend }

/-- A body is queued that is no resend. -/
def State.send (body : FrameBody) (s : State) : State := s.queueBody false body

/-- The STATUS timer starts with a fresh draw (R121). -/
def State.startStatusTimer (s : State) : State :=
  { s with draws := s.draws + 1, route := { s.route with statusTimer := some (2000 + drawBelow s.draws 500) } }

/-- A STATUS is built and queued, and the STATUS timer started again (R121). -/
def State.sendStatus (s : State) : State :=
  if s.configured then (s.send (.status s.statusBody)).startStatusTimer else s

/-- A LEVEL is built and queued, and the LEVEL timer started for 250 ms (R122). -/
def State.sendLevel (s : State) : State :=
  let s := s.send (.level s.levelBody)
  { s with route := { s.route with levelTimer := some 250 } }

/-- The LEVEL condition (R122). -/
def State.levelCondition (s : State) : Bool :=
  s.configured && s.phaseIn [.beacon, .sweep] &&
    match s.partnerEntry with
    | none => false
    | some e => e.wantsLevel

/-- The LEVEL condition begins, goes on or ends (R122). -/
def State.updateLevelCondition (s : State) : State :=
  if s.levelCondition then
    match s.route.levelTimer with
    | none => s.sendLevel
    | some _ => s
  else { s with route := { s.route with levelTimer := none } }

/-! ### Resets -/

/-- The controller after a restart, before its first STATUS (R125). -/
def Route.restart (r : Route) : Route :=
  { r with
    waiting := [], inFlight := none, contention := .empty, backoff := none, idle := 0, slot := 0, sendTime := 0
    transmitEnable := false, wire := [], framer := { state := .hunt, bytes := [], gap := none }
    statusTimer := none, levelTimer := none }

end Sys2Proof.Machine
end

