-- ==== Sys2Proof/Machine/Source.lean ====
section
/-! DEFINITION. The test source (chapter 9): beacon and keying, attenuation, pattern enable, staging, restore, the
sync input and the pattern generator. -/

namespace Sys2Proof.Machine

/-- A beacon mode is written and, its set being empty, live at once (R150, R151, R154). -/
def Source.writeBeacon (m : BeaconMode) (x : Source) : Source :=
  if x.beacon.live = m then x
  else
    { x with
      beacon := { live := m, staged := m, pending := false }
      keyOut := m == .keyed, keyCount := 0, edgeDue := false }

/-- The beacon keying output pin (R150). A due edge has changed its level at the sample event itself (R151; log 3). -/
def Source.beaconPin (x : Source) : Bool :=
  match x.beacon.live with
  | .off => false
  | .steady => true
  | .keyed => x.keyOut != x.edgeDue

/-- The keying counter at a sample event: it advances, or the edge is due that returns it to 0 (R151; log 3). -/
def Source.tickKeying (hop : Nat) (x : Source) : Source :=
  if x.beacon.live = .keyed then
    if halfPeriod hop ≤ x.keyCount + 1 then { x with edgeDue := true } else { x with keyCount := x.keyCount + 1 }
  else x

/-- The keying edge: the output changes and the counter returns to 0 (R151). -/
def Source.takeEdge (x : Source) : Source := { x with keyOut := !x.keyOut, keyCount := 0, edgeDue := false }

/-- The set names no source. -/
def ApplySet.isEmpty (a : ApplySet) : Bool := !(a.second || a.keyingEdge || a.syncPin)

/-- The attenuation is written; a value above 63 is taken as 63 (R152, R154). -/
def Source.writeAtten (sources : ApplySet) (n : Nat) (x : Source) : Source :=
  let v := min n 63
  if sources.isEmpty then { x with atten := { live := v, staged := v, pending := false } }
  else { x with atten := x.atten.write v }

/-- The attenuator output's six lines: the live attenuation as a binary number, line i weighing 2^i dB (R152). -/
def Source.attenLines (x : Source) : BitVec 6 := BitVec.ofNat 6 x.atten.live

/-- An apply event that the attenuation's set names or not (R154, R155). -/
def Source.applyAtten (named : Bool) (x : Source) : Source := { x with atten := x.atten.applyOn named }

/-- A restore of the attenuation (R157). -/
def Source.restore (x : Source) : Source := { x with atten := x.atten.restore 0 }

/-- The pattern enable is written; its set is always SECOND (R153). -/
def Source.writePattern (on : Bool) (x : Source) : Source := { x with pattern := x.pattern.write on }

/-- The generator's position and output at each change of the pattern enable (R158). -/
def Source.generatorStart (x : Source) : Source := { x with genWord := 0, genBit := 15, genOut := false }

/-- A pending pattern enable changes the live value at the next second event. -/
def Source.patternChanges (x : Source) : Bool := x.pattern.pending && (x.pattern.staged != x.pattern.live)

/-- The pattern enable at a second event (R153, R154, R158). -/
def Source.applyPattern (x : Source) : Source :=
  let changes := x.patternChanges
  let x := { x with pattern := x.pattern.applyOn true }
  if changes then x.generatorStart else x

/-- The generator sends its next bit and advances (R158). -/
def Source.sendBit (words : List (BitVec 16)) (x : Source) : Source :=
  let out := (words.getD x.genWord 0).getLsbD x.genBit
  if x.genBit = 0 then { x with genOut := out, genBit := 15, genWord := (x.genWord + 1) % 8 }
  else { x with genOut := out, genBit := x.genBit - 1 }

/-- The test source after a restart, which keeps the sync filter (R165). -/
def Source.restart (x : Source) : Source := { Source.reset with sync := x.sync }

/-- A restore asked for by another block (R157). -/
def State.restoreAtten (s : State) : State := { s with src := s.src.restore }

/-- The sync input's filter time in cue-clock ticks (R155). -/
def syncTicks : Nat := 8

end Sys2Proof.Machine
end

