-- ==== Sys2Proof/Machine/Checker.lean ====
section
/-! DEFINITION. The pattern checker (chapter 9): bits, lock, word intervals and per-second totals. -/

namespace Sys2Proof.Machine

/-- One received bit joins the window and advances the counts (R159 to R162; log 20). -/
def Checker.takeBit (b : Bool) (c : Checker) : Checker :=
  let c := { c with window := (c.window <<< 1) ||| (BitVec.ofNat 16 b.toNat), intervalBits := c.intervalBits + 1 }
  match c.state with
  | .hunt => { c with sinceHunt := satInc 16 c.sinceHunt }
  | _ => { c with wordBits := c.wordBits + 1 }

/-- The lowest index of a pattern word equal to the window (R160). -/
def wordIndex (words : List (BitVec 16)) (w : BitVec 16) : Option Nat := words.findIdx? fun v => v == w

/-- In HUNT a full window equals a pattern word (R160). -/
def Checker.found (words : List (BitVec 16)) (c : Checker) : Option Nat :=
  if c.state = .hunt ∧ 16 ≤ c.sinceHunt then wordIndex words c.window else none

/-- The window's word is index j: CONFIRMING (R160). -/
def Checker.confirmFrom (j : Nat) (c : Checker) : Checker :=
  { c with state := .confirming, expected := (j + 1) % 8, confirm := 0, wordBits := 0 }

/-- The sync work of a found word, if any (R160). -/
def Checker.takeFound (words : List (BitVec 16)) (c : Checker) : Checker :=
  match c.found words with
  | none => c
  | some j => c.confirmFrom j

/-- A word of 16 bits is complete in CONFIRMING or LOCKED. -/
def Checker.wordDue (c : Checker) : Bool := c.state != .hunt && decide (16 ≤ c.wordBits)

/-- The number of bits in which two words differ (R162). -/
def differingBits (v w : BitVec 16) : Nat := ((List.range 16).filter fun i => (v ^^^ w).getLsbD i).length

/-- The checker enters HUNT (R161, R162); the expected index and the confirm and hit counts keep their last value
(log 20). -/
def Checker.toHunt (c : Checker) : Checker := { c with state := .hunt, sinceHunt := 0, wordBits := 0 }

/-- A completed word in CONFIRMING (R161). -/
def Checker.confirmWord (words : List (BitVec 16)) (c : Checker) : Checker :=
  if c.window = words.getD c.expected 0 then
    let c := { c with confirm := c.confirm + 1, expected := (c.expected + 1) % 8, wordBits := 0 }
    if 8 ≤ c.confirm then { c with state := .locked, hits := 0, lockCount := satInc max16 c.lockCount } else c
  else c.toHunt

/-- The comparison of a completed word in LOCKED (R162). -/
def Checker.compareWord (words : List (BitVec 16)) (c : Checker) : Checker :=
  let errors := differingBits c.window (words.getD c.expected 0)
  { c with
    totals :=
      { c.totals with
        bitsChecked := satAdd max32 c.totals.bitsChecked 16
        bitErrors := satAdd max32 c.totals.bitErrors errors }
    hits := if 4 ≤ errors then c.hits + 1 else 0
    expected := (c.expected + 1) % 8
    wordBits := 0 }

/-- Lock is lost: a slip, then HUNT (R162). -/
def Checker.loseLock (c : Checker) : Checker :=
  { c with
    slipCount := satInc max16 c.slipCount
    totals := { c.totals with slips := satInc max32 c.totals.slips } }.toHunt

/-- A completed word in LOCKED (R162). -/
def Checker.lockedWord (words : List (BitVec 16)) (c : Checker) : Checker :=
  let c := c.compareWord words
  if 4 ≤ c.hits then c.loseLock else c

/-- A completed word (R161, R162). -/
def Checker.takeWord (words : List (BitVec 16)) (c : Checker) : Checker :=
  match c.state with
  | .hunt => c
  | .confirming => c.confirmWord words
  | .locked => c.lockedWord words

/-- LOCKED was entered or lost between two states of the checker (R164). -/
def lockChanged (before after : Checker) : Bool := (before.state == .locked) != (after.state == .locked)

/-- A completed word, with the PATTERN event of a lock or a loss of it (R161, R162, R164). -/
def State.completeWord (s : State) : State :=
  let chk := s.chk.takeWord s.settings.words
  let s' := { s with chk := chk }
  if lockChanged s.chk chk then s'.signal (.pattern chk.state chk.lockCount chk.slipCount) else s'

/-- The word interval is complete. -/
def Checker.intervalDue (c : Checker) : Bool := decide (16 ≤ c.intervalBits)

/-- A word interval ends (R159). -/
def Checker.endInterval (c : Checker) : Checker :=
  { c with
    intervalBits := 0
    totals :=
      { c.totals with
        intervals := satInc max32 c.totals.intervals
        notLocked := if c.state = .locked then c.totals.notLocked else satInc max32 c.totals.notLocked } }

/-- The checker as pattern enable becomes live on or off (R159). -/
def Checker.start (c : Checker) : Checker :=
  { c.toHunt with intervalBits := 0, totals := .zero, lockCount := 0, slipCount := 0 }

/-- The totals are delivered and set to 0 for the new second (R163). -/
def Checker.closeSecond (enabled : Bool) (c : Checker) : Checker :=
  { c with latest := some { totals := c.totals, enabled := enabled }, totals := .zero }

/-- Rows 1 to 3 of the table of R169. -/
def badSecond (t : Totals) : Bool :=
  t.intervals == 0 || decide (t.intervals ≤ t.notLocked * 10) ||
    (decide (0 < t.bitsChecked) && decide (t.bitsChecked ≤ t.bitErrors * 1000))

/-- The provisional class of a second (R169). -/
def provisionalClass (t : Totals) : SecondClass :=
  if badSecond t then .bad
  else if 1 ≤ t.bitErrors ∨ 1 ≤ t.notLocked ∨ 1 ≤ t.slips then .errored
  else .clean

/-- The test source's and the checker's part of QUERY STATUS (R164; log 31). -/
def State.sourceReply (s : State) : SourceReply :=
  let empty : ApplySet := { second := false, keyingEdge := false, syncPin := false }
  { beacon := s.src.beacon, beaconSet := empty
    atten := s.src.atten, attenSet := s.settings.attenSources
    pattern := s.src.pattern, patternSet := { empty with second := true }
    keying :=
      if s.src.beacon.live = .keyed then some { output := s.src.keyOut, count := s.src.keyCount } else none
    syncFiltered := s.src.sync.filtered, genWord := s.src.genWord, genBit := s.src.genBit
    state := s.chk.state, expected := s.chk.expected, confirm := s.chk.confirm, hits := s.chk.hits
    totals := s.chk.totals, latest := s.chk.latest, lockCount := s.chk.lockCount, slipCount := s.chk.slipCount }

end Sys2Proof.Machine
end

