-- ==== Sys2Proof/Machine/Soak.lean ====
section
/-! DEFINITION. The soak recorder (chapter 10): classification, availability, close, digests and fades. -/

namespace Sys2Proof.Machine

/-! ### Classes and availability -/

/-- One second is released under a class (R170). -/
def Soak.release (c : SecondClass) (k : Soak) : Soak :=
  match c with
  | .clean => { k with clean := k.clean + 1 }
  | .errored => { k with errored := k.errored + 1 }
  | .bad => { k with bad := k.bad + 1 }

/-- n seconds are released as OUTAGE (R170, R171). -/
def Soak.releaseOutage (n : Nat) (k : Soak) : Soak := { k with outage := k.outage + n }

/-- Every pending second is released under its provisional class, oldest first (R171). -/
def Soak.releasePending (k : Soak) : Soak :=
  { k.pending.foldl (fun k p => k.release p.provisional) k with pending := [] }

/-- Every pending second is released as BAD (R170, R173). -/
def Soak.pendingAsBad (k : Soak) : Soak := { k with bad := k.bad + k.pending.length, pending := [] }

/-- Every pending second is released as OUTAGE, in the present period (R171, R173). -/
def Soak.pendingAsOutage (k : Soak) : Soak :=
  { k with
    outage := k.outage + k.pending.length, currentOutage := k.currentOutage + k.pending.length, pending := [] }

/-- The number of the oldest pending second. -/
def Soak.oldest (k : Soak) : Nat :=
  match k.pending with
  | [] => k.elapsed
  | p :: _ => p.number

/-- A second joins the pending queue (R170, R171). -/
def Soak.hold (c : SecondClass) (k : Soak) : Soak :=
  { k with pending := k.pending ++ [{ number := k.elapsed, provisional := c }] }

/-- Ten pending BAD seconds become an outage (R170, R172). -/
def Soak.startOutage (k : Soak) : Soak × Option Report :=
  let k' :=
    { k with
      availability := .outage, outage := k.outage + k.pending.length, currentOutage := k.pending.length
      periods := satInc max16 k.periods, pending := [] }
  (k', some (.outage .start k.oldest k'.periods k'.currentOutage))

/-- Ten pending seconds that are not BAD end the outage (R171, R172). -/
def Soak.finishOutage (k : Soak) : Soak × Option Report :=
  let k' := k.releasePending
  ({ k' with availability := .available, longestOutage := max k.longestOutage k.currentOutage, currentOutage := 0 },
    some (.outage .finish k.oldest k.periods k.currentOutage))

/-- A soak second in AVAILABLE (R170). -/
def Soak.placeAvailable (c : SecondClass) (k : Soak) : Soak × Option Report :=
  if c = .bad then
    let k := k.hold c
    if 10 ≤ k.pending.length then k.startOutage else (k, none)
  else (k.pendingAsBad.release c, none)

/-- A soak second in OUTAGE (R171). -/
def Soak.placeOutage (c : SecondClass) (k : Soak) : Soak × Option Report :=
  if c = .bad then ((k.hold c).pendingAsOutage, none)
  else
    let k := k.hold c
    if 10 ≤ k.pending.length then k.finishOutage else (k, none)

/-- A soak second goes to the availability rule (R169 to R171). -/
def Soak.place (c : SecondClass) (k : Soak) : Soak × Option Report :=
  match k.availability with
  | .available => k.placeAvailable c
  | .outage => k.placeOutage c

/-- A second of an OPEN soak: number, class, suspect mark (R169). -/
def Soak.count (c : SecondClass) (k : Soak) : Soak :=
  { k with
    elapsed := k.elapsed + 1, latest := some c
    suspect := if k.lowSeen then satInc max16 k.suspect else k.suspect
    lowSeen := false }

/-- One soak second (R169). -/
def Soak.second (t : Totals) (k : Soak) : Soak × Option Report :=
  (k.count (provisionalClass t)).place (provisionalClass t)

/-- A delivery that opens the soak from WAITING (R168). -/
def Soak.opens (d : Delivery) (k : Soak) : Bool :=
  d.enabled && ((decide (0 < d.totals.intervals) && d.totals.notLocked == 0) || decide (10 ≤ k.settling + 1))

/-- A delivery that leaves the soak WAITING (R168, R169). -/
def Soak.settle (d : Delivery) (k : Soak) : Soak :=
  { k with settling := if d.enabled then k.settling + 1 else k.settling, lowSeen := false }

/-- The tenth enabled delivery brings the settling count to 10; a qualifying one leaves it (R168). -/
def Soak.openUp (d : Delivery) (k : Soak) : Soak :=
  { k with
    state := .opened
    settling := if 0 < d.totals.intervals ∧ d.totals.notLocked = 0 then k.settling else k.settling + 1 }

/-- The soak is running (R167). -/
def Soak.running (k : Soak) : Bool := k.state == .waiting || k.state == .opened

/-- The soak is complete (R167). -/
def Soak.isComplete (k : Soak) : Bool := k.state == .closed

/-! ### Fades -/

/-- The fitted roles (R177). -/
def fitted (st : Settings) : Role → Bool
  | .coMain => true
  | .xMain => st.dualPol
  | .coDiv => st.diversity
  | .xDiv => st.diversity && st.dualPol

/-- The lower of a level and a record's deepest level (R177). -/
def FadeRecord.deepen (level : Level) (f : FadeRecord) : FadeRecord :=
  { f with deepest := some (lowerTo level f.deepest) }

/-- A fade starts (R177). -/
def FadeRecord.start (t : SampleTime) (level : Level) (f : FadeRecord) : FadeRecord :=
  { f with openFade := some { start := t, deepest := level }, count := satInc max16 f.count }.deepen level

/-- A fade ends, or is cut (R177, R180). -/
def FadeRecord.finish (duration : Nat) (level : Level) (f : FadeRecord) : FadeRecord :=
  { f with
    openFade := none, total := satAdd max32 f.total duration, longest := max f.longest duration }.deepen level

def roleOrder : Role → Nat
  | .coMain => 0
  | .xMain => 1
  | .coDiv => 2
  | .xDiv => 3

/-- One sample time comes before another. -/
def SampleTime.before (t u : SampleTime) : Bool :=
  decide (t.second < u.second) || (t.second == u.second && decide (t.index < u.index))

/-- The order of the fade list (R179). -/
def FadeEntry.before (x y : FadeEntry) : Bool :=
  if x.deepest ≠ y.deepest then decide (x.deepest < y.deepest)
  else if x.start ≠ y.start then x.start.before y.start
  else decide (roleOrder x.role < roleOrder y.role)

def insertFade (x : FadeEntry) : List FadeEntry → List FadeEntry
  | [] => [x]
  | y :: ys => if x.before y then x :: y :: ys else y :: insertFade x ys

/-- A fade is entered in the list, or discarded (R179). -/
def Soak.enterFade (x : FadeEntry) (k : Soak) : Soak :=
  if k.list.length < 16 then { k with list := insertFade x k.list }
  else
    let k := { k with discards := satInc max16 k.discards }
    match k.list.getLast? with
    | none => k
    | some y => if x.deepest < y.deepest then { k with list := insertFade x k.list.dropLast } else k

/-- A fade-start of a fitted role (R177). -/
def Soak.fadeStart (r : Role) (t : SampleTime) (level : Level) (k : Soak) : Soak :=
  { k with fades := k.fades.set r ((k.fades.get r).start t level) }

/-- A fade that has ended, or is cut (R177, R179, R180). -/
def Soak.fadeFinish (x : FadeEntry) (k : Soak) : Soak :=
  { k with fades := k.fades.set x.role ((k.fades.get x.role).finish x.duration x.deepest) }.enterFade x

/-- A comparator's event reaches the recorder (R177). -/
def Soak.takeFade (st : Settings) (r : Role) (e : FadeEvent) (k : Soak) : Soak :=
  if k.running && fitted st r then
    if e.ended then
      k.fadeFinish { role := r, start := e.start, duration := e.duration, deepest := e.deepest, cut := false }
    else k.fadeStart r e.start e.deepest
  else k

/-- One role's open fade is cut at a close (R180). -/
def Soak.cutRole (st : Settings) (now : SampleTime) (cmp : Comparator) (r : Role) (k : Soak) : Soak :=
  match (k.fades.get r).openFade with
  | none => k
  | some f =>
    if fitted st r then
      k.fadeFinish
        { role := r, start := f.start, duration := min max32 (now.since f.start)
          deepest := min f.deepest cmp.deepest, cut := true }
    else k

/-- Every open fade is cut (R180), in role order: the model's choice (log 38). -/
def Soak.cutFades (st : Settings) (now : SampleTime) (u : LevelUnit) (k : Soak) : Soak :=
  let cut (r : Role) (k : Soak) := k.cutRole st now (u.channels.get r).cmp r
  cut .xDiv (cut .coDiv (cut .xMain (cut .coMain k)))

/-- One role's fade in progress is taken over at soak start (R177). -/
def Soak.takeOver (st : Settings) (cmp : Comparator) (r : Role) (k : Soak) : Soak :=
  if fitted st r && cmp.state == .faded then k.fadeStart r cmp.fadeStart cmp.deepest else k

/-- Soak start (R167). -/
def Soak.begin (st : Settings) (u : LevelUnit) : Soak :=
  let take (r : Role) (k : Soak) := k.takeOver st (u.channels.get r).cmp r
  take .xDiv (take .coDiv (take .xMain (take .coMain { Soak.reset with state := .waiting })))

/-- A channel's comparator is FADED. -/
def Channel.faded (c : Channel) : Bool := c.cmp.state == .faded

/-- The recorder at a sample event: LOW seen and joint fades (R169, R178). -/
def Soak.sample (st : Settings) (low : Bool) (u : LevelUnit) (k : Soak) : Soak :=
  if k.running then
    { k with
      lowSeen := k.lowSeen || low
      joint :=
        if st.diversity && u.channels.coMain.faded && u.channels.coDiv.faded then satInc max32 k.joint
        else k.joint }
  else k

/-! ### Close and digests -/

/-- The pending seconds at a close (R173). -/
def Soak.closePending (k : Soak) : Soak :=
  match k.availability with
  | .available => k.pendingAsBad
  | .outage =>
    let k := k.pendingAsOutage
    { k with longestOutage := max k.longestOutage k.currentOutage }

/-- The soak verdict (R174). -/
def Soak.judge (st : Settings) (k : Soak) : SoakVerdict :=
  if k.errored ≤ st.maxErrored ∧ k.bad ≤ st.maxBad ∧ k.outage ≤ st.maxOutage then .pass else .fail

/-- A close at completion or MARGIN entry, or at HALTED entry (R173, R174). -/
def Soak.close (st : Settings) (now : SampleTime) (u : LevelUnit) (halted : Bool) (k : Soak) : Soak :=
  let k := k.closePending.cutFades st now u
  if halted then { k with state := .incomplete, verdict := none }
  else { k with state := .closed, verdict := some (k.judge st) }

/-- The DIGEST fields (R175). -/
def Soak.digest (final : Bool) (k : Soak) : DigestBody :=
  { final := final, verdict := k.verdict, incomplete := k.state == .incomplete, seconds := k.elapsed
    clean := k.clean, errored := k.errored, bad := k.bad, outage := k.outage, periods := k.periods
    fades := k.fades.coMain.count, deepest := k.fades.coMain.deepest }

/-- A DIGEST is queued (R175). -/
def State.sendDigest (final : Bool) (s : State) : State := s.send (.digest (s.soak.digest final))

/-- The SOAK report's content (R174). -/
def Soak.report (k : Soak) : Report := .soak k.state k.verdict k.elapsed k.clean k.errored k.bad k.outage

/-- The soak closes, with its final DIGEST and its event (R173 to R175). -/
def State.closeSoak (halted : Bool) (s : State) : State :=
  let s := { s with soak := s.soak.close s.settings s.time.now s.level halted }
  (s.sendDigest true).signal s.soak.report

/-- A running soak closes at MARGIN or HALTED entry (R173). -/
def State.closeRunningSoak (halted : Bool) (s : State) : State := if s.soak.running then s.closeSoak halted else s

/-- The soak duration in seconds (R166). -/
def Settings.soakSeconds (st : Settings) : Nat := st.soakMinutes * 60

/-- After a soak second: completion, or the interim DIGEST of every 60th (R173, R175). -/
def State.afterSoakSecond (s : State) : State :=
  if s.settings.soakSeconds ≤ s.soak.elapsed then s.closeSoak false
  else if s.soak.elapsed % 60 = 0 then s.sendDigest false
  else s

/-- One delivery while OPEN (R169 to R173). -/
def State.soakSecond (t : Totals) (s : State) : State :=
  let placed := s.soak.second t
  let s := { s with soak := placed.1 }
  match placed.2 with
  | none => s.afterSoakSecond
  | some r => (s.signal r).afterSoakSecond

/-- A per-second delivery reaches the recorder (R168, R169). -/
def State.deliverToSoak (d : Delivery) (s : State) : State :=
  match s.soak.state with
  | .waiting =>
    if s.soak.opens d then { s with soak := s.soak.openUp d }.soakSecond d.totals
    else { s with soak := s.soak.settle d }
  | .opened => s.soakSecond d.totals
  | _ => s

/-- A comparator's fade event: flag, report and delivery to the recorder (R18, R19, R21). -/
def State.deliverFade (r : Role) (e : FadeEvent) (s : State) : State :=
  { s with soak := s.soak.takeFade s.settings r e }.signal (.fade r e.ended e.start e.duration e.deepest)

/-- A fade event, if the sample brought one. -/
def State.deliverFades (r : Role) (e : Option FadeEvent) (s : State) : State :=
  match e with
  | none => s
  | some e => s.deliverFade r e

/-- The QUERY SOAK reply (R189). -/
def State.soakReply (s : State) : SoakReply :=
  { state := s.soak.state, settling := s.soak.settling, elapsed := s.soak.elapsed
    duration := s.settings.soakSeconds, availability := s.soak.availability, pending := s.soak.pending
    clean := s.soak.clean, errored := s.soak.errored, bad := s.soak.bad, outage := s.soak.outage
    suspect := s.soak.suspect, periods := s.soak.periods, currentOutage := s.soak.currentOutage
    longestOutage := s.soak.longestOutage, verdict := s.soak.verdict, latest := s.soak.latest
    partnerDigest := s.soak.partnerDigest, maxErrored := s.settings.maxErrored, maxBad := s.settings.maxBad
    maxOutage := s.settings.maxOutage }

/-- The fade records of the fitted roles (R177, R189). -/
def fittedRecords (st : Settings) (f : ByRole FadeRecord) : ByRole (Option FadeRecord) :=
  let pick (r : Role) := if fitted st r then some (f.get r) else none
  { coMain := pick .coMain, xMain := pick .xMain, coDiv := pick .coDiv, xDiv := pick .xDiv }

/-- The QUERY FADES reply (R189). -/
def State.fadesReply (s : State) : FadesReply :=
  { fades := fittedRecords s.settings s.soak.fades, joint := s.soak.joint, list := s.soak.list
    discards := s.soak.discards }

end Sys2Proof.Machine
end

