-- ==== Sys2Proof/Machine/Margin.lean ====
section
/-! DEFINITION. The margin procedure (section 10.5): the directions, the transmitting end, the judge, silence and
aborts. -/

namespace Sys2Proof.Machine

/-- The attenuation of a step (R182). -/
def stepAtten (st : Settings) (step : Nat) : Nat := min (step * st.marginStep) 63

/-- The current direction is this one, ACTIVE, with this station in this role. -/
def State.activeAs (s : State) (d : Direction) (role : MarginRole) : Bool :=
  s.margin.current == some d && s.margin.states.get d == .active && s.roleOf d == role

/-- This station is the transmitting end of the current direction, and it is ACTIVE (R182). -/
def State.transmitting (s : State) : Bool :=
  match s.margin.current with
  | none => false
  | some d => s.activeAs d .transmitting

/-- This station is the judge of the current direction, and it is ACTIVE (R186). -/
def State.judging (s : State) : Bool :=
  match s.margin.current with
  | none => false
  | some d => s.activeAs d .judge

/-- The body of an MTEST STEP (R182; log 30). -/
def stepBody (st : Settings) (d : Direction) (step : Nat) : MtestBody :=
  { direction := d, step := step, atten := stepAtten st step, margin := 0, capped := false, atZero := false }

/-- The body of an MTEST LIMIT (R186; log 30). -/
def limitBody (d : Direction) (step : Nat) : MtestBody :=
  { direction := d, step := step, atten := 0, margin := 0, capped := false, atZero := false }

/-! ### Beginning a direction -/

/-- What both roles do as a direction begins (R181, R187). -/
def Margin.beginDirection (d : Direction) (m : Margin) : Margin :=
  { m with
    states := m.states.set d .active, current := some d, results := m.results.set d none, silence := 0 }

/-- The transmitting end's own figures as a direction begins (R181). -/
def Margin.beginTransmit (d : Direction) (m : Margin) : Margin :=
  { m.beginDirection d with stepIndex := 0, announced := 0, dwell := 0, stepDue := false, announceDue := false }

/-- The judge's own figures as a direction begins (R181). -/
def Margin.beginJudge (d : Direction) (m : Margin) : Margin :=
  { m.beginDirection d with heard := 0, latched := none }

/-- A direction begins at this station in its role (R181). -/
def State.beginDirection (d : Direction) (s : State) : State :=
  if s.roleOf d = .transmitting then
    { s.restoreAtten with margin := s.margin.beginTransmit d }.send (.mtest .step (stepBody s.settings d 0))
  else { s with margin := s.margin.beginJudge d }

/-! ### Results -/

/-- The outcome of a margin against the required one (R184, R186). -/
def outcomeOf (st : Settings) (margin : Nat) : MarginOutcome := if st.requiredMargin ≤ margin then .pass else .fail

/-- A direction's result from a margin and its flags (R184, R186). -/
def resultOf (st : Settings) (b : MtestBody) : MarginResult :=
  { margin := some b.margin, capped := b.capped, atZero := b.atZero, outcome := outcomeOf st b.margin }

/-- The result of an aborted direction; its CAPPED and AT_ZERO flags are clear, the model's choice (R187; log 46). -/
def abortedResult : MarginResult := { margin := none, capped := false, atZero := false, outcome := .aborted }

/-- The MARGIN event of a result (R188). -/
def State.signalMargin (d : Direction) (r : MarginResult) (s : State) : State :=
  s.signal (.margin d (s.roleOf d) r.margin r.capped r.atZero r.outcome)

/-- A direction's result at the transmitting end, and its DONE repeated every 5 s (R184, R185). -/
def Margin.recordDone (d : Direction) (r : MarginResult) (body : MtestBody) (m : Margin) : Margin :=
  { m with
    results := m.results.set d (some r), states := m.states.set d .done, stepDue := false, announceDue := false
    acknowledged := m.acknowledged.set d false, doneTimer := some 5000, doneBody := some body }

/-- The transmitting end records a direction's result, by a LIMIT or by the cap (R183, R184). -/
def State.transmitDone (body : MtestBody) (s : State) : State :=
  let d := body.direction
  let r := resultOf s.settings body
  let s := { s.restoreAtten with margin := s.margin.recordDone d r body }
  let s := (s.send (.mtest .done body)).signalMargin d r
  if d = Direction.one ∧ s.roleOf .one = MarginRole.transmitting then s.beginDirection .two else s

/-- The DONE body of a LIMIT carrying step i (R184). -/
def doneOfLimit (st : Settings) (d : Direction) (i : Nat) : MtestBody :=
  { direction := d, step := i, atten := 0, margin := stepAtten st i - st.marginStep, capped := false
    atZero := i == 0 }

/-- The DONE body of the cap step (R183). -/
def doneOfCap (d : Direction) (step : Nat) : MtestBody :=
  { direction := d, step := step, atten := 0, margin := 63, capped := true, atZero := false }

/-- An MTEST LIMIT delivered from the partner (R184). -/
def State.takeLimit (b : MtestBody) (s : State) : State :=
  if s.activeAs b.direction .transmitting && decide (b.step ≤ s.margin.stepIndex) then
    s.transmitDone (doneOfLimit s.settings b.direction b.step)
  else s

/-! ### The transmitting end's steps -/

/-- The dwell count at a second event (R182). -/
def Margin.tickDwell (m : Margin) : Margin := { m with dwell := min 60 (m.dwell + 1) }

/-- The dwell and the announcement at a second event (R182; log 3). -/
def State.secondMargin (s : State) : State :=
  if s.transmitting then
    { s with
      margin := { s.margin.tickDwell with announceDue := s.margin.announced != s.margin.stepIndex } }
  else s

/-- The dwell count has reached D (R182). -/
def State.dwellDue (s : State) : Bool :=
  s.transmitting && s.margin.dwell == s.settings.marginDwell && !s.margin.stepDue

/-- The next step is written, or the cap ends the direction (R182, R183). -/
def State.writeStep (s : State) : State :=
  match s.margin.current with
  | none => s
  | some d =>
    if stepAtten s.settings s.margin.stepIndex = 63 then s.transmitDone (doneOfCap d s.margin.stepIndex)
    else
      { s with
        margin := { s.margin with stepDue := false, dwell := 0, stepIndex := s.margin.stepIndex + 1 }
        src := s.src.writeAtten s.settings.attenSources ((s.margin.stepIndex + 1) * s.settings.marginStep) }

/-- A step is to be written at this sample event of index 500 (R182). -/
def State.stepWriteDue (s : State) : Bool := s.transmitting && s.margin.stepDue && s.time.now.index == 500

/-- The step is announced (R182). -/
def State.announceStep (s : State) : State :=
  match s.margin.current with
  | none => s
  | some d =>
    { s with margin := { s.margin with announced := s.margin.stepIndex, announceDue := false } }.send
      (.mtest .step (stepBody s.settings d s.margin.stepIndex))

/-- The announcement of a written step is due (R182). -/
def State.announceIsDue (s : State) : Bool := s.transmitting && s.margin.announceDue

/-- The DONE repeat timer has run out (R185). -/
def State.repeatDone (s : State) : State :=
  match s.margin.doneBody with
  | none => { s with margin := { s.margin with doneTimer := none } }
  | some body => { s with margin := { s.margin with doneTimer := some 5000 } }.send (.mtest .done body)

/-! ### The judge -/

/-- An MTEST STEP at the judge: a lower index is a new run (R186). -/
def Margin.hearStep (step : Nat) (m : Margin) : Margin :=
  { m with heard := step, latched := if step < m.heard then none else m.latched }

/-- An MTEST STEP delivered from the partner (R186). -/
def State.takeStep (b : MtestBody) (s : State) : State :=
  if s.activeAs b.direction .judge then { s with margin := s.margin.hearStep b.step } else s

/-- The judge's result, recorded from a DONE (R186). -/
def State.judgeResult (b : MtestBody) (s : State) : State :=
  let r := resultOf s.settings b
  { s with
    margin :=
      { s.margin with
        results := s.margin.results.set b.direction (some r)
        states := s.margin.states.set b.direction .done } }.signalMargin b.direction r

/-- End B begins direction 2 once direction 1 has ended at it as the judge (R186). -/
def State.afterJudge (d : Direction) (s : State) : State :=
  if d = .one ∧ s.roleOf .one = .judge then s.beginDirection .two else s

/-- An MTEST DONE delivered from the partner (R186). -/
def State.takeDone (b : MtestBody) (s : State) : State :=
  if s.activeAs b.direction .judge then (s.judgeResult b).afterJudge b.direction
  else if s.roleOf b.direction = .judge ∧ s.margin.states.get b.direction = .done ∧
      s.margin.results.get b.direction = none then s.judgeResult b
  else s

/-- A BAD second at the judge: latch and LIMIT (R186). -/
def State.judgeBad (d : Direction) (s : State) : State :=
  let step := s.margin.latched.getD s.margin.heard
  { s with margin := { s.margin with latched := some step } }.send (.mtest .limit (limitBody d step))

/-- A per-second delivery reaches the judge (R186). -/
def State.deliverToJudge (dl : Delivery) (s : State) : State :=
  match s.margin.current with
  | none => s
  | some d => if s.activeAs d .judge && dl.enabled && badSecond dl.totals then s.judgeBad d else s

/-- The done flag a STATUS shows for a direction (R181). -/
def marginDoneFlag (p : MarginProgress) : Direction → Bool
  | .one => p.doneOne
  | .two => p.doneTwo

/-- The judge raises the step heard from a STATUS of the transmitting partner (R186). -/
def Margin.raiseHeard (step : Nat) (m : Margin) : Margin := { m with heard := max m.heard step }

/-- A STATUS's part for the judge of an ACTIVE direction (R186). -/
def State.statusToJudge (d : Direction) (p : MarginProgress) (s : State) : State :=
  if s.activeAs d .judge then
    let s :=
      if p.direction = d.code ∧ p.role = .transmitting then { s with margin := s.margin.raiseHeard p.step } else s
    if marginDoneFlag p d then
      { s with margin := { s.margin with states := s.margin.states.set d .done } }.afterJudge d
    else s
  else s

/-- A STATUS's part for the transmitting end of a DONE direction (R185; log 29). -/
def State.statusToTransmitter (d : Direction) (p : MarginProgress) (s : State) : State :=
  if s.roleOf d = .transmitting ∧ s.margin.states.get d = .done ∧ marginDoneFlag p d then
    { s with margin := { s.margin with acknowledged := s.margin.acknowledged.set d true, doneTimer := none } }
  else s

/-- A STATUS delivered from the partner (R185, R186). -/
def State.marginStatus (p : MarginProgress) (s : State) : State :=
  let s := (s.statusToTransmitter .one p).statusToTransmitter .two p
  match s.margin.current with
  | none => s
  | some d => s.statusToJudge d p

/-! ### Silence, aborts and exits -/

/-- The direction becomes ABORTED; the transmitting end records the outcome (R187, R188). -/
def Margin.abort (d : Direction) (transmit : Bool) (m : Margin) : Margin :=
  { m with
    states := m.states.set d .aborted
    results := if transmit then m.results.set d (some abortedResult) else m.results }

/-- The abort of an ACTIVE direction by silence (R187). -/
def State.silenceAbort (d : Direction) (s : State) : State :=
  if s.roleOf d = .transmitting then
    { s.restoreAtten with
      margin := { s.margin.abort d true with stepDue := false, announceDue := false } }.signalMargin d abortedResult
  else { s with margin := { s.margin.abort d false with latched := none } }.signalMargin d abortedResult

/-- Silence has lasted 10000 ms while the current direction is ACTIVE, in MARGIN (R187). -/
def State.silenceDue (s : State) : Bool :=
  s.hop.phase == .margin && decide (10000 ≤ s.margin.silence) &&
    match s.margin.current with
    | none => false
    | some d => s.margin.states.get d == .active

/-- The abort of the current direction, if one is ACTIVE (R187). -/
def State.abortCurrent (s : State) : State :=
  match s.margin.current with
  | none => s
  | some d => if s.margin.states.get d = .active then s.silenceAbort d else s

/-- HANDOVER and HALTED entry: the restore, the timer, and an ACTIVE direction ABORTED (R188). Step due and the latched
step stay as they stand: the model's choice (log 39). -/
def State.exitMargin (s : State) : State :=
  let s := { s.restoreAtten with margin := { s.margin with doneTimer := none } }
  match s.margin.current with
  | none => s
  | some d =>
    if s.margin.states.get d = .active then
      { s with margin := s.margin.abort d (s.roleOf d == MarginRole.transmitting) }.signalMargin d abortedResult
    else s

/-- The current direction is ABORTED, in MARGIN (R187). -/
def State.rerunWaits (s : State) : Bool :=
  s.hop.phase == .margin &&
    match s.margin.current with
    | none => false
    | some d => s.margin.states.get d == .aborted

/-- After a frame from the partner an ABORTED direction begins again (R187). -/
def State.rerun (s : State) : State :=
  match s.margin.current with
  | none => s
  | some d => if s.rerunWaits then s.beginDirection d else s

/-- Both margin directions are done (R135, R140). -/
def Margin.bothDone (m : Margin) : Bool := m.doneAt .one && m.doneAt .two

/-- The QUERY MARGIN reply (R189). -/
def State.marginReply (s : State) : MarginReply :=
  let figures (d : Direction) : DirectionFigures :=
    { state := s.margin.states.get d, role := s.roleOf d, result := s.margin.results.get d }
  { enabled := s.settings.marginEnabled, step := s.settings.marginStep, dwellSetting := s.settings.marginDwell
    required := s.settings.requiredMargin, current := s.margin.current
    directions := { one := figures .one, two := figures .two }
    stepIndex := s.margin.stepIndex, announced := s.margin.announced, dwell := s.margin.dwell
    stepDue := s.margin.stepDue, heard := s.margin.heard, latched := s.margin.latched
    acknowledged := s.margin.acknowledged, doneTimer := s.margin.doneTimer.isSome, silence := s.margin.silence
    attenLive := s.src.atten.live, attenStaged := s.src.atten.staged }

end Sys2Proof.Machine
end

