-- ==== Sys2Proof/Machine/Handover.lean ====
section
/-! DEFINITION. The handover record (section 11.7) and the partner digest that it follows (R176, R199, R200). -/

namespace Sys2Proof.Machine

/-- A held digest has its final flag set (R200). -/
def finalDigest : Option HeldDigest → Bool
  | none => false
  | some d => d.body.final

/-- One direction's result is present with outcome PASS (R200). -/
def passed : Option MarginResult → Bool
  | none => false
  | some r => r.outcome == .pass

/-- Both results PASS, when the margin test is enabled (R200). -/
def resultsPass : Option (ByDirection (Option MarginResult)) → Bool
  | none => true
  | some r => passed r.one && passed r.two

/-- The verdict of a held digest; one marked INCOMPLETE counts as carrying none, whatever its verdict code: the
model's choice where the two disagree (R200; log 43). -/
def digestVerdict : Option HeldDigest → Option SoakVerdict
  | none => none
  | some d => if d.body.incomplete then none else d.body.verdict

/-- PASS or FAIL of a record that holds a final partner digest (R200). -/
def HandoverRecord.judge (diversity : Bool) (h : HandoverRecord) : Overall :=
  if h.verdict = some .pass ∧ digestVerdict h.partnerDigest = some .pass ∧ resultsPass h.results = true ∧
      confirmedEnough diversity h.confirmed = true then .pass
  else .fail

/-- The record opened from the state standing (R199). -/
def State.handoverRecord (st : Station) (s : State) : HandoverRecord :=
  { station := st, predicted := s.settings.predicted, confirmed := s.lobe.confirmed, kept := s.lobe.kept
    soakState := s.soak.state, seconds := s.soak.elapsed, clean := s.soak.clean, errored := s.soak.errored
    bad := s.soak.bad, outage := s.soak.outage, periods := s.soak.periods
    longestOutage := s.soak.longestOutage, verdict := s.soak.verdict, partnerDigest := s.soak.partnerDigest
    fades := fittedRecords s.settings s.soak.fades, joint := s.soak.joint, list := s.soak.list
    discards := s.soak.discards
    results := if s.settings.marginEnabled then some s.margin.results else none
    suspect := s.soak.suspect, clashes := s.route.counters.clashes, overall := .pending }

/-- The overall verdict of the record is set, with the HANDOVER event (R200). -/
def State.setOverall (h : HandoverRecord) (v : Overall) (s : State) : State :=
  { s with handover := some { h with overall := v } }.signal (.handover v)

/-- The record is kept, and its verdict decided when it holds a final digest (R200). -/
def State.decideHandover (h : HandoverRecord) (s : State) : State :=
  if finalDigest h.partnerDigest then s.setOverall h (h.judge s.settings.diversity)
  else { s with handover := some h }

/-- HANDOVER entry opens a new record (R199, R200). -/
def State.openHandover (s : State) : State :=
  match s.station with
  | none => s
  | some st => s.decideHandover (s.handoverRecord st)

/-- A record whose verdict is PENDING becomes INCOMPLETE: the partner is LOST, or the station leaves HANDOVER
(R200). -/
def State.handoverIncomplete (s : State) : State :=
  match s.handover with
  | none => s
  | some h => if h.overall = .pending then s.setOverall h .incomplete else s

/-- A verdict still open to a final digest while the station stays in HANDOVER (R200). -/
def undecided (v : Overall) : Bool := v == .pending || v == .incomplete

/-- A partner digest enters the record in HANDOVER (R199, R200). -/
def State.digestToRecord (d : HeldDigest) (s : State) : State :=
  match s.handover with
  | none => s
  | some h =>
    let h := { h with partnerDigest := some d }
    if undecided h.overall then s.decideHandover h else { s with handover := some h }

/-- A DIGEST delivered from the partner (R176, R199). -/
def State.takeDigest (b : DigestBody) (s : State) : State :=
  if s.phaseIn [.soak, .margin, .handover, .halted] then
    let d : HeldDigest := { body := b, arrival := s.time.now }
    let s := { s with soak := { s.soak with partnerDigest := some d } }
    if s.hop.phase = .handover then s.digestToRecord d else s
  else s

end Sys2Proof.Machine
end

