-- ==== Sys2Proof/Machine/Roster.lean ====
section
/-! DEFINITION. The roster (section 7.4), partner liveness, ends conflict and clashes. -/

namespace Sys2Proof.Machine

/-- A new entry, before the frame that creates it is taken (R113). -/
def RosterEntry.fresh (h : Header) : RosterEntry :=
  { station := h.source, hop := h.hop, hopEnd := h.hopEnd, phase := none, lastAccepted := none, confirmed := none
    ident := none, wantsLevel := false, supplyLow := false, clash := false, soakSeconds := none, progress := none
    level := none, age := 0, liveness := .live }

/-- What every good frame sets (R110). -/
def RosterEntry.hear (h : Header) (e : RosterEntry) : RosterEntry :=
  { e with hop := h.hop, hopEnd := h.hopEnd, age := 0, liveness := .live }

/-- A level as a frame shows it, with the level time (R110). -/
def timedLevel (now : SampleTime) (l : Option Level) : Option TimedLevel :=
  l.map fun v => { level := v, time := now }

/-- What a STATUS sets (R110). -/
def RosterEntry.takeStatus (now : SampleTime) (b : StatusBody) (e : RosterEntry) : RosterEntry :=
  { e with
    phase := some b.phase
    lastAccepted :=
      if b.lastStation = 0 ∨ b.lastNumber = 0 then none
      else some { proposer := b.lastStation, number := b.lastNumber }
    confirmed := some { main := b.mainConfirmed, div := b.divConfirmed }
    ident := some b.ident, wantsLevel := b.wantsLevel, supplyLow := b.supplyLow, clash := b.clash
    soakSeconds := some b.soakSeconds, progress := some b.progress, level := timedLevel now b.level }

/-- What a LEVEL sets (R110). -/
def RosterEntry.takeLevel (now : SampleTime) (b : LevelBody) (e : RosterEntry) : RosterEntry :=
  { e with level := timedLevel now b.level, ident := some b.ident }

/-- The fields a frame sets by its kind (the table of R110). -/
def RosterEntry.takeBody (now : SampleTime) (b : FrameBody) (e : RosterEntry) : RosterEntry :=
  match b with
  | .status b => e.takeStatus now b
  | .level b => e.takeLevel now b
  | _ => e

/-- The entry after a good frame (R110). -/
def RosterEntry.take (now : SampleTime) (f : Frame) (e : RosterEntry) : RosterEntry :=
  (e.hear f.header).takeBody now f.body

/-- An entry's place in ascending order of station number (R113). -/
def insertEntry (e : RosterEntry) : List RosterEntry → List RosterEntry
  | [] => [e]
  | x :: xs => if e.station < x.station then e :: x :: xs else x :: insertEntry e xs

/-- The entry that gives way: the greatest age, then the highest station number (R113). -/
def oldestEntry : List RosterEntry → Option RosterEntry
  | [] => none
  | x :: xs =>
    match oldestEntry xs with
    | none => some x
    | some y => if y.age < x.age then some x else some y

/-- The roster holds at most 14 entries (R113). -/
def rosterLimit : Nat := 14

/-- Room for a new entry (R113). -/
def Route.makeRoom (r : Route) : Route :=
  if r.roster.length < rosterLimit then r
  else
    match oldestEntry r.roster with
    | none => r
    | some x =>
      { r with
        roster := r.roster.filter fun e => e.station != x.station
        counters := { r.counters with replacements := satInc max16 r.counters.replacements } }

/-- A good frame updates its source's entry, or creates it (R110, R113). -/
def Route.updateRoster (now : SampleTime) (f : Frame) (r : Route) : Route :=
  if (r.entryOf f.header.source).isSome then
    { r with roster := r.roster.map fun e => if e.station = f.header.source then e.take now f else e }
  else
    let r := r.makeRoom
    { r with roster := insertEntry ((RosterEntry.fresh f.header).take now f) r.roster }

/-- A liveness from an age in seconds (R114). -/
def livenessOf (age : Nat) : Liveness := if age < 6 then .live else if age < 30 then .quiet else .lost

/-- An entry one second older (R114). -/
def RosterEntry.grow (e : RosterEntry) : RosterEntry :=
  let age := satInc 255 e.age
  { e with age := age, liveness := livenessOf age }

/-- The roster at a second event (R114). -/
def Route.ageRoster (r : Route) : Route :=
  { r with roster := (r.roster.map RosterEntry.grow).filter fun e => decide (e.age < 120) }

/-- The partner liveness the roster shows (R114). -/
def State.partnerShows (s : State) : Liveness :=
  match s.partnerEntry with
  | none => .lost
  | some e => e.liveness

/-- The age a PARTNER report carries: each change of the partner liveness is that of an entry held (R114). -/
def State.partnerAge (s : State) : Nat :=
  match s.partnerEntry with
  | none => 0
  | some e => e.age

/-- The partner liveness follows the roster; a change is an event, and LOST ends a PENDING verdict, its HANDOVER event
after the PARTNER event: the model's choice (R114, R200; log 45). -/
def State.refreshPartner (s : State) : State :=
  let l := s.partnerShows
  if l = s.route.partner then s
  else
    let s := { s with route := { s.route with partner := l } }.signal (.partner l s.partnerAge)
    if l = .lost then s.handoverIncomplete else s

/-- The partner's entry conflicts with this station's end and hop (R112). -/
def conflicts (st : Station) (e : RosterEntry) : Bool := e.hopEnd == st.hopEnd || e.hop != st.hop

/-- The ends conflict is decided afresh (R112). -/
def State.decideConflict (s : State) : State :=
  match s.station, s.partnerEntry with
  | some st, some e =>
    let now := conflicts st e
    let s' := { s with route := { s.route with conflict := now } }
    if now && !s.route.conflict then s'.signal (.endsConflict e.hop e.hopEnd) else s'
  | _, _ => { s with route := { s.route with conflict := false } }

/-- Liveness, conflict and LEVEL condition after a change of the partner's entry (R112, R114, R122). PARTNER comes
before ENDS_CONFLICT at every frame: the model's choice (log 36). -/
def State.partnerEntryChanged (s : State) : State := s.refreshPartner.decideConflict.updateLevelCondition

/-- A clash is counted; the first sets the flag and raises the event (R109, R115; log 15). -/
def State.noteClash (kind : Option FrameKind) (hop : Nat) (e : HopEnd) (s : State) : State :=
  let s' :=
    { s with
      route :=
        { s.route with
          clash := true
          counters := { s.route.counters with clashes := satInc max16 s.route.counters.clashes } } }
  if s.route.clash then s' else s'.signal (.clash kind hop e)

/-- The roster settles against the new number and partner at acceptance (R115). -/
def State.settleRoster (st : Station) (s : State) : State :=
  let s :=
    match s.route.entryOf st.number with
    | none => s
    | some e =>
      { s with
        route := { s.route with roster := s.route.roster.filter fun x => x.station != st.number } }.noteClash
        none e.hop e.hopEnd
  s.partnerEntryChanged

/-- The kind of a discarded run of bytes is counted (R108, R109). -/
def RouteCounters.countJudged (j : Judged) (c : RouteCounters) : RouteCounters :=
  match j with
  | .truncated => { c with truncated := satInc max16 c.truncated }
  | .oversize => { c with malformed := satInc max16 c.malformed }
  | .crcError => { c with crcErrors := satInc max16 c.crcErrors }
  | .malformed => { c with malformed := satInc max16 c.malformed }
  | .good _ => c

/-- An entry as QUERY ROSTER shows it (R116). -/
def rosterLine (now : SampleTime) (e : RosterEntry) : RosterLine :=
  { entry := e, levelAge := e.level.map fun l => now.since l.time }

/-- The QUERY ROSTER reply; which entry is the partner is told by that entry's station number, the model's choice (R116;
log 19). -/
def State.rosterReply (s : State) : RosterReply :=
  let r := s.route
  { entries := r.roster.map (rosterLine s.time.now), partnerEntry := s.partnerEntry.map RosterEntry.station
    partner := r.partner, liveCount := r.liveCount, window := contentionWindow r.liveCount, clash := r.clash
    conflict := r.conflict, contention := r.contention, inFlight := r.inFlight.map QFrame.kind
    backoff := r.backoff, waiting := r.waiting.map QFrame.kind, counters := r.counters }

end Sys2Proof.Machine
end

