-- ==== Sys2Proof/Machine/Hop.lean ====
section
/-! DEFINITION. The hop coordinator (chapter 8): phase entries, proposals, answers, catch-up, halts, mismatch and
automatic proposals. -/

namespace Sys2Proof.Machine

/-! ### Legality and preconditions -/

/-- The legal successors (the table of R126). -/
def legalSuccessor (marginEnabled : Bool) : Phase → Phase → Bool
  | .idle, .beacon => true
  | .beacon, .sweep => true
  | .sweep, .confirm => true
  | .confirm, .sweep => true
  | .confirm, .soak => true
  | .soak, .margin => marginEnabled
  | .soak, .handover => !marginEnabled
  | .margin, .handover => true
  | _, _ => false

/-- The precondition of a target, as the reason when it fails (checks 4 to 8 of R135). -/
def State.precondition (target : Phase) (s : State) : Option DeclineReason :=
  match target with
  | .confirm => if 1 ≤ s.map.visits then none else some .notReady
  | .soak => if confirmedEnough s.settings.diversity s.lobe.confirmed then none else some .notConfirmed
  | .margin => if s.soak.isComplete then none else some .notReady
  | .handover =>
    if s.hop.phase = .margin then if s.margin.bothDone then none else some .notReady
    else if s.soak.isComplete then none else some .notReady
  | _ => none

/-- The evaluation of a proposal: the decline reason, or none when it is accepted (R135). -/
def State.evaluate (target : Phase) (role : Antenna) (s : State) : Option DeclineReason :=
  if s.hop.phase = .halted then some .halted
  else if !legalSuccessor s.settings.marginEnabled s.hop.phase target then some .notLegal
  else if target = .sweep ∧ role = .div ∧ s.settings.diversity = false then some .notLegal
  else s.precondition target

/-! ### Phase entry -/

/-- The profile of a phase; HALTED keeps the one in force (R128). -/
def profileOf (p : Phase) (inForce : Profile) : Profile :=
  match p with
  | .idle => .align
  | .beacon => .align
  | .sweep => .align
  | .confirm => .align
  | .soak => .soak
  | .margin => .soak
  | .handover => .soak
  | .halted => inForce

def haltCauseOf : EntryCause → Option HaltCause
  | .halt c => some c
  | _ => none

/-- The sweep serial wraps from 65535 to 0 (R129). -/
def nextSerial (n : Nat) : Nat := if 65535 ≤ n then 0 else n + 1

/-- The coordinator's own record at a change of phase (R127 to R129, R143). -/
def Coordinator.enter (target : Phase) (cause : EntryCause) (id : Option ProposalId) (c : Coordinator) :
    Coordinator :=
  { c with
    phase := target, haltCause := haltCauseOf cause, profile := profileOf target c.profile
    outstanding := none, answerTimer := none, failed := none
    lastAnswered := if cause = .accepted then c.lastAnswered else none
    lastAccepted := id
    entryHold := if cause = .accepted then some 10000 else none
    leftPhase := some c.phase, mismatch := 0, autoTimer := none
    serial := if target = .sweep then nextSerial c.serial else c.serial }

/-- What leaving a phase asks of the other blocks (R70, R79, R175, R200). -/
def State.leaveBlocks (left : Phase) (s : State) : State :=
  match left with
  | .confirm => { s with lobe := s.lobe.leaveConfirm }
  | .handover => { s with soak := { s.soak with digestTimer := none } }.handoverIncomplete
  | _ => s

/-- BEACON entry (section 8.1.1). -/
def State.enterBeacon (s : State) : State := { s with src := s.src.writeBeacon .keyed }.identEntry true

/-- SWEEP entry (section 8.1.1; R7, R24, R45, R51, R71, R150). -/
def State.enterSweep (role : Antenna) (s : State) : State :=
  { s with
    map := AlignMap.sweepEntry role, pos := s.pos.zero, level := { s.level with steering := role }
    lobe := s.lobe.sweepEntry, src := s.src.writeBeacon .keyed }.identEntry true

/-- CONFIRM entry (section 8.1.1; R23, R52, R68, R150). -/
def State.enterConfirm (id : ProposalId) (s : State) : State :=
  { s.identEntry false with
    src := s.src.writeBeacon .steady, map := s.map.freeze, lobe := s.lobe.start id }

/-- SOAK entry (section 8.1.1; R150, R153, R167). -/
def State.enterSoak (s : State) : State :=
  { s.identEntry false with
    src := (s.src.writeBeacon .off).writePattern true, soak := Soak.begin s.settings s.level }

/-- MARGIN entry (section 8.1.1; R173, R181). -/
def State.enterMargin (s : State) : State := ((s.identEntry false).closeRunningSoak false).beginDirection .one

/-- HANDOVER entry (section 8.1.1; R153, R157, R175, R188, R199). -/
def State.enterHandover (s : State) : State :=
  let s := (s.identEntry false).exitMargin
  let s := { s with src := s.src.writePattern false, soak := { s.soak with digestTimer := some 60 } }
  (s.sendDigest true).openHandover

/-- HALTED entry (section 8.1.1; R23, R53, R150, R153, R157, R173, R188). -/
def State.enterHalted (s : State) : State :=
  let s := (s.identEntry false).exitMargin
  { s with src := (s.src.writeBeacon .off).writePattern false, map := s.map.freeze }.closeRunningSoak true

/-- What the other blocks do at an entry (section 8.1.1). id is the accepted proposal, for CONFIRM; role its
antenna role, for SWEEP. -/
def State.enterBlocks (target : Phase) (id : Option ProposalId) (role : Antenna) (s : State) : State :=
  match target with
  | .idle => s
  | .beacon => s.enterBeacon
  | .sweep => s.enterSweep role
  | .confirm => s.enterConfirm (id.getD { proposer := 0, number := 0 })
  | .soak => s.enterSoak
  | .margin => s.enterMargin
  | .handover => s.enterHandover
  | .halted => s.enterHalted

/-- Comparators and averagers take up a new profile (R20, R128). -/
def State.switchProfile (was : Profile) (s : State) : State :=
  if s.hop.profile = was then s else { s with level := s.level.profileSwitch }

/-- The PROPOSAL event (R133). -/
def State.signalProposal (number : Nat) (target : Phase) (o : ProposalOutcome) (r : Option DeclineReason)
    (s : State) : State := s.signal (.proposal number target o r)

/-- An outstanding proposal that a phase change discards is reported CANCELLED, unless it was settled by the
event that causes the change (R133). -/
def State.cancelOutstanding (settled : Bool) (s : State) : State :=
  match s.hop.outstanding with
  | none => s
  | some p => if settled then s else s.signalProposal p.number p.target .cancelled none

/-- A change of phase (R127; log 9). -/
def State.enterPhase (target : Phase) (cause : EntryCause) (id : Option ProposalId) (role : Antenna)
    (settled : Bool) (s : State) : State :=
  let left := s.hop.phase
  let was := s.hop.profile
  let s := s.cancelOutstanding settled
  let s := { s with hop := s.hop.enter target cause id, route := s.route.withdrawPropose }
  let s := (((s.leaveBlocks left).enterBlocks target id role).switchProfile was).sendStatus
  (s.signal (.phase left target cause)).updateLevelCondition

/-- A halt (R141 to R143). -/
def State.halt (c : HaltCause) (s : State) : State := s.enterPhase .halted (.halt c) none .main false

/-! ### Proposing -/

/-- Proposal numbers wrap from 255 to 1 (R131). -/
def nextProposalNumber (n : Nat) : Nat := if 255 ≤ n then 1 else n + 1

/-- The antenna role a proposal carries: MAIN for every target but SWEEP (R131). -/
def proposalRole (target : Phase) (role : Antenna) : Antenna := if target = .sweep then role else .main

/-- The proposal that is made next (R131). -/
def Coordinator.newProposal (target : Phase) (role : Antenna) (automatic : Bool) (c : Coordinator) : Proposal :=
  { number := c.nextNumber, target := target, role := proposalRole target role, attempts := 1
    automatic := automatic }

/-- The coordinator's record of a proposal made (R131). -/
def Coordinator.propose (p : Proposal) (c : Coordinator) : Coordinator :=
  { c with
    nextNumber := nextProposalNumber c.nextNumber, outstanding := some p, mismatch := 0
    answerTimer := some 2000 }

/-- The PROPOSE body of a proposal (R131, R132). -/
def Proposal.body (p : Proposal) : ProposeBody := { number := p.number, target := p.target, role := p.role }

/-- A proposal is made (R131). -/
def State.propose (target : Phase) (role : Antenna) (automatic : Bool) (s : State) : State :=
  let p := s.hop.newProposal target role automatic
  { s with hop := s.hop.propose p }.send (.propose p.body)

/-- The proposal ends: timer stopped, waiting PROPOSE withdrawn, outstanding absent (R133). -/
def State.endProposal (s : State) : State :=
  { s with hop := { s.hop with outstanding := none, answerTimer := none }, route := s.route.withdrawPropose }

/-- The end of an automatic proposal starts the automatic timer (R140; log 24). -/
def State.startAutoTimer (p : Proposal) (s : State) : State :=
  if p.automatic then { s with hop := { s.hop with autoTimer := some 10000 } } else s

/-- The outstanding proposal ends with an outcome that is not an entry (R132, R133, R137, R140). -/
def State.closeProposal (p : Proposal) (o : ProposalOutcome) (r : Option DeclineReason) (s : State) : State :=
  (s.endProposal.startAutoTimer p).signalProposal p.number p.target o r

/-- A resend at the answer timeout (R132). -/
def State.resend (p : Proposal) (s : State) : State :=
  { s with
    hop :=
      { s.hop with outstanding := some { p with attempts := p.attempts + 1 }, answerTimer := some 2000 }
    route := s.route.withdrawPropose }.queueBody true (.propose p.body)

/-- The proposal fails at the third attempt (R132). -/
def State.failProposal (p : Proposal) (s : State) : State :=
  { s with
    hop := { s.hop with failed := some { number := p.number, target := p.target, role := p.role } } }.closeProposal
    p .failed none

/-- The answer timer runs out (R132). -/
def State.answerTimedOut (s : State) : State :=
  match s.hop.outstanding with
  | none => { s with hop := { s.hop with answerTimer := none } }
  | some p => if p.attempts < 3 then s.resend p else s.failProposal p

/-! ### Automatic proposals -/

/-- The target of end A's automatic proposal, while its condition holds (R140). -/
def State.autoTarget (s : State) : Option Phase :=
  match s.station with
  | none => none
  | some st =>
    if st.hopEnd = .b then none
    else
      match s.hop.phase with
      | .soak =>
        if s.soak.isComplete then some (if s.settings.marginEnabled then .margin else .handover) else none
      | .margin => if s.margin.bothDone then some .handover else none
      | _ => none

/-- Checks 3 to 7 of R130 for an automatic proposal (R140). -/
def State.mayPropose (target : Phase) (s : State) : Bool :=
  s.hop.outstanding.isNone && !s.route.conflict && s.route.partner != .lost &&
    legalSuccessor s.settings.marginEnabled s.hop.phase target && (s.precondition target).isNone

/-- End A tries its automatic proposal, or waits 10 s (R140). -/
def State.autoTry (s : State) : State :=
  match s.autoTarget with
  | none => s
  | some target =>
    if s.mayPropose target then s.propose target .main true
    else { s with hop := { s.hop with autoTimer := some 10000 } }

/-- The condition has come about since an earlier state (R140; log 24). -/
def State.autoOnset (before after : State) : State :=
  if before.autoTarget.isNone && after.autoTarget.isSome then after.autoTry else after

/-- The automatic timer expires (R140). -/
def State.autoExpired (s : State) : State := { s with hop := { s.hop with autoTimer := none } }.autoTry

/-! ### Answering -/

/-- An ANSWER is queued (R134, R136). -/
def State.sendAnswer (a : AnsweredRecord) (s : State) : State :=
  s.send
    (.answer
      { proposer := a.proposer, number := a.number, target := a.target, accept := a.accept, reason := a.reason })

/-- An ANSWER is queued and recorded (R136, R137). -/
def State.answer (a : AnsweredRecord) (s : State) : State :=
  let s := s.sendAnswer a
  { s with hop := { s.hop with lastAnswered := some a } }

def declineRecord (proposer : Nat) (b : ProposeBody) (r : DeclineReason) : AnsweredRecord :=
  { proposer := proposer, number := b.number, target := b.target, accept := false, reason := some r }

def acceptRecord (proposer : Nat) (b : ProposeBody) : AnsweredRecord :=
  { proposer := proposer, number := b.number, target := b.target, accept := true, reason := none }

/-- The responder accepts and enters (R136). -/
def State.acceptProposal (proposer : Nat) (b : ProposeBody) (settled : Bool) (s : State) : State :=
  (s.answer (acceptRecord proposer b)).enterPhase b.target .accepted
    (some { proposer := proposer, number := b.number }) b.role settled

/-- A partner's proposal is evaluated and answered (R135, R136). -/
def State.evaluateAndAnswer (proposer : Nat) (b : ProposeBody) (s : State) : State :=
  match s.evaluate b.target b.role with
  | some r => s.answer (declineRecord proposer b r)
  | none => s.acceptProposal proposer b false

/-- Two proposals are alike (R138). -/
def alike (p : Proposal) (b : ProposeBody) : Bool :=
  p.target == b.target && b.target != .confirm && (b.target != .sweep || p.role == b.role)

/-- An alike proposal: joined when accepted (R138). -/
def State.joinAlike (proposer : Nat) (b : ProposeBody) (p : Proposal) (s : State) : State :=
  match s.evaluate b.target b.role with
  | some r => s.answer (declineRecord proposer b r)
  | none => (s.signalProposal p.number p.target .joined none).acceptProposal proposer b true

/-- Crossing proposals (R137, R138). -/
def State.cross (proposer : Nat) (b : ProposeBody) (p : Proposal) (s : State) : State :=
  if alike p b then s.joinAlike proposer b p
  else if s.ownNumber < proposer then s.answer (declineRecord proposer b .crossed)
  else (s.closeProposal p .withdrawn none).evaluateAndAnswer proposer b

/-- The frame repeats the partner proposal last answered (R134). -/
def duplicates (proposer : Nat) (b : ProposeBody) : Option AnsweredRecord → Option AnsweredRecord
  | none => none
  | some a => if a.proposer = proposer ∧ a.number = b.number ∧ a.target = b.target then some a else none

/-- A PROPOSE delivered from the partner (R134). -/
def State.takePropose (proposer : Nat) (b : ProposeBody) (s : State) : State :=
  if s.route.conflict then { s with hop := { s.hop with ignored := satInc 255 s.hop.ignored } }
  else
    match duplicates proposer b s.hop.lastAnswered with
    | some a => s.sendAnswer a
    | none =>
      match s.hop.outstanding with
      | none => s.evaluateAndAnswer proposer b
      | some p => s.cross proposer b p

/-! ### Answers and catch-up -/

/-- The outstanding proposal with this number and target (R133). -/
def Coordinator.outstandingMatch (number : Nat) (target : Phase) (c : Coordinator) : Option Proposal :=
  c.outstanding.filter fun p => p.number == number && p.target == target

/-- The failed proposal with this number and target (R133). -/
def Coordinator.failedMatch (number : Nat) (target : Phase) (c : Coordinator) : Option FailedProposal :=
  c.failed.filter fun p => p.number == number && p.target == target

/-- Entry under this station's own proposal, by ANSWERED or CATCH_UP (R129, R133, R139). -/
def State.enterOwn (number : Nat) (target : Phase) (role : Antenna) (cause : EntryCause) (settled : Bool)
    (s : State) : State :=
  (s.signalProposal number target .accepted none).enterPhase target cause
    (some { proposer := s.ownNumber, number := number }) role settled

/-- The proposal of this station that a number and target name: its role, and whether it is outstanding (R133,
R139). -/
def Coordinator.ownMatch (number : Nat) (target : Phase) (c : Coordinator) : Option (Antenna × Bool) :=
  match c.outstandingMatch number target with
  | some p => some (p.role, true)
  | none =>
    match c.failedMatch number target with
    | some p => some (p.role, false)
    | none => none

/-- The station enters the target of its own proposal, when it has one so named (R133, R139). -/
def State.enterMatched (number : Nat) (target : Phase) (cause : EntryCause) (s : State) : State :=
  match s.hop.ownMatch number target with
  | none => s
  | some m => s.enterOwn number target m.1 cause m.2

/-- A partner's halt acts in BEACON to HANDOVER (R142; log 11). -/
def State.partnerHalt (s : State) : State :=
  if s.phaseIn [.beacon, .sweep, .confirm, .soak, .margin, .handover] then s.halt .partner else s

/-- A decline other than HALTED (R133). The report of a WITHDRAWN by CROSSED carries no reason: the model's choice
(log 42). -/
def State.takeDecline (b : AnswerBody) (s : State) : State :=
  match s.hop.outstandingMatch b.number b.target with
  | none => s
  | some p =>
    if b.reason = some .crossed then s.closeProposal p .withdrawn none else s.closeProposal p .declined b.reason

/-- An ANSWER delivered from the partner (the table of R133). -/
def State.takeAnswer (b : AnswerBody) (s : State) : State :=
  if b.accept = false ∧ b.reason = some .halted then s.partnerHalt
  else if b.proposer ≠ s.ownNumber then s
  else if b.accept then s.enterMatched b.number b.target .answered
  else s.takeDecline b

/-- Catch-up (R139). -/
def State.catchUp (b : StatusBody) (s : State) : State :=
  if b.lastStation = s.ownNumber then s.enterMatched b.lastNumber b.phase .catchUp else s

/-- The entry hold covers a partner STATUS showing the phase left (R143). -/
def Coordinator.held (p : Phase) (c : Coordinator) : Bool := c.entryHold.isSome && c.leftPhase == some p

/-- A partner STATUS showing IDLE (R143). -/
def State.partnerRestarted (s : State) : State :=
  if s.phaseIn [.beacon, .sweep, .confirm, .soak, .margin] && !s.hop.held .idle then s.halt .partnerRestart
  else s

/-- The halts a partner STATUS can cause (R142, R143). -/
def State.haltsOf (b : StatusBody) (s : State) : State :=
  match b.phase with
  | .halted => s.partnerHalt
  | .idle => s.partnerRestarted
  | _ => s

/-- The mismatch count (R145). -/
def State.countMismatch (b : StatusBody) (s : State) : State :=
  if b.phase = s.hop.phase then { s with hop := { s.hop with mismatch := 0 } }
  else if s.hop.outstanding.isSome ∨ 5 ≤ s.hop.mismatch then s
  else
    let s' := { s with hop := { s.hop with mismatch := s.hop.mismatch + 1 } }
    if s.hop.mismatch = 4 then s'.signal (.mismatch s.hop.phase b.phase) else s'

/-- A STATUS delivered from the partner to the coordinator (R139, R142, R143, R145). -/
def State.takeStatus (b : StatusBody) (s : State) : State :=
  let before := s.hop.phase
  let s := (s.catchUp b).haltsOf b
  if s.hop.phase = before then s.countMismatch b else s

/-- The coordinator after a restart (R149). -/
def Coordinator.restart (c : Coordinator) : Coordinator :=
  { Coordinator.reset with nextNumber := c.nextNumber, serial := c.serial, ignored := c.ignored }

/-- The coordinator's part of QUERY STATUS (R147). -/
def State.hopReply (s : State) : HopReply :=
  { phase := s.hop.phase, haltCause := s.hop.haltCause, profile := s.hop.profile, configured := s.configured
    outstanding := s.hop.outstanding, failed := s.hop.failed, lastAnswered := s.hop.lastAnswered
    lastAccepted := s.hop.lastAccepted, nextNumber := s.hop.nextNumber, mismatch := s.hop.mismatch
    entryHold := s.hop.entryHold.isSome, autoTimer := s.hop.autoTimer.isSome, serial := s.hop.serial
    ignored := s.hop.ignored, partner := s.route.partner, conflict := s.route.conflict }

end Sys2Proof.Machine
end

