-- ==== Sys2Proof/Machine/Reception.lean ====
section
/-! DEFINITION. The rows of the route channel: frames received and discarded, carrier-busy, contention,
transmission and the periodic frames (chapter 7). -/

namespace Sys2Proof.Machine

/-! ### Reception -/

/-- The frame bears this station's own number (R109). -/
def State.clashesWith (h : Header) (s : State) : Bool :=
  match s.station with
  | none => false
  | some st => h.source == st.number

/-- The frame is from the partner (R111). -/
def State.fromPartner (h : Header) (s : State) : Bool :=
  match s.station with
  | none => false
  | some st => h.source == st.partner

/-- The frame is addressed to this station or to every station (R111). -/
def State.addressed (h : Header) (s : State) : Bool := h.dest == 0 || h.dest == s.ownNumber

/-- A frame counted as malformed (R109). -/
def State.countMalformed (s : State) : State :=
  { s with route := { s.route with counters := s.route.counters.countJudged .malformed } }

/-- A good frame is counted and updates the roster (R109, R110). -/
def State.hearFrame (f : Frame) (s : State) : State :=
  let r := s.route.updateRoster s.time.now f
  { s with route := { r with counters := { r.counters with good := satInc max16 r.counters.good } } }

/-- What a frame from the partner changes before its delivery (R112, R114, R122, R187). -/
def State.hearPartner (s : State) : State :=
  { s with margin := { s.margin with silence := 0 } }.partnerEntryChanged

/-- The delivery of a frame from the partner, and the rerun of an ABORTED direction after it (R111, R187). -/
def State.deliverPartner (h : Header) (deliver : State → State) (s : State) : State :=
  let wasAborted := s.rerunWaits
  let s := if s.addressed h then deliver s else s
  if wasAborted then s.rerun else s

/-- A good frame that is not a clash (R109 to R111). -/
def State.takeGood (f : Frame) (deliver : State → State) (s : State) : State :=
  let s := s.hearFrame f
  if s.fromPartner f.header then s.hearPartner.deliverPartner f.header deliver else s

/-- The framer is in HUNT with nothing held (R108). -/
def Route.hunt (r : Route) : Route := { r with framer := Framer.hunting }

/-- A frame taken whole, its check right, is judged (R109; log 14). -/
def State.judged (f : Frame) (deliver : State → State) (s : State) : State :=
  if !f.wellFormed then s.countMalformed
  else if s.clashesWith f.header then s.noteClash (some f.body.kind) f.header.hop f.header.hopEnd
  else s.takeGood f deliver

/-- A frame taken whole; nothing is heard while transmitting (R105, R109; log 26). -/
def State.receive (f : Frame) (deliver : State → State) (s : State) : State :=
  if s.route.contention = .sending then s else { s with route := s.route.hunt }.judged f deliver

/-- A STATUS goes to the margin procedure, then to the coordinator (R111). -/
def State.deliverStatus (b : StatusBody) (s : State) : State := (s.marginStatus b.progress).takeStatus b

/-- A LIMIT delivered, with end A's automatic proposal at its onset (R140, R184). -/
def State.deliverLimit (b : MtestBody) (s : State) : State := s.autoOnset (s.takeLimit b)

/-- A DONE delivered, with end A's automatic proposal at its onset (R140, R186). -/
def State.deliverDone (b : MtestBody) (s : State) : State := s.autoOnset (s.takeDone b)

/-- RECEIVE_STATUS (R111). -/
def execReceiveStatus (h : Header) (b : StatusBody) (s : State) : Result :=
  .next (s.receive { header := h, body := .status b } (State.deliverStatus b))

/-- RECEIVE_LEVEL: the roster alone (R110, R111). -/
def execReceiveLevel (h : Header) (b : LevelBody) (s : State) : Result :=
  .next (s.receive { header := h, body := .level b } id)

/-- RECEIVE_PROPOSE (R134). -/
def execReceivePropose (h : Header) (b : ProposeBody) (s : State) : Result :=
  .next (s.receive { header := h, body := .propose b } (State.takePropose h.source b))

/-- RECEIVE_ANSWER (R133). -/
def execReceiveAnswer (h : Header) (b : AnswerBody) (s : State) : Result :=
  .next (s.receive { header := h, body := .answer b } (State.takeAnswer b))

/-- RECEIVE_VERDICT (R81). -/
def execReceiveVerdict (h : Header) (b : VerdictRecord) (s : State) : Result :=
  .next (s.receive { header := h, body := .verdict b } (State.takeVerdict b))

/-- RECEIVE_DIGEST (R176). -/
def execReceiveDigest (h : Header) (b : DigestBody) (s : State) : Result :=
  .next (s.receive { header := h, body := .digest b } (State.takeDigest b))

/-- MTEST_STEP (R186). -/
def execMtestStep (h : Header) (b : MtestBody) (s : State) : Result :=
  .next (s.receive { header := h, body := .mtest .step b } (State.takeStep b))

/-- MTEST_LIMIT (R184). -/
def execMtestLimit (h : Header) (b : MtestBody) (s : State) : Result :=
  .next (s.receive { header := h, body := .mtest .limit b } (State.deliverLimit b))

/-- MTEST_DONE (R186). -/
def execMtestDone (h : Header) (b : MtestBody) (s : State) : Result :=
  .next (s.receive { header := h, body := .mtest .done b } (State.deliverDone b))

/-- A good frame goes the way of its kind (R111). -/
def State.takeFrame (f : Frame) (s : State) : State :=
  match f.body with
  | .status b => s.receive f (State.deliverStatus b)
  | .level _ => s.receive f id
  | .propose b => s.receive f (State.takePropose f.header.source b)
  | .answer b => s.receive f (State.takeAnswer b)
  | .verdict b => s.receive f (State.takeVerdict b)
  | .digest b => s.receive f (State.takeDigest b)
  | .mtest .step b => s.receive f (State.takeStep b)
  | .mtest .limit b => s.receive f (State.deliverLimit b)
  | .mtest .done b => s.receive f (State.deliverDone b)

/-- A frame that has ended in the framer: a good one is taken, another counted and discarded (R108, R109). -/
def State.takeJudged (j : Judged) (s : State) : State :=
  match j with
  | .good f => s.takeFrame f
  | j => { s with route := { s.route with counters := s.route.counters.countJudged j } }

/-- One character on the receive line, which the part ignores while it transmits (R105, R108). -/
def State.takeCharacter (s : State) (b : Byte) : State :=
  if s.route.contention = .sending then s
  else
    let taken := s.route.framer.take b
    let s := { s with route := { s.route with framer := taken.1 } }
    match taken.2 with
    | none => s
    | some j => s.takeJudged j

/-- Characters on the receive line, one after another (R108). -/
def State.takeCharacters (bytes : List Byte) (s : State) : State := bytes.foldl State.takeCharacter s

/-- ROUTE_FRAME_DISCARDED: the characters that arrive (R108, R109; log 16, 17). -/
def execRouteFrameDiscarded (bytes : List Byte) (s : State) : Result := .next (s.takeCharacters bytes)

/-- A gap on the receive line, which the part ignores while it transmits (R105, R108). -/
def State.takeGap (s : State) : State :=
  if s.route.contention = .sending then s else { s with route := s.route.gap }

/-- ROUTE_GAP_TIMEOUT: a cut, and the character that is examined afresh; no gap passes before its time (R108; log 5,
17). -/
def execRouteGapTimeout (cut : LineCut) (s : State) : Result :=
  .next (if s.route.framer.cutBy cut.cause then s.takeGap.takeCharacters cut.next.toList else s)

/-- A gap of more than 5 ms that no row has taken (R108; log 3, 5). -/
def State.settleRouteGap (s : State) : State := if Timer.due s.route.framer.gap then s.takeGap else s

/-! ### Carrier and contention -/

/-- CARRIER_BUSY_HIGH (R104, R120). -/
def execCarrierBusyHigh (s : State) : Result := .next { s with route := s.route.carrierHigh }

/-- CARRIER_BUSY_LOW (R104). -/
def execCarrierBusyLow (s : State) : Result := .next { s with route := s.route.carrierLow }

/-- The guard of a deferred frame completes, when it is due (R120). -/
def State.takeGuardComplete (s : State) : State :=
  if s.route.guardDue then s.liftRoute fun draws r => r.takeGuard draws else s

/-- GUARD_COMPLETE (R120). -/
def execGuardComplete (s : State) : Result := .next s.takeGuardComplete

/-- A backoff slot ends, when it is due (R120). -/
def State.takeSlotEnd (s : State) : State := if s.route.slotDue then { s with route := s.route.endSlot } else s

/-- BACKOFF_SLOT_END (R120). -/
def execBackoffSlotEnd (s : State) : Result := .next s.takeSlotEnd

/-- A transmission's completion (R105, R117). -/
def State.finishTransmission (s : State) : State := s.liftRoute fun draws r => r.finishTransmission draws

/-- TRANSMISSION_COMPLETE (R105). -/
def execTransmissionComplete (s : State) : Result :=
  .next (if s.route.transmissionMayEnd then s.finishTransmission else s)

/-- A transmission whose time has passed completes (log 5). -/
def State.settleTransmission (s : State) : State := if s.route.transmissionOver then s.finishTransmission else s

/-! ### Periodic frames -/

/-- The STATUS timer expires, when it is due (R121). -/
def State.takeStatusTimer (s : State) : State := if Timer.due s.route.statusTimer then s.sendStatus else s

/-- STATUS_TIMER_EXPIRY (R121). -/
def execStatusTimerExpiry (s : State) : Result := .next s.takeStatusTimer

/-- The LEVEL timer expires, when it is due (R122). -/
def State.takeLevelTimer (s : State) : State := if Timer.due s.route.levelTimer then s.sendLevel else s

/-- LEVEL_TIMER_EXPIRY (R122). -/
def execLevelTimerExpiry (s : State) : Result := .next s.takeLevelTimer

/-! ### The coordinator's timers -/

/-- The answer timer runs out, when it is due (R132). -/
def State.takeAnswerTimeout (s : State) : State := if Timer.due s.hop.answerTimer then s.answerTimedOut else s

/-- ANSWER_TIMEOUT (R132). -/
def execAnswerTimeout (s : State) : Result := .next s.takeAnswerTimeout

/-- The entry hold runs out, when it is due (R143). -/
def State.takeEntryHold (s : State) : State :=
  if Timer.due s.hop.entryHold then { s with hop := { s.hop with entryHold := none } } else s

/-- ENTRY_HOLD_EXPIRY (R143). -/
def execEntryHoldExpiry (s : State) : Result := .next s.takeEntryHold

/-- The automatic timer expires, when it is due (R140). -/
def State.takeAutoTimer (s : State) : State := if Timer.due s.hop.autoTimer then s.autoExpired else s

/-- AUTOMATIC_TIMER_EXPIRY (R140). -/
def execAutomaticTimerExpiry (s : State) : Result := .next s.takeAutoTimer

end Sys2Proof.Machine
end

