-- ==== Sys2Proof/Machine/Events.lean ====
section
/-! DEFINITION. The rows that name an event inside the part: level unit, identifier, encoders, analyser, cue unit,
test source, checker, second event, soak and margin. Each acts only while its condition stands (log 1, 3). -/

namespace Sys2Proof.Machine

/-! ### Level unit and identifier (log 4) -/

/-- The 1000th IN sample of an input whose warning is set (R3). -/
def State.takeWarningClear (i : Input) (s : State) : State :=
  let x := s.level.inputs.get i
  if x.warningEnds then { s with level := { s.level with inputs := s.level.inputs.set i x.countIn } } else s

/-- RANGE_WARNING_CLEAR (R3). -/
def execRangeWarningClear (i : Input) (s : State) : Result := .next (s.takeWarningClear i)

/-- A role's comparator after a sample (R17). -/
def State.setComparator (r : Role) (c : Comparator) (s : State) : State :=
  { s with level := { s.level with channels := s.level.channels.set r { s.level.channels.get r with cmp := c } } }

/-- The sample that completes a run of a comparator, in the direction named (R18, R19). -/
def State.takeFadeSample (ended : Bool) (r : Role) (level : Level) (s : State) : State :=
  let taken := (s.level.channels.get r).cmp.take s.profile r s.time.now level
  match taken.2 with
  | none => s
  | some e => if e.ended = ended then (s.setComparator r taken.1).deliverFade r e else s

/-- FADE_START (R18). -/
def execFadeStart (r : Role) (level : Level) (s : State) : Result := .next (s.takeFadeSample false r level)

/-- FADE_END (R19). -/
def execFadeEnd (r : Role) (level : Level) (s : State) : Result := .next (s.takeFadeSample true r level)

/-- BLOCK_CLOSE (R25, R31). -/
def execBlockClose (level : Level) (s : State) : Result :=
  .next (if s.ident.blockEnds then s.identSample level else s)

/-! ### Encoders -/

/-- A slip: its event, and the map's slip flag in SWEEP (R39, R40, R59). The report carries the snapshot standing, as R43
says, also after a zero that came since the latest sample event R40 speaks of: the model's choice (log 48). -/
def State.noteSlip (x : Axis) (wasSlipped : Bool) (s : State) : State :=
  let s := if s.hop.phase = .sweep then { s with map := s.map.slip x } else s
  if wasSlipped then s else s.signal (.slip x (s.pos.axes.get x).slipCount s.pos.snapshot)

/-- The lines of an axis that have run their filter time pass, and the decoder acts (R37 to R41). -/
def State.takeTransition (x : Axis) (s : State) : State :=
  let axis := s.pos.axes.get x
  if axis.due s.settings.filterTicks then
    let passed := axis.pass s.settings.filterTicks
    let s := { s with pos := { s.pos with axes := s.pos.axes.set x passed.1 } }
    if passed.2 = .slip then s.noteSlip x axis.slipped else s
  else s

/-- The transitions of both axes that are due (log 3), AZ before EL: the model's choice (log 40). -/
def State.settleLines (s : State) : State := (s.takeTransition .az).takeTransition .el

/-- ENCODER_TRANSITION (R38). -/
def execEncoderTransition (x : Axis) (s : State) : Result := .next (s.takeTransition x)

/-- A raw encoder line changes (R37; log 22). -/
def State.driveLine (x : Axis) (l : Line) (high : Bool) (s : State) : State :=
  let axis := s.pos.axes.get x
  { s with pos := { s.pos with axes := s.pos.axes.set x (axis.setLine l ((axis.line l).drive high)) } }

/-- ENCODER_LINE_CHANGE (R37). -/
def execEncoderLineChange (x : Axis) (l : Line) (high : Bool) (s : State) : Result :=
  .next ((s.takeTransition x).driveLine x l high)

/-! ### Lobe analyser -/

/-- The VERDICT report's content (R78). -/
def VerdictReport (v : VerdictRecord) : Report :=
  .verdict v.verdict v.role v.top v.positionSuspect v.foreignSeen v.outsideSeen v.listOverflow

/-- A completed record is handed on, and the cross-check runs when the partner's record is held (R69, R78). -/
def State.handOn (s : State) : State :=
  match s.lobe.own with
  | none => s
  | some v => ((s.send (.verdict v)).signal (VerdictReport v)).runCrossCheck

/-- The completion of a running analysis (R69). -/
def State.takeCompletion (s : State) : State :=
  if s.lobe.state = .running then
    { s with lobe := s.lobe.complete s.settings s.level s.map }.handOn
  else s

/-- ANALYSIS_COMPLETE (R69). -/
def execAnalysisComplete (s : State) : Result := .next s.takeCompletion

/-- The analysis completes within 20 ms of its start (R69; log 5). -/
def State.settleAnalysis (s : State) : State := if 20 ≤ s.lobe.elapsed then s.takeCompletion else s

/-- The repeat timer runs out: the same VERDICT again (R79). -/
def State.takeVerdictRepeat (s : State) : State :=
  if Timer.due s.lobe.repeatTimer then
    let s := { s with lobe := { s.lobe with repeatTimer := some 5000 } }
    match s.lobe.own with
    | none => s
    | some v => s.send (.verdict v)
  else s

/-- VERDICT_REPEAT (R79). -/
def execVerdictRepeat (s : State) : Result := .next s.takeVerdictRepeat

/-! ### Cue unit -/

/-- A cue update, when it is due (R91). -/
def State.takeCueUpdate (s : State) : State := if s.cue.updateDue then s.updateCue else s

/-- CUE_UPDATE (R91). -/
def execCueUpdate (s : State) : Result := .next s.takeCueUpdate

/-- A boundary of the STALE cadence, when it is due (R97). -/
def State.takeStaleCadence (s : State) : State :=
  if s.cue.cadenceDue && s.cue.tone == .stale then { s with cue := s.cue.staleCadence } else s

/-- STALE_CADENCE (R97). -/
def execStaleCadence (s : State) : Result := .next s.takeStaleCadence

/-- A boundary of the FOREIGN cadence, when it is due (R98). -/
def State.takeForeignCadence (s : State) : State :=
  if s.cue.cadenceDue && s.cue.tone == .foreign then { s with cue := s.cue.foreignCadence } else s

/-- FOREIGN_CADENCE (R98). -/
def execForeignCadence (s : State) : Result := .next s.takeForeignCadence

/-- The half-cycle ends, when its length has passed (R95). -/
def State.takeToggle (s : State) : State := if s.cue.halfEnds then { s with cue := s.cue.toggle } else s

/-- TONE_TOGGLE (R95). -/
def execToneToggle (s : State) : Result := .next s.takeToggle

/-- A meter period begins, when its start is due (R99). -/
def State.takePeriodStart (s : State) : State :=
  if s.cue.periodDue then { s with cue := s.cue.startPeriod } else s

/-- METER_PERIOD_START (R99). -/
def execMeterPeriodStart (s : State) : Result := .next s.takePeriodStart

/-! ### Test source -/

/-- A keying edge, when it is due (R151, R155). -/
def State.takeKeyingEdge (s : State) : State :=
  if s.src.edgeDue then { s with src := s.src.takeEdge.applyAtten s.settings.attenSources.keyingEdge } else s

/-- KEYING_EDGE (R151). -/
def execKeyingEdge (s : State) : Result := .next s.takeKeyingEdge

/-- The filtered sync level takes the raw one (R155). -/
def Source.passSync (x : Source) : Source := { x with sync := x.sync.pass syncTicks }

/-- The filtered sync level rises, when its filter time has passed (R155). -/
def State.takeSyncRise (s : State) : State :=
  if s.src.sync.due syncTicks && s.src.sync.raw then
    { s with src := s.src.passSync.applyAtten s.settings.attenSources.syncPin }
  else s

/-- SYNC_PIN (R155). -/
def execSyncPin (s : State) : Result := .next s.takeSyncRise

/-- The filtered sync level falls, when its filter time has passed (R155). -/
def State.takeSyncFall (s : State) : State :=
  if s.src.sync.due syncTicks && !s.src.sync.raw then { s with src := s.src.passSync } else s

/-- SYNC_FILTERED_FALL (R155). -/
def execSyncFilteredFall (s : State) : Result := .next s.takeSyncFall

/-- The raw sync input changes (R155; log 22). -/
def State.driveSync (high : Bool) (s : State) : State :=
  { s with src := { s.src with sync := s.src.sync.drive high } }

/-- SYNC_INPUT_CHANGE (R155). -/
def execSyncInputChange (high : Bool) (s : State) : Result := .next (s.takeSyncRise.takeSyncFall.driveSync high)

/-! ### Pattern checker -/

/-- A pattern word found in HUNT (R160). -/
def State.takeSyncWord (s : State) : State :=
  if s.src.pattern.live then { s with chk := s.chk.takeFound s.settings.words } else s

/-- SYNC_WORD_FOUND (R160). -/
def execSyncWordFound (s : State) : Result := .next s.takeSyncWord

/-- A word completed, when its 16 bits are in (R161, R162). -/
def State.takeWordComplete (s : State) : State :=
  if s.src.pattern.live && s.chk.wordDue then s.completeWord else s

/-- PATTERN_WORD_COMPLETE (R162). -/
def execPatternWordComplete (s : State) : Result := .next s.takeWordComplete

/-- The checker's sync work that is due (R159; log 3). -/
def State.settleSyncWork (s : State) : State := s.takeSyncWord.takeWordComplete

/-- A word interval's end, after the sync work for the same bit (R159). -/
def State.takeIntervalEnd (s : State) : State :=
  if s.src.pattern.live && s.chk.intervalDue then
    let s := s.settleSyncWork
    { s with chk := s.chk.endInterval }
  else s

/-- WORD_INTERVAL_END (R159). -/
def execWordIntervalEnd (s : State) : Result := .next s.takeIntervalEnd

/-- Everything of the checker that is due (log 3). -/
def State.settleChecker (s : State) : State := s.settleSyncWork.takeIntervalEnd

/-- A clock edge: the generator sends a bit and the checker takes one, while the pattern is live (R158, R159). -/
def State.clockEdge (bit : Bool) (s : State) : State :=
  if s.src.pattern.live then
    let s := s.settleChecker
    { s with src := s.src.sendBit s.settings.words, chk := s.chk.takeBit bit }
  else s

/-- PATTERN_CLOCK_EDGE (R158). -/
def execPatternClockEdge (bit : Bool) (s : State) : Result := .next (s.clockEdge bit)

/-! ### The second event -/

/-- The delivery of the second just ended (R163). -/
def State.delivery (s : State) : Delivery := { totals := s.chk.totals, enabled := s.src.pattern.live }

/-- The totals go to the soak recorder and to the judge, and start again at 0 (R163). -/
def State.deliverTotals (s : State) : State :=
  let d := s.delivery
  let s := { s with chk := s.chk.closeSecond d.enabled }
  (s.deliverToSoak d).deliverToJudge d

/-- Roster entries age, with what follows from it (R112, R114, R122). -/
def State.ageRoster (s : State) : State := { s with route := s.route.ageRoster }.partnerEntryChanged

/-- The SECOND apply event (R153 to R155, R158, R159). -/
def State.applySecond (s : State) : State :=
  let changes := s.src.patternChanges
  { s with
    src := (s.src.applyAtten s.settings.attenSources.second).applyPattern
    chk := if changes then s.chk.start else s.chk }

/-- The DIGEST timer counts second events (R175). -/
def State.tickDigest (s : State) : State :=
  { s with soak := { s.soak with digestTimer := Timer.tick s.soak.digestTimer } }

/-- The work of a second event (R114, R155, R163, R175, R182, R197). The roster ages after the delivery of the totals
and before the apply: the model's choice (log 37). -/
def State.secondWork (s : State) : State :=
  s.settleChecker.deliverTotals.ageRoster.applySecond.secondMargin.tickDigest

/-- A second event, when it is due, with end A's automatic proposal at its onset, whose checks see the roster aged by
the same second event: the model's choice (R140, R197; log 37). -/
def State.takeSecond (s : State) : State :=
  if s.time.secondDue then s.autoOnset { s with time := { s.time with secondDue := false } }.secondWork else s

/-- SECOND_EVENT (R197). -/
def execSecondEvent (s : State) : Result := .next s.takeSecond

/-! ### Soak and margin -/

/-- The final DIGEST again, when its timer has run out (R175). -/
def State.takeDigestTimer (s : State) : State :=
  if Timer.due s.soak.digestTimer then
    { s with soak := { s.soak with digestTimer := some 60 } }.sendDigest true
  else s

/-- DIGEST_TIMER_EXPIRY (R175). -/
def execDigestTimerExpiry (s : State) : Result := .next s.takeDigestTimer

/-- The dwell has reached D: step due (R182). -/
def State.takeDwell (s : State) : State :=
  if s.dwellDue then { s with margin := { s.margin with stepDue := true } } else s

/-- DWELL_EXPIRY (R182). -/
def execDwellExpiry (s : State) : Result := .next s.takeDwell

/-- A step's write, when it is due, with end A's automatic proposal at its onset (R140, R182, R183). -/
def State.takeStepWrite (s : State) : State := if s.stepWriteDue then s.autoOnset s.writeStep else s

/-- MARGIN_STEP_WRITE (R182). -/
def execMarginStepWrite (s : State) : Result := .next s.takeStepWrite

/-- A step's announcement, when it is due (R182). -/
def State.takeAnnounce (s : State) : State := if s.announceIsDue then s.announceStep else s

/-- STEP_ANNOUNCE (R182). -/
def execStepAnnounce (s : State) : Result := .next s.takeAnnounce

/-- The DONE again, when its timer has run out (R185). -/
def State.takeDoneRepeat (s : State) : State := if Timer.due s.margin.doneTimer then s.repeatDone else s

/-- DONE_REPEAT (R185). -/
def execDoneRepeat (s : State) : Result := .next s.takeDoneRepeat

/-- The abort by silence, when it is due (R187). -/
def State.takeSilence (s : State) : State := if s.silenceDue then s.abortCurrent else s

/-- SILENCE_ABORT (R187). -/
def execSilenceAbort (s : State) : Result := .next s.takeSilence

/-! ### Supply watch -/

/-- The LOW level of a code in mV (R198). -/
def supplyLevel : Nat → Nat
  | 0 => 10800
  | 1 => 11400
  | 2 => 21600
  | _ => 22800

/-- The crossing the watch waits for: below the level in NORMAL, above it plus 0.3 V in LOW (R198; log 21). -/
def supplyCondition (low : Bool) (level sense : Nat) : Bool :=
  if low then decide (level + 300 < sense) else decide (sense < level)

/-- The debounce of a condition that stands or not: started, kept or stopped (R198). -/
def supplyDebounce (was now : Bool) (t : Timer) : Timer :=
  if now then (if was && t.isSome then t else some 100) else none

/-- The supply-sense input takes a new value (R198). -/
def Supply.take (level mv : Nat) (x : Supply) : Supply :=
  let now := supplyCondition x.low level mv
  { x with sense := mv, debounce := supplyDebounce (supplyCondition x.low level x.sense) now x.debounce }

/-- The level of an accepted record, with any debounce restarted, also where that level was in force: the model's choice
(R198; log 47). -/
def Supply.newLevel (level : Nat) (x : Supply) : Supply :=
  { x with debounce := supplyDebounce false (supplyCondition x.low level x.sense) x.debounce }

/-- The state changes once the debounce has run out (R198). -/
def Supply.change (level : Nat) (x : Supply) : Supply :=
  let low := !x.low
  { x with low := low, debounce := supplyDebounce false (supplyCondition low level x.sense) none }

/-- SUPPLY_CROSSING (R198). -/
def execSupplyCrossing (millivolts : Nat) (s : State) : Result :=
  .next { s with supply := s.supply.take (supplyLevel s.settings.supplyLow) millivolts }

/-- The debounce runs out, when it is due (R198). -/
def State.takeSupply (s : State) : State :=
  if Timer.due s.supply.debounce then
    let s := { s with supply := s.supply.change (supplyLevel s.settings.supplyLow) }
    s.signal (.supply s.supply.low)
  else s

/-- SUPPLY_DEBOUNCE_EXPIRY (R198). -/
def execSupplyDebounceExpiry (s : State) : Result := .next s.takeSupply

end Sys2Proof.Machine
end

