-- ==== Sys2Proof/Machine/Sample.lean ====
section
/-! DEFINITION. The sample event: the events still due before it, then its own work in the order of R1 and R31;
and the cue-clock tick (R37, R95, R99, R155; log 2, 3). -/

namespace Sys2Proof.Machine

/-! ### What is due before a sample event or a tick -/

/-- The events that ticks bring about (log 3). -/
def State.settleTick (s : State) : State :=
  s.settleLines.takeSyncRise.takeSyncFall.takeToggle.takePeriodStart

/-- The events of the test source, the second event, and the margin procedure's steps (log 3). -/
def State.settleSecond (s : State) : State :=
  s.takeKeyingEdge.takeSecond.takeDwell.takeAnnounce.takeDigestTimer.takeStepWrite.takeSilence

/-- The events of the cue unit. A cadence boundary comes before a cue update due at the same sample event: the model's
choice (R91, R97, R98; log 3, 49). -/
def State.settleCue (s : State) : State := s.takeStaleCadence.takeForeignCadence.takeCueUpdate

/-- The timers that have run out (log 3). -/
def State.settleTimers (s : State) : State :=
  let s := s.takeVerdictRepeat.takeStatusTimer.takeLevelTimer.takeAnswerTimeout
  s.takeEntryHold.takeAutoTimer.takeDoneRepeat.takeSupply

/-- The transmission and the contention (log 3, 5). -/
def State.settleRoute (s : State) : State := s.settleAnalysis.settleTransmission.takeGuardComplete.takeSlotEnd

/-- Every event that is due but the gaps, in one fixed order (log 3). -/
def State.settleEvents (s : State) : State :=
  s.settleChecker.settleTick.settleSecond.settleCue.settleTimers.settleRoute

/-- The gaps on the receive line and on the site port's line that have passed (R108, R191; log 3, 5). -/
def State.settleGaps (s : State) : State :=
  let s := s.settleRouteGap
  { s with site := s.site.settleGap }

/-- Every event that is due (log 3). -/
def State.settle (s : State) : State := s.settleEvents.settleGaps

/-! ### The sample event -/

/-- The timebase at a sample event (R197). -/
def Timebase.sample (t : Timebase) : Timebase :=
  if 999 ≤ t.now.index then
    { t with now := { second := satInc max32 t.now.second, index := 0 }, secondDue := true }
  else { t with now := { t.now with index := t.now.index + 1 } }

/-- One ms off every timer (log 5). -/
def State.tickTimers (s : State) : State :=
  { s with
    route :=
      { s.route with
        statusTimer := Timer.tick s.route.statusTimer, levelTimer := Timer.tick s.route.levelTimer
        framer := { s.route.framer with gap := Timer.tick s.route.framer.gap } }
    site := { s.site with framer := s.site.framer.tick }
    hop :=
      { s.hop with
        answerTimer := Timer.tick s.hop.answerTimer, entryHold := Timer.tick s.hop.entryHold
        autoTimer := Timer.tick s.hop.autoTimer }
    lobe := { s.lobe with repeatTimer := Timer.tick s.lobe.repeatTimer }
    margin := { s.margin with doneTimer := Timer.tick s.margin.doneTimer }
    supply := { s.supply with debounce := Timer.tick s.supply.debounce } }

/-- One input converts, with its RANGE event (R2 to R4). -/
def State.sampleInput (codes : ByInput Nat) (i : Input) (s : State) : State :=
  let taken := (s.level.inputs.get i).take (s.settings.calibration.get i) (codes.get i)
  let s := { s with level := { s.level with inputs := s.level.inputs.set i taken.1 } }
  if taken.2 then s.signal (.range i taken.1.range) else s

/-- All four inputs (R1; log 10). -/
def State.sampleInputs (codes : ByInput Nat) (s : State) : State :=
  (((s.sampleInput codes .detA).sampleInput codes .detB).sampleInput codes .detC).sampleInput codes .detD

/-- The gate of one role: the steering channel's alone (R9). -/
def roleGate (gate : Option Level) (steering : Antenna) (r : Role) : Option Level :=
  if r = steeringRole steering then gate else none

/-- One channel takes its sample, with the comparator's event (R9, R17). -/
def State.sampleChannel (gate : Option Level) (r : Role) (s : State) : State :=
  let taken :=
    (s.level.channels.get r).take s.profile r (roleGate gate s.level.steering r) s.time.now (s.roleInput r).sample
  { s with level := { s.level with channels := s.level.channels.set r taken.1 } }.deliverFades r taken.2

/-- All four channels under the gate the identifier held before the sample (R1, R10; log 10). -/
def State.sampleChannels (gate : Option Level) (s : State) : State :=
  (((s.sampleChannel gate .coMain).sampleChannel gate .xMain).sampleChannel gate .coDiv).sampleChannel gate .xDiv

/-- The snapshot is latched (R42). -/
def State.latch (s : State) : State := { s with pos := s.pos.latch }

/-- What else counts sample events: LOW and joint fades, keying, cue timers, silence, the channel's times, the
analysis (R69, R91, R104, R151, R169, R178, R187). -/
def State.sampleCounters (s : State) : State :=
  { s with
    soak := s.soak.sample s.settings s.supply.low s.level
    src := s.src.tickKeying s.ownHop
    cue := s.cue.sample
    margin := { s.margin with silence := min 10000 (s.margin.silence + 1) }
    route := s.route.tickTimes
    lobe := { s.lobe with elapsed := if s.lobe.state = .running then s.lobe.elapsed + 1 else s.lobe.elapsed } }

/-- The measuring blocks at a sample event, in the order of R1, R31 and section 4.4. -/
def State.measure (codes : ByInput Nat) (s : State) : State :=
  let gate := s.ident.gate
  let s := s.sampleInputs codes
  let admitted := admits gate s.steeringSample
  let s := s.sampleChannels gate
  ((s.identSample s.steeringSample).latch).mapSample admitted

/-- A sample event's own work (R1, R197). -/
def State.sampleWork (codes : ByInput Nat) (s : State) : State :=
  (({ s with time := s.time.sample }.tickTimers).measure codes).sampleCounters

/-- SAMPLE_EVENT (R1). -/
def execSampleEvent (codes : ByInput Nat) (s : State) : Result := .next (s.settle.sampleWork codes)

/-! ### The cue-clock tick -/

/-- The lines at the first tick after a hard reset (R47, R155). -/
def State.firstTick (s : State) : State :=
  { s with
    time := { s.time with firstTick := false }
    pos := { s.pos with axes := s.pos.axes.map (AxisState.mapLines LineState.settleFirst) }
    src := { s.src with sync := s.src.sync.settleFirst } }

/-- The lines at every other tick (R37, R155). -/
def State.tickLines (s : State) : State :=
  { s with
    pos := { s.pos with axes := s.pos.axes.map (AxisState.mapLines LineState.tick) }
    src := { s.src with sync := s.src.sync.tick } }

/-- One cue-clock tick (R37, R95, R99, R155; log 2). -/
def State.cueTick (s : State) : State :=
  if s.time.firstTick then { s.firstTick with cue := s.cue.tick s.settings.modulus }
  else
    let s := s.settleTick
    { s.tickLines with cue := s.cue.tick s.settings.modulus }

end Sys2Proof.Machine
end

