-- ==== Sys2Proof/Machine/Operands.lean ====
section
/-! DEFINITION. The operands of the site port's requests: the Setup Record as taken, its fatal and clamped fields
(R195), and a request's bytes (R191, R192). -/

namespace Sys2Proof.Machine

/-! ### Taking the Setup Record's fields -/

/-- Two values: 8 below 32, 32 otherwise (R17, R46). -/
def take8or32 (n : Nat) : Nat := if n < 32 then 8 else 32

/-- The largest allowed modulus at or below the value, or 16 (R101). -/
def takeModulus (n : Nat) : Nat := if 256 ≤ n then 256 else if 64 ≤ n then 64 else if 32 ≤ n then 32 else 16

/-- W: rounded down to a multiple of 4, then clamped (R48). -/
def takeColumns (n : Nat) : Nat := clampNat 8 32 (n / 4 * 4)

/-- H: rounded down to a multiple of 2, then clamped (R48). -/
def takeRows (n : Nat) : Nat := clampNat 4 16 (n / 2 * 2)

/-- A detector input from its number 0..3; a larger number is taken as 3 (R6). -/
def takeInput : Nat → Input
  | 0 => .detA
  | 1 => .detB
  | 2 => .detC
  | _ => .detD

/-- 0 is clear, any other value set (R195). -/
def takeFlag (n : Nat) : Bool := n != 0

/-- 0 is end A, any other value end B (R195). -/
def takeEnd (n : Nat) : HopEnd := if n = 0 then .a else .b

def takeLevel (l : Level) : Level := clampInt (-1200) (-100) l

def takeCalibration (c : Calibration) : Calibration :=
  { offset := clampInt (-1500) (-300) c.offset, slope := clampNat 32 255 c.slope }

/-- The apply-source set's bits (R195). -/
def takeSources (n : Nat) : ApplySet :=
  { second := n.testBit 0, keyingEdge := n.testBit 1, syncPin := n.testBit 2 }

/-- One profile (R14, R17, R101). -/
def takeProfile (p : ProfileFields) : ProfileSettings :=
  { shift := clampNat 0 7 p.shift, filter := take8or32 p.filter, thresholds := p.thresholds.map takeLevel
    hysteresis := clampNat 5 50 p.hysteresis, cueOn := takeFlag p.cueOn }

/-- The settings a record gives, each field brought into its range (R195). -/
def takeSettings (r : SetupRecord) : Settings :=
  { calibration :=
      { detA := takeCalibration r.calibration.detA, detB := takeCalibration r.calibration.detB
        detC := takeCalibration r.calibration.detC, detD := takeCalibration r.calibration.detD }
    mapping := r.inputs.map takeInput
    diversity := takeFlag r.diversity, dualPol := takeFlag r.dualPol
    predicted := { main := takeLevel r.predictedMain, div := takeLevel r.predictedDiv }
    mainTolerance := clampNat 10 60 r.mainTolerance, sideDepth := clampNat 100 300 r.sideDepth
    asymmetryLimit := clampNat 10 100 r.asymmetryLimit, requiredXpd := clampNat 150 400 r.requiredXpd
    imbalanceLimit := clampNat 20 150 r.imbalanceLimit
    geometry :=
      { columns := takeColumns r.columns, rows := takeRows r.rows, cellWidth := clampNat 1 64 r.cellWidth
        cellHeight := clampNat 1 64 r.cellHeight }
    filterTicks := take8or32 r.filterTicks
    align := takeProfile r.align, soak := takeProfile r.soak
    toneFloor := clampInt (-1200) (-200) r.toneFloor, toneStep := clampNat 5 50 r.toneStep
    meterFloor := takeLevel r.meterFloor, meterSpan := clampNat 100 1000 r.meterSpan
    modulus := takeModulus r.modulus, words := r.words.getD defaultWords
    soakMinutes := clampNat 15 1440 r.soakMinutes, maxErrored := r.maxErrored, maxBad := r.maxBad
    maxOutage := r.maxOutage, marginEnabled := takeFlag r.marginEnable, marginStep := clampNat 1 6 r.marginStep
    marginDwell := clampNat 5 60 r.marginDwell, requiredMargin := clampNat 0 60 r.requiredMargin
    attenSources := takeSources r.attenSources, supplyLow := min 3 r.supplyLow }

/-- The station a record gives (R195, R196). -/
def takeStation (r : SetupRecord) : Station :=
  { number := r.station, hop := r.hop, partner := r.partner, hopEnd := takeEnd r.hopEnd }

/-- The first fatal field of a record (R195). -/
def fatalField (r : SetupRecord) : Option Nat :=
  if !stationOk r.station then some 1
  else if !hopOk r.hop then some 2
  else if !stationOk r.partner || r.partner == r.station then some 3
  else none

/-! ### The clamped fields -/

/-- A field is named when the value taken differs from the value given (R195). -/
def changedNat (given taken : Nat) : Bool := given != taken

def changedInt (given taken : Int) : Bool := given != taken

/-- A flag, or the end, is named when its value is other than 0 or 1 (R195). -/
def changedFlag (given : Nat) : Bool := decide (1 < given)

def changedCalibration (c : Calibration) : List Bool :=
  [changedInt c.offset (takeCalibration c).offset, changedNat c.slope (takeCalibration c).slope]

/-- Fields 31 to 38, or 39 to 46. -/
def changedProfile (p : ProfileFields) : List Bool :=
  let t := takeProfile p
  [changedNat p.shift t.shift, changedNat p.filter t.filter,
    changedInt p.thresholds.coMain t.thresholds.coMain, changedInt p.thresholds.xMain t.thresholds.xMain,
    changedInt p.thresholds.coDiv t.thresholds.coDiv, changedInt p.thresholds.xDiv t.thresholds.xDiv,
    changedNat p.hysteresis t.hysteresis, changedFlag p.cueOn]

/-- For each field 4 to 62 of the table of R195, in order, whether it is clamped. -/
def changedFields (r : SetupRecord) : List Bool :=
  let t := takeSettings r
  [changedFlag r.hopEnd] ++ changedCalibration r.calibration.detA ++ changedCalibration r.calibration.detB ++
    changedCalibration r.calibration.detC ++ changedCalibration r.calibration.detD ++
    [decide (3 < r.inputs.coMain), decide (3 < r.inputs.xMain), decide (3 < r.inputs.coDiv),
      decide (3 < r.inputs.xDiv), changedFlag r.diversity, changedFlag r.dualPol,
      changedInt r.predictedMain t.predicted.main, changedInt r.predictedDiv t.predicted.div,
      changedNat r.mainTolerance t.mainTolerance, changedNat r.sideDepth t.sideDepth,
      changedNat r.asymmetryLimit t.asymmetryLimit, changedNat r.requiredXpd t.requiredXpd,
      changedNat r.imbalanceLimit t.imbalanceLimit, changedNat r.columns t.geometry.columns,
      changedNat r.rows t.geometry.rows, changedNat r.cellWidth t.geometry.cellWidth,
      changedNat r.cellHeight t.geometry.cellHeight, changedNat r.filterTicks t.filterTicks] ++
    changedProfile r.align ++ changedProfile r.soak ++
    [changedInt r.toneFloor t.toneFloor, changedNat r.toneStep t.toneStep, changedInt r.meterFloor t.meterFloor,
      changedNat r.meterSpan t.meterSpan, changedNat r.modulus t.modulus, false,
      changedNat r.soakMinutes t.soakMinutes, false, false, false, changedFlag r.marginEnable,
      changedNat r.marginStep t.marginStep, changedNat r.marginDwell t.marginDwell,
      changedNat r.requiredMargin t.requiredMargin, false, changedNat r.supplyLow t.supplyLow]

/-- The numbers of the places that hold true, counted from n. -/
def numbersFrom (n : Nat) : List Bool → List Nat
  | [] => []
  | b :: bs => if b then n :: numbersFrom (n + 1) bs else numbersFrom (n + 1) bs

/-- The numbers of the clamped fields, in table order (R195). -/
def clampedFields (r : SetupRecord) : List Nat := numbersFrom 4 (changedFields r)

/-- A pattern list holds eight words (R158, R195). -/
def wordsFit (r : SetupRecord) : Bool :=
  match r.words with
  | none => true
  | some ws => ws.length == 8

/-! ### A request's bytes (R191) -/

/-- A field's bytes and code (the table of R195). -/
inductive FieldKind where
  | u8 | u16 | s16
  deriving DecidableEq, Repr

/-- One field from the front of a body, and the rest. -/
def readField : FieldKind → List Byte → Option (Int × List Byte)
  | .u8, b :: rest => some (b.toNat, rest)
  | .u16, h :: l :: rest => some (nat16 h l, rest)
  | .s16, h :: l :: rest => some (int16 h l, rest)
  | _, _ => none

/-- The fields of a list of kinds, in order, and the rest. -/
def readFields : List FieldKind → List Byte → Option (List Int × List Byte)
  | [], bs => some ([], bs)
  | k :: ks, bs =>
    match readField k bs with
    | none => none
    | some (v, rest) => (readFields ks rest).map fun p => (v :: p.1, p.2)

/-- The kinds of fields 31 to 38 (R195). -/
def profileKinds : List FieldKind := [.u8, .u8, .s16, .s16, .s16, .s16, .u8, .u8]

/-- The kinds of fields 1 to 51 (R195). -/
def headKinds : List FieldKind :=
  [.u8, .u8, .u8, .u8, .s16, .u8, .s16, .u8, .s16, .u8, .s16, .u8, .u8, .u8, .u8, .u8, .u8, .u8, .s16, .s16,
    .u8, .u16, .u8, .u16, .u8, .u8, .u8, .u8, .u8, .u8] ++ profileKinds ++ profileKinds ++
    [.s16, .u8, .s16, .u16, .u16]

/-- The kinds of fields 53 to 62 (R195). -/
def tailKinds : List FieldKind := [.u16, .u16, .u16, .u16, .u8, .u8, .u8, .u8, .u8, .u8]

/-- Field n of a list that begins with field 1. -/
def fieldInt (fs : List Int) (n : Nat) : Int := fs.getD (n - 1) 0

def fieldNat (fs : List Int) (n : Nat) : Nat := (fieldInt fs n).toNat

/-- The calibration whose offset is field n (R195). -/
def calibrationAt (fs : List Int) (n : Nat) : Calibration :=
  { offset := fieldInt fs n, slope := fieldNat fs (n + 1) }

/-- The profile whose first field is field n (R195). -/
def profileAt (fs : List Int) (n : Nat) : ProfileFields :=
  { shift := fieldNat fs n, filter := fieldNat fs (n + 1)
    thresholds :=
      { coMain := fieldInt fs (n + 2), xMain := fieldInt fs (n + 3), coDiv := fieldInt fs (n + 4)
        xDiv := fieldInt fs (n + 5) }
    hysteresis := fieldNat fs (n + 6), cueOn := fieldNat fs (n + 7) }

/-- The record of fields 1 to 51, the word list, and fields 53 to 62 (R195). -/
def recordOf (head : List Int) (words : Option (List (BitVec 16))) (tail : List Int) : SetupRecord :=
  let h := fieldNat head
  let t (n : Nat) : Nat := fieldNat tail (n - 52)
  { station := h 1, hop := h 2, partner := h 3, hopEnd := h 4
    calibration :=
      { detA := calibrationAt head 5, detB := calibrationAt head 7, detC := calibrationAt head 9
        detD := calibrationAt head 11 }
    inputs := { coMain := h 13, xMain := h 14, coDiv := h 15, xDiv := h 16 }
    diversity := h 17, dualPol := h 18, predictedMain := fieldInt head 19, predictedDiv := fieldInt head 20
    mainTolerance := h 21, sideDepth := h 22, asymmetryLimit := h 23, requiredXpd := h 24, imbalanceLimit := h 25
    columns := h 26, rows := h 27, cellWidth := h 28, cellHeight := h 29, filterTicks := h 30
    align := profileAt head 31, soak := profileAt head 39
    toneFloor := fieldInt head 47, toneStep := h 48, meterFloor := fieldInt head 49, meterSpan := h 50
    modulus := h 51, words := words
    soakMinutes := t 53, maxErrored := t 54, maxBad := t 55, maxOutage := t 56, marginEnable := t 57
    marginStep := t 58, marginDwell := t 59, requiredMargin := t 60, attenSources := t 61, supplyLow := t 62 }

/-- Eight pattern words (R195). -/
def readWords (bs : List Byte) : Option (List (BitVec 16) × List Byte) :=
  (readFields (List.replicate 8 FieldKind.u16) bs).map fun p => (p.1.map (BitVec.ofInt 16), p.2)

/-- Field 52 and what follows it (R195). -/
def readWordList : List Byte → Option (Option (List (BitVec 16)) × List Byte)
  | [] => none
  | c :: rest =>
    if c = 0 then some (none, rest)
    else if c = 8 then (readWords rest).map fun p => (some p.1, p.2)
    else none

/-- The record a SETUP body spells; none when the body does not fit (R192, R195). -/
def readRecord (body : List Byte) : Option SetupRecord :=
  match readFields headKinds body with
  | none => none
  | some (head, rest) =>
    match readWordList rest with
    | none => none
    | some (words, rest) =>
      match readFields tailKinds rest with
      | some (tail, []) => some (recordOf head words tail)
      | _ => none

/-- The query kinds without operands (R191). -/
inductive QueryKind where
  | status | levels | position | mapSummary | lobes | verdict | roster | soak | fades | margin | handover
  deriving DecidableEq, Repr

/-- The requests of the site port (R191). -/
inductive Request where
  | setup (record : SetupRecord)
  | query (k : QueryKind)
  | mapCell (column row : Byte)
  | advance (target role : Byte)
  | abort
  | restart
  | zero
  | cue (source : Byte)
  | reports (mask : BitVec 24)
  deriving DecidableEq, Repr

/-- A query kind's byte (R191). -/
def queryOfByte (b : Byte) : Option QueryKind :=
  match b.toNat with
  | 1 => some .status
  | 2 => some .levels
  | 3 => some .position
  | 5 => some .mapSummary
  | 6 => some .lobes
  | 7 => some .verdict
  | 8 => some .roster
  | 9 => some .soak
  | 10 => some .fades
  | 11 => some .margin
  | 12 => some .handover
  | _ => none

/-- A QUERY body (R191). -/
def readQuery : List Byte → Option Request
  | [k] => (queryOfByte k).map .query
  | [k, c, r] => if k = 4 then some (.mapCell c r) else none
  | _ => none

/-- A REPORTS body: bit 0 first, the highest byte first (R191, R194). -/
def readMask : List Byte → Option Request
  | [h, m, l] => some (.reports (BitVec.ofNat 24 (nat24 h m l)))
  | _ => none

/-- The request a type and a body spell; none where the type or the body's shape is undefined (R191, R192;
log 32). -/
def decodeRequest (type : Byte) (body : List Byte) : Option Request :=
  match type.toNat, body with
  | 1, body => (readRecord body).map .setup
  | 2, body => readQuery body
  | 3, [t, r] => some (.advance t r)
  | 4, [] => some .abort
  | 5, [] => some .restart
  | 6, [] => some .zero
  | 7, [c] => some (.cue c)
  | 8, body => readMask body
  | _, _ => none

/-- A message after its start byte, checksum last, whose sum is 0 and whose length fits: its type and body (R191). -/
def soundMessage (m : List Byte) : Option (Byte × List Byte) :=
  match m with
  | h :: l :: type :: rest =>
    if byteSum m = 0 ∧ rest.length = nat16 h l ∧ 1 ≤ rest.length ∧ rest.length ≤ 1024 then
      some (type, rest.take (rest.length - 1))
    else none
  | _ => none

end Sys2Proof.Machine
end

