-- ==== Sys2Proof/Machine/Site.lean ====
section
/-! DEFINITION. The rows of the site port and the two resets: requests, replies, setup, restart, hard reset, and
the output queue (chapters 8 and 11). -/

namespace Sys2Proof.Machine

/-! ### Taking a request -/

/-- A request is taken, or lost to a full output queue (R192, R193). -/
def State.request (handle : State → State) (s : State) : State :=
  let s := { s with site := s.site.hunt }
  if s.site.out.length < outLimit then handle s
  else
    { s with
      site := { s.site with counters := { s.site.counters with overruns := satInc max16 s.site.counters.overruns } } }

/-! ### Queries -/

/-- The QUERY STATUS reply (R34, R102, R147, R164, R192). -/
def State.statusReply (s : State) : StatusReply :=
  { ident := s.ident.reply, cue := s.cue.reply, hop := s.hopReply, source := s.sourceReply, flags := s.site.flags
    mask := s.site.mask, counters := s.site.counters, supplyLow := s.supply.low, configured := s.configured
    second := s.time.now.second }

/-- The QUERY STATUS reply is queued with the flags it will clear (R194). -/
def State.answerStatus (s : State) : State :=
  { s with site := s.site.queueReply (.accepted (.status s.statusReply) s.site.flags) }

/-- One role's figures (R22). -/
def State.roleFigures (s : State) (r : Role) : RoleFigures :=
  let c := s.level.channels.get r
  { input := s.settings.mapping.get r, range := (s.roleInput r).range, level := c.level, admitted := c.admitted
    gated := c.gated, fade := c.cmp.state }

/-- The QUERY LEVELS reply (R22). -/
def State.levelsReply (s : State) : LevelsReply :=
  { roles :=
      { coMain := s.roleFigures .coMain, xMain := s.roleFigures .xMain, coDiv := s.roleFigures .coDiv
        xDiv := s.roleFigures .xDiv }
    warnings :=
      { detA := s.level.inputs.detA.warning, detB := s.level.inputs.detB.warning
        detC := s.level.inputs.detC.warning, detD := s.level.inputs.detD.warning }
    steering := s.level.steering, gate := identGates s.ident.state
    xpdMain := s.level.xpd .main, xpdDiv := s.level.xpd .div, diversity := s.level.diversityDifference }

/-- The request types (R191). -/
def typeSetup : Byte := 0x01
def typeQuery : Byte := 0x02
def typeAdvance : Byte := 0x03
def typeAbort : Byte := 0x04
def typeRestart : Byte := 0x05
def typeZero : Byte := 0x06
def typeCue : Byte := 0x07
def typeReports : Byte := 0x08

/-- QUERY LOBES: BUSY while an analysis runs (R86). -/
def State.answerLobes (s : State) : State :=
  if s.lobe.state = .running then s.refuse typeQuery .busy else s.accept (.lobes s.lobesReply)

/-- QUERY MAP CELL: BAD_FIELD outside the map (R63). -/
def State.answerMapCell (column row : Nat) (s : State) : State :=
  if column < s.settings.geometry.columns ∧ row < s.settings.geometry.rows then
    s.accept (.mapCell (s.mapCellReply column row))
  else s.refuse typeQuery .badField

/-- QUERY_STATUS (R192). -/
def execQueryStatus (s : State) : Result := .next (s.request State.answerStatus)

/-- QUERY_LEVELS (R22). -/
def execQueryLevels (s : State) : Result := .next (s.request fun s => s.accept (.levels s.levelsReply))

/-- The QUERY POSITION request (R43). -/
def State.answerPosition (s : State) : State := s.accept (.position (s.pos.reply s.settings.filterTicks))

/-- QUERY_POSITION (R43). -/
def execQueryPosition (s : State) : Result := .next (s.request State.answerPosition)

/-- QUERY_MAP_CELL (R63). -/
def execQueryMapCell (column row : Byte) (s : State) : Result :=
  .next (s.request (State.answerMapCell column.toNat row.toNat))

/-- QUERY_MAP_SUMMARY (R64). -/
def execQueryMapSummary (s : State) : Result :=
  .next (s.request fun s => s.accept (.mapSummary s.mapSummaryReply))

/-- QUERY_LOBES (R86). -/
def execQueryLobes (s : State) : Result := .next (s.request State.answerLobes)

/-- QUERY_VERDICT (R87). -/
def execQueryVerdict (s : State) : Result := .next (s.request fun s => s.accept (.verdict s.lobe.reply))

/-- QUERY_ROSTER (R116). -/
def execQueryRoster (s : State) : Result := .next (s.request fun s => s.accept (.roster s.rosterReply))

/-- QUERY_SOAK (R189). -/
def execQuerySoak (s : State) : Result := .next (s.request fun s => s.accept (.soak s.soakReply))

/-- QUERY_FADES (R189). -/
def execQueryFades (s : State) : Result := .next (s.request fun s => s.accept (.fades s.fadesReply))

/-- QUERY_MARGIN (R189). -/
def execQueryMargin (s : State) : Result := .next (s.request fun s => s.accept (.margin s.marginReply))

/-- QUERY_HANDOVER (R199). -/
def execQueryHandover (s : State) : Result := .next (s.request fun s => s.accept (.handover s.handover))

/-! ### Setup -/

/-- REFUSED for a SETUP, with its field number (R191). -/
def State.refuseSetup (reason : RefuseReason) (field : Nat) (s : State) : State :=
  { s with site := s.site.queueReply (.refused typeSetup reason (some field)) }

/-- A record's fields take effect in their blocks (R196). -/
def State.takeRecord (r : SetupRecord) (s : State) : State :=
  let st := takeSettings r
  { s with
    settings := st, station := some (takeStation r), level := s.level.restartChannels
    pos := s.pos.clearCandidates, cue := s.cue.newModulus, supply := s.supply.newLevel (supplyLevel st.supplyLow) }

/-- Acceptance of a record; a line that has run its filter time under the old N passes first (R37, R46, R115, R121,
R196; log 3). -/
def State.acceptRecord (r : SetupRecord) (s : State) : State :=
  ((s.settleLines.takeRecord r).settleRoster (takeStation r)).sendStatus

/-- The SETUP request (R192, R195, R196). -/
def State.answerSetup (r : SetupRecord) (s : State) : State :=
  if !wordsFit r then s.refuseSetup .badField 0
  else if s.configured then s.refuseSetup .notNow 0
  else
    match fatalField r with
    | some n => s.refuseSetup .badField n
    | none => (s.accept (.setup (clampedFields r))).acceptRecord r

/-- SETUP (R195). -/
def execSetup (record : SetupRecord) (s : State) : Result := .next (s.request (State.answerSetup record))

/-! ### Advance, abort, zero, cue, reports -/

/-- The refusal of a failed precondition (check 7 of R130). -/
def refusalOf : DeclineReason → RefuseReason
  | .notReady => .notReady
  | .notConfirmed => .notConfirmed
  | _ => .notLegal

/-- The checks of R130 on a well-coded request: the refusal, or none. -/
def State.advanceRefusal (target : Phase) (role : Antenna) (s : State) : Option RefuseReason :=
  if !s.configured then some .unconfigured
  else if target = .sweep ∧ role = .div ∧ s.settings.diversity = false then some .badField
  else if s.hop.outstanding.isSome then some .proposalPending
  else if s.route.conflict then some .endsConflict
  else if s.route.partner = .lost then some .partnerLost
  else if !legalSuccessor s.settings.marginEnabled s.hop.phase target then some .notLegal
  else (s.precondition target).map refusalOf

/-- An ADVANCE whose bytes are codes (R130, R131). -/
def State.advance (target : Phase) (role : Antenna) (s : State) : State :=
  match s.advanceRefusal target role with
  | some reason => s.refuse typeAdvance reason
  | none => (s.accept (.advance s.hop.nextNumber target)).propose target role false

/-- The ADVANCE request; a byte that is no code is BAD_FIELD before the checks (R130, R192; log 32). -/
def State.answerAdvance (target role : Byte) (s : State) : State :=
  match Phase.ofCode target.toNat, Antenna.ofCode role.toNat with
  | some t, some r => s.advance t r
  | _, _ => s.refuse typeAdvance .badField

/-- ADVANCE (R130). -/
def execAdvance (target role : Byte) (s : State) : Result := .next (s.request (State.answerAdvance target role))

/-- The ABORT request (R141). -/
def State.answerAbort (s : State) : State :=
  if !s.configured then s.refuse typeAbort .unconfigured
  else if s.hop.phase = .halted then s.accept .abort
  else (s.accept .abort).halt .operator

/-- ABORT (R141). -/
def execAbort (s : State) : Result := .next (s.request State.answerAbort)

/-- The ZERO request (R44). -/
def State.answerZero (s : State) : State :=
  if s.hop.phase = .sweep then s.refuse typeZero .notNow else { s.accept .zero with pos := s.pos.zero }

/-- ZERO (R44). -/
def execZero (s : State) : Result := .next (s.request State.answerZero)

/-- The source a CUE byte names (R90, R191). -/
def cueSourceOf (b : Byte) : Option CueSource :=
  match b.toNat with
  | 0 => some .steer
  | 1 => some .partner
  | 2 => some .relative
  | _ => none

/-- The CUE request (R90). -/
def State.answerCue (b : Byte) (s : State) : State :=
  match cueSourceOf b with
  | none => s.refuse typeCue .badField
  | some c => { s.accept (.cue c) with cue := { s.cue with source := c } }

/-- CUE (R90). -/
def execCue (source : Byte) (s : State) : Result := .next (s.request (State.answerCue source))

/-- The REPORTS request: bits 19 to 23 must be clear (R194). -/
def State.answerReports (mask : BitVec 24) (s : State) : State :=
  if mask.toNat < 2 ^ 19 then
    let m := BitVec.ofNat 19 mask.toNat
    { s with site := { s.site with mask := m } }.accept (.reports m)
  else s.refuse typeReports .badField

/-- REPORTS (R194). -/
def execReports (mask : BitVec 24) (s : State) : Result := .next (s.request (State.answerReports mask))

/-! ### Resets -/

/-- The site port at a restart: queue emptied, framer hunting, the rest kept (R201). -/
def Site.restart (p : Site) : Site := { p with framer := .hunting, out := [] }

/-- The exit from HANDOVER that a restart makes (R200, R201; log 12). -/
def State.leaveByRestart (s : State) : State := if s.hop.phase = .handover then s.handoverIncomplete else s

/-- Every block's state after a restart (R24, R47, R66, R89, R103, R125, R149, R165, R190, R201). -/
def State.restartBlocks (s : State) : State :=
  { s with
    level := s.level.restart, ident := .cleared, pos := s.pos.restart, map := .empty, lobe := .reset
    cue := Cue.reset s.settings.modulus, route := s.route.restart, hop := s.hop.restart, src := s.src.restart
    chk := .reset, soak := .reset, margin := .reset, site := s.site.restart }

/-- The RESTART request (R125, R149, R201). -/
def State.answerRestart (s : State) : State :=
  if s.configured then (s.leaveByRestart.restartBlocks.accept .restart).sendStatus
  else s.refuse typeRestart .unconfigured

/-- RESTART (R201). -/
def execRestart (s : State) : Result := .next (s.request State.answerRestart)

/-- A line's raw level outlives a hard reset (log 8). -/
def LineState.hardReset (l : LineState) : LineState := { LineState.reset with raw := l.raw }

/-- An axis after a hard reset, its pins as they stand (R47; log 8). -/
def AxisState.hardReset (x : AxisState) : AxisState :=
  { AxisState.reset with lineA := x.lineA.hardReset, lineB := x.lineB.hardReset }

/-- The supply watch after a hard reset: NORMAL, the debounce afresh (R198; log 8). -/
def Supply.hardReset (x : Supply) : Supply :=
  { low := false, debounce := supplyDebounce false (supplyCondition false (supplyLevel 0) x.sense) none
    sense := x.sense }

/-- The state after a hard reset: State.reset, with the input pins, the waiting commands and the count of draws as
they stand (R125, R148, R201; log 6, 8). -/
def State.hardReset (s : State) : State :=
  { State.reset with
    pending := s.pending, draws := s.draws
    pos := { Position.reset with axes := s.pos.axes.map AxisState.hardReset }
    route := { Route.reset with carrierBusy := s.route.carrierBusy }
    src := { Source.reset with sync := s.src.sync.hardReset }
    supply := s.supply.hardReset }

/-- HARD_RESET (R148). -/
def execHardReset (s : State) : Result := .next s.hardReset

/-! ### Other messages -/

/-- A whole request goes to its handler (R192). -/
def State.handleRequest (r : Request) (s : State) : State :=
  match r with
  | .setup record => s.answerSetup record
  | .query .status => s.answerStatus
  | .query .levels => s.accept (.levels s.levelsReply)
  | .query .position => s.answerPosition
  | .query .mapSummary => s.accept (.mapSummary s.mapSummaryReply)
  | .query .lobes => s.answerLobes
  | .query .verdict => s.accept (.verdict s.lobe.reply)
  | .query .roster => s.accept (.roster s.rosterReply)
  | .query .soak => s.accept (.soak s.soakReply)
  | .query .fades => s.accept (.fades s.fadesReply)
  | .query .margin => s.accept (.margin s.marginReply)
  | .query .handover => s.accept (.handover s.handover)
  | .mapCell c r => s.answerMapCell c.toNat r.toNat
  | .advance t r => s.answerAdvance t r
  | .abort => s.answerAbort
  | .restart => s.answerRestart
  | .zero => s.answerZero
  | .cue b => s.answerCue b
  | .reports m => s.answerReports m

/-- BAD_FIELD for a message that spells no request; a SETUP names field 0 (R191, R192). -/
def State.refuseUnknown (type : Byte) (s : State) : State :=
  if type = typeSetup then s.refuseSetup .badField 0 else s.refuse type .badField

/-- A message that passed the checksum: the request it spells, or BAD_FIELD (R192; log 17, 32). -/
def State.answerMessage (type : Byte) (body : List Byte) (s : State) : State :=
  match decodeRequest type body with
  | some r => s.handleRequest r
  | none => s.refuseUnknown type

/-- UNKNOWN_REQUEST (R192). -/
def execUnknownRequest (type : Byte) (body : List Byte) (s : State) : Result :=
  .next (s.request (State.answerMessage type body))

/-- A checksum error is counted (R191, R193). -/
def Site.countChecksum (p : Site) : Site :=
  { p with counters := { p.counters with checksum := satInc max16 p.counters.checksum } }

/-- A length byte pair outside 1..1024 (R191). -/
def Site.framing (length : Nat) (p : Site) : Site :=
  if length = 0 ∨ 1024 < length then p.hunt.countMalformed else p

/-- SITE_FRAMING_ERROR (R191). -/
def execSiteFramingError (length : Nat) (s : State) : Result := .next { s with site := s.site.framing length }

/-- The bytes after the start byte reach a length outside 1..1024 (R191). -/
def lengthBad : List Byte → Bool
  | [h, l] => decide (nat16 h l = 0) || decide (1024 < nat16 h l)
  | _ => false

/-- The bytes after the start byte are a whole message: two of length, what they announce, the checksum (R191). -/
def messageWhole : List Byte → Bool
  | h :: l :: rest => decide (rest.length = nat16 h l + 1)
  | _ => false

/-- A message taken whole: counted when its sum is not 0, a request otherwise (R191, R192). -/
def State.takeMessage (message : List Byte) (s : State) : State :=
  match soundMessage message with
  | some m => s.request (State.answerMessage m.1 m.2)
  | none => { s with site := s.site.hunt.countChecksum }

/-- One character while a message is being taken (R191). -/
def State.takeMessageByte (bytes : List Byte) (s : State) : State :=
  if lengthBad bytes then { s with site := s.site.hunt.countMalformed }
  else if messageWhole bytes then s.takeMessage bytes
  else { s with site := { s.site with framer := .taking bytes longestGap } }

/-- One character on the site port's line: a start byte begins a message, others join it (R191). -/
def State.takeSiteCharacter (s : State) (b : Byte) : State :=
  match s.site.framer with
  | .hunting => if b = 0xA7 then { s with site := { s.site with framer := .taking [] longestGap } } else s
  | .taking bytes _ => s.takeMessageByte (bytes ++ [b])

/-- Characters on the site port's line, one after another (R191). -/
def State.takeSiteCharacters (bytes : List Byte) (s : State) : State := bytes.foldl State.takeSiteCharacter s

/-- SITE_GAP_TIMEOUT: a cut, and the character that is examined afresh; no gap passes before its time (R191; log 5,
17). -/
def execSiteGapTimeout (cut : LineCut) (s : State) : Result :=
  .next
    (if s.site.framer.cutBy cut.cause then { s with site := s.site.gap }.takeSiteCharacters cut.next.toList else s)

/-- SITE_CHECKSUM_ERROR: the characters that arrive (R191, R192; log 17). -/
def execSiteChecksumError (characters : List Byte) (s : State) : Result :=
  .next (s.takeSiteCharacters characters)

/-- The flags a message clears as its first byte is sent (R194). -/
def SiteMessage.cleared : SiteMessage → List EventFlag
  | .accepted _ clears => clears
  | .refused _ _ _ => []
  | .report _ => []

/-- The head of the output queue is sent (R193, R194). -/
def Site.transmit (p : Site) : Site :=
  match p.out with
  | [] => p
  | m :: rest =>
    { p with out := rest, sending := some m, flags := p.flags.filter fun f => !(m.cleared.contains f) }

/-- SITE_MESSAGE_TRANSMIT (R193). -/
def execSiteMessageTransmit (s : State) : Result := .next { s with site := s.site.transmit }

end Sys2Proof.Machine
end

