-- ==== Sys2Proof/Machine/Dispatch.lean ====
section
/-! DEFINITION. One arm per command of the opcode table. -/

namespace Sys2Proof.Machine

def exec (i : Instr) (s : State) : Host.Outcome State Fault Refusal :=
  match i with
  | .hardReset => Sys2Proof.Machine.execHardReset s
  | .sampleEvent codes => Sys2Proof.Machine.execSampleEvent codes s
  | .rangeWarningClear input => Sys2Proof.Machine.execRangeWarningClear input s
  | .fadeStart r level => Sys2Proof.Machine.execFadeStart r level s
  | .fadeEnd r level => Sys2Proof.Machine.execFadeEnd r level s
  | .blockClose level => Sys2Proof.Machine.execBlockClose level s
  | .encoderTransition x => Sys2Proof.Machine.execEncoderTransition x s
  | .analysisComplete => Sys2Proof.Machine.execAnalysisComplete s
  | .verdictRepeat => Sys2Proof.Machine.execVerdictRepeat s
  | .cueUpdate => Sys2Proof.Machine.execCueUpdate s
  | .staleCadence => Sys2Proof.Machine.execStaleCadence s
  | .foreignCadence => Sys2Proof.Machine.execForeignCadence s
  | .toneToggle => Sys2Proof.Machine.execToneToggle s
  | .meterPeriodStart => Sys2Proof.Machine.execMeterPeriodStart s
  | .setup record => Sys2Proof.Machine.execSetup record s
  | .queryStatus => Sys2Proof.Machine.execQueryStatus s
  | .queryLevels => Sys2Proof.Machine.execQueryLevels s
  | .queryPosition => Sys2Proof.Machine.execQueryPosition s
  | .queryMapCell column row => Sys2Proof.Machine.execQueryMapCell column row s
  | .queryMapSummary => Sys2Proof.Machine.execQueryMapSummary s
  | .queryLobes => Sys2Proof.Machine.execQueryLobes s
  | .queryVerdict => Sys2Proof.Machine.execQueryVerdict s
  | .queryRoster => Sys2Proof.Machine.execQueryRoster s
  | .querySoak => Sys2Proof.Machine.execQuerySoak s
  | .queryFades => Sys2Proof.Machine.execQueryFades s
  | .queryMargin => Sys2Proof.Machine.execQueryMargin s
  | .queryHandover => Sys2Proof.Machine.execQueryHandover s
  | .advance target role => Sys2Proof.Machine.execAdvance target role s
  | .abort => Sys2Proof.Machine.execAbort s
  | .restart => Sys2Proof.Machine.execRestart s
  | .zero => Sys2Proof.Machine.execZero s
  | .cue source => Sys2Proof.Machine.execCue source s
  | .reports mask => Sys2Proof.Machine.execReports mask s
  | .unknownRequest type body => Sys2Proof.Machine.execUnknownRequest type body s
  | .siteFramingError length => Sys2Proof.Machine.execSiteFramingError length s
  | .siteGapTimeout cut => Sys2Proof.Machine.execSiteGapTimeout cut s
  | .siteChecksumError characters => Sys2Proof.Machine.execSiteChecksumError characters s
  | .siteMessageTransmit => Sys2Proof.Machine.execSiteMessageTransmit s
  | .routeFrameDiscarded bytes => Sys2Proof.Machine.execRouteFrameDiscarded bytes s
  | .routeGapTimeout cut => Sys2Proof.Machine.execRouteGapTimeout cut s
  | .receiveStatus h b => Sys2Proof.Machine.execReceiveStatus h b s
  | .receiveLevel h b => Sys2Proof.Machine.execReceiveLevel h b s
  | .receivePropose h b => Sys2Proof.Machine.execReceivePropose h b s
  | .receiveAnswer h b => Sys2Proof.Machine.execReceiveAnswer h b s
  | .receiveVerdict h b => Sys2Proof.Machine.execReceiveVerdict h b s
  | .receiveDigest h b => Sys2Proof.Machine.execReceiveDigest h b s
  | .mtestStep h b => Sys2Proof.Machine.execMtestStep h b s
  | .mtestLimit h b => Sys2Proof.Machine.execMtestLimit h b s
  | .mtestDone h b => Sys2Proof.Machine.execMtestDone h b s
  | .carrierBusyHigh => Sys2Proof.Machine.execCarrierBusyHigh s
  | .carrierBusyLow => Sys2Proof.Machine.execCarrierBusyLow s
  | .guardComplete => Sys2Proof.Machine.execGuardComplete s
  | .backoffSlotEnd => Sys2Proof.Machine.execBackoffSlotEnd s
  | .transmissionComplete => Sys2Proof.Machine.execTransmissionComplete s
  | .statusTimerExpiry => Sys2Proof.Machine.execStatusTimerExpiry s
  | .levelTimerExpiry => Sys2Proof.Machine.execLevelTimerExpiry s
  | .answerTimeout => Sys2Proof.Machine.execAnswerTimeout s
  | .entryHoldExpiry => Sys2Proof.Machine.execEntryHoldExpiry s
  | .automaticTimerExpiry => Sys2Proof.Machine.execAutomaticTimerExpiry s
  | .secondEvent => Sys2Proof.Machine.execSecondEvent s
  | .keyingEdge => Sys2Proof.Machine.execKeyingEdge s
  | .syncPin => Sys2Proof.Machine.execSyncPin s
  | .syncWordFound => Sys2Proof.Machine.execSyncWordFound s
  | .patternWordComplete => Sys2Proof.Machine.execPatternWordComplete s
  | .wordIntervalEnd => Sys2Proof.Machine.execWordIntervalEnd s
  | .digestTimerExpiry => Sys2Proof.Machine.execDigestTimerExpiry s
  | .dwellExpiry => Sys2Proof.Machine.execDwellExpiry s
  | .marginStepWrite => Sys2Proof.Machine.execMarginStepWrite s
  | .stepAnnounce => Sys2Proof.Machine.execStepAnnounce s
  | .doneRepeat => Sys2Proof.Machine.execDoneRepeat s
  | .silenceAbort => Sys2Proof.Machine.execSilenceAbort s
  | .supplyCrossing millivolts => Sys2Proof.Machine.execSupplyCrossing millivolts s
  | .supplyDebounceExpiry => Sys2Proof.Machine.execSupplyDebounceExpiry s
  | .encoderLineChange x l high => Sys2Proof.Machine.execEncoderLineChange x l high s
  | .syncInputChange high => Sys2Proof.Machine.execSyncInputChange high s
  | .syncFilteredFall => Sys2Proof.Machine.execSyncFilteredFall s
  | .patternClockEdge bit => Sys2Proof.Machine.execPatternClockEdge bit s

end Sys2Proof.Machine
end

