-- ==== Sys2Proof/WellFormed.lean ====
section
/-! DEFINITION. The ranges of the commands' operands: what the converters, the byte layouts of R106, R191 and
R195 and the framers can deliver. exec gives every command a meaning, well-formed or not. -/

namespace Sys2Proof

/-- A detector code is an integer 0..4095 (R1). -/
def codeOk (c : Nat) : Bool := decide (c ≤ 4095)

/-- A converted sample level lies in -1200..-100 (R4). -/
def levelOk (l : Level) : Bool := decide (-1200 ≤ l) && decide (l ≤ -100)

/-- A field of one unsigned byte (R195). -/
def byteOk (n : Nat) : Bool := decide (n ≤ 255)

/-- A field of two unsigned bytes (R195). -/
def wordOk (n : Nat) : Bool := decide (n ≤ 65535)

def Calibration.fits (c : Calibration) : Bool := fits16 c.offset && byteOk c.slope

def ProfileFields.fits (p : ProfileFields) : Bool :=
  byteOk p.shift && byteOk p.filter && p.thresholds.all fits16 && byteOk p.hysteresis && byteOk p.cueOn

/-- A record whose fields fit the bytes the table of R195 gives them; its word list, when given, holds eight
words. -/
def SetupRecord.wellFormed (r : SetupRecord) : Bool :=
  [r.station, r.hop, r.partner, r.hopEnd, r.diversity, r.dualPol, r.mainTolerance, r.asymmetryLimit,
    r.imbalanceLimit, r.columns, r.rows, r.cellWidth, r.cellHeight, r.filterTicks, r.toneStep,
    r.marginEnable, r.marginStep, r.marginDwell, r.requiredMargin, r.attenSources, r.supplyLow].all byteOk &&
  [r.sideDepth, r.requiredXpd, r.meterSpan, r.modulus, r.soakMinutes, r.maxErrored, r.maxBad,
    r.maxOutage].all wordOk &&
  [r.predictedMain, r.predictedDiv, r.toneFloor, r.meterFloor].all fits16 &&
  r.calibration.all Calibration.fits && r.inputs.all byteOk && r.align.fits && r.soak.fits &&
  (match r.words with | none => true | some ws => decide (ws.length = 8))

/-- The operand ranges of each command. -/
def Instr.wellFormed : Instr → Bool
  | .hardReset => true
  | .sampleEvent codes => codes.all codeOk
  | .rangeWarningClear _ => true
  | .fadeStart _ level => levelOk level
  | .fadeEnd _ level => levelOk level
  | .blockClose level => levelOk level
  | .encoderTransition _ => true
  | .analysisComplete => true
  | .verdictRepeat => true
  | .cueUpdate => true
  | .staleCadence => true
  | .foreignCadence => true
  | .toneToggle => true
  | .meterPeriodStart => true
  | .setup record => record.wellFormed
  | .queryStatus => true
  | .queryLevels => true
  | .queryPosition => true
  | .queryMapCell _ _ => true
  | .queryMapSummary => true
  | .queryLobes => true
  | .queryVerdict => true
  | .queryRoster => true
  | .querySoak => true
  | .queryFades => true
  | .queryMargin => true
  | .queryHandover => true
  | .advance _ _ => true
  | .abort => true
  | .restart => true
  | .zero => true
  | .cue _ => true
  | .reports _ => true
  | .unknownRequest _ body => decide (body.length ≤ 1023)
  | .siteFramingError length => wordOk length
  | .siteGapTimeout _ => true
  | .siteChecksumError characters => decide (1 ≤ characters.length) && decide (characters.length ≤ 1028)
  | .siteMessageTransmit => true
  | .routeFrameDiscarded bytes => decide (1 ≤ bytes.length) && decide (bytes.length ≤ 36)
  | .routeGapTimeout _ => true
  | .receiveStatus h b => h.wellFormed && b.wellFormed
  | .receiveLevel h b => h.wellFormed && b.wellFormed
  | .receivePropose h b => h.wellFormed && b.wellFormed
  | .receiveAnswer h b => h.wellFormed && b.wellFormed
  | .receiveVerdict h b => h.wellFormed && b.wellFormed
  | .receiveDigest h b => h.wellFormed && b.wellFormed
  | .mtestStep h b => h.wellFormed && b.wellFormed
  | .mtestLimit h b => h.wellFormed && b.wellFormed
  | .mtestDone h b => h.wellFormed && b.wellFormed
  | .carrierBusyHigh => true
  | .carrierBusyLow => true
  | .guardComplete => true
  | .backoffSlotEnd => true
  | .transmissionComplete => true
  | .statusTimerExpiry => true
  | .levelTimerExpiry => true
  | .answerTimeout => true
  | .entryHoldExpiry => true
  | .automaticTimerExpiry => true
  | .secondEvent => true
  | .keyingEdge => true
  | .syncPin => true
  | .syncWordFound => true
  | .patternWordComplete => true
  | .wordIntervalEnd => true
  | .digestTimerExpiry => true
  | .dwellExpiry => true
  | .marginStepWrite => true
  | .stepAnnounce => true
  | .doneRepeat => true
  | .silenceAbort => true
  | .supplyCrossing _ => true
  | .supplyDebounceExpiry => true
  | .encoderLineChange _ _ _ => true
  | .syncInputChange _ => true
  | .syncFilteredFall => true
  | .patternClockEdge _ => true

end Sys2Proof
end

