-- ==== Sys2Proof/Safety.lean ====
section
/-! DEFINITION. What the statements speak of: when nothing is due, when a frame reaches its block, the rows of a
frame, and the invariants that every step keeps. -/

namespace Sys2Proof.Machine

/-! ### Conditions on a state and a command -/

/-- No event is due: the next sample event finds nothing still to be taken (log 3). -/
def Quiet (s : State) : Prop := s.settle = s

/-- No event is due but, it may be, a gap that has passed on a line (log 3). -/
def GapsAside (s : State) : Prop := s.settleEvents = s

/-- No event that ticks bring about is due (log 3). -/
def TickQuiet (s : State) : Prop := s.settleTick = s

/-- There is room in the output queue, so that a request is taken (R193). -/
def Room (s : State) : Prop := s.site.out.length < 8

/-- The head can hear frames: it is not transmitting (R105). -/
def Listening (s : State) : Prop := s.route.contention ≠ .sending

/-- The header is of a frame from the partner that is addressed to this station or to every station, and the head
can hear it (R109, R111). -/
def Delivered (st : Station) (h : Header) (s : State) : Prop :=
  s.station = some st ∧ Listening s ∧ h.wellFormed = true ∧ h.source = st.partner ∧ st.partner ≠ st.number ∧
    (h.dest = 0 ∨ h.dest = st.number)

/-- The row of the opcode table that names the arrival of a frame of each kind (R106, R111). -/
def receiveRow (f : Frame) : Instr :=
  match f.body with
  | .status b => .receiveStatus f.header b
  | .level b => .receiveLevel f.header b
  | .propose b => .receivePropose f.header b
  | .answer b => .receiveAnswer f.header b
  | .verdict b => .receiveVerdict f.header b
  | .digest b => .receiveDigest f.header b
  | .mtest .step b => .mtestStep f.header b
  | .mtest .limit b => .mtestLimit f.header b
  | .mtest .done b => .mtestDone f.header b

/-- The rows that are requests of the site port (R191). -/
def isRequest : Instr → Bool
  | .setup _ => true
  | .queryStatus => true
  | .queryLevels => true
  | .queryPosition => true
  | .queryMapCell _ _ => true
  | .queryMapSummary => true
  | .queryLobes => true
  | .queryVerdict => true
  | .queryRoster => true
  | .querySoak => true
  | .queryFades => true
  | .queryMargin => true
  | .queryHandover => true
  | .advance _ _ => true
  | .abort => true
  | .restart => true
  | .zero => true
  | .cue _ => true
  | .reports _ => true
  | .unknownRequest _ _ => true
  | _ => false

/-- The sample level of a role under a set of codes (R4, R6). -/
def roleSample (s : State) (codes : ByInput Nat) (r : Role) : Level :=
  let i := s.settings.mapping.get r
  convert (s.settings.calibration.get i) (codes.get i)

/-- The gate skips a role's sample: it is the steering channel's, the gate is active, and the sample lies below
the decision level (R9). -/
def Skipped (s : State) (r : Role) (x : Level) : Prop :=
  r = steeringRole s.level.steering ∧ identGates s.ident.state = true ∧ ∃ d, s.ident.decision = some d ∧ x < d

/-! ### The blocks after a reset -/

/-- The stopped identifier, everything cleared (R23, R24). -/
def identCleared : Identifier :=
  { running := false, blockCount := 0, blockMax := none, blockMin := none, closed := [], swing := none
    decision := none, below := 0, lastRise := none, ring := [], state := .noKeying }

/-- The EMPTY map (R66). -/
def mapCleared : AlignMap :=
  { state := .empty, cells := [], visits := 0, best := none, role := none, outside := 0, foreign := 0
    saturated := 0, range := 0
    slips := { az := { flag := false, mark := none }, el := { flag := false, mark := none } } }

/-- The analyser after either reset (R89). -/
def analyserCleared : Analyser :=
  { state := .notRun, elapsed := 0, id := none, list := [], overflow := 0, own := none, held := none
    result := .none, confirmed := { main := false, div := false }, kept := { main := none, div := none }
    ignored := 0, repeatTimer := none }

/-- The cue unit after either reset, and what QUERY STATUS shows of it until the first update (R103; log 13). -/
def cueCleared (modulus : Nat) : Cue :=
  { source := .steer, updateTimer := 0, updateDue := false, tone := .tone, cadence := 0, cadenceDue := false
    stagedHalf := 640, liveHalf := 640, halfCounter := 0, output := false, generator := .sounding
    periodCounter := 0, periodDue := false, stagedDuty := 0, liveDuty := 0, used := none
    shown :=
      { source := .steer, tone := .tone, cadence := 0, stagedHalf := 640, modulus := modulus, stagedDuty := 0
        used := none, reference := none, age := none } }

/-- The frame counters after a hard reset (R124). -/
def countersCleared : RouteCounters :=
  { sent := 0, good := 0, crcErrors := 0, malformed := 0, truncated := 0, clashes := 0, dropped := 0
    replacements := 0 }

/-- The coordinator after a hard reset (R148). -/
def coordinatorCleared : Coordinator :=
  { phase := .idle, haltCause := none, profile := .align, nextNumber := 1, outstanding := none, answerTimer := none
    failed := none, lastAnswered := none, lastAccepted := none, entryHold := none, leftPhase := none, mismatch := 0
    autoTimer := none, serial := 0, ignored := 0 }

/-- The test source after either reset, its sync input at these levels (R165; the keying output off: log 7). -/
def sourceCleared (sync : LineState) : Source :=
  { beacon := { live := .off, staged := .off, pending := false }
    atten := { live := 0, staged := 0, pending := false }
    pattern := { live := false, staged := false, pending := false }
    keyOut := false, keyCount := 0, edgeDue := false, sync := sync, genWord := 0, genBit := 15, genOut := false }

/-- The counts of a second that has just begun (R163). -/
def totalsCleared : Totals := { intervals := 0, notLocked := 0, bitsChecked := 0, bitErrors := 0, slips := 0 }

/-- The pattern checker after either reset (R165; the window and the word's counts: log 7). -/
def checkerCleared : Checker :=
  { state := .hunt, window := 0, sinceHunt := 0, wordBits := 0, expected := 0, confirm := 0, hits := 0
    intervalBits := 0, totals := totalsCleared, lockCount := 0, slipCount := 0, latest := none }

/-- A role's fade record after either reset (R190). -/
def fadesCleared : FadeRecord := { openFade := none, count := 0, total := 0, longest := 0, deepest := none }

/-- The soak recorder after either reset (R190). -/
def soakCleared : Soak :=
  { state := .notStarted, settling := 0, elapsed := 0, availability := .available, pending := [], clean := 0
    errored := 0, bad := 0, outage := 0, suspect := 0, lowSeen := false, periods := 0, currentOutage := 0
    longestOutage := 0, verdict := none, latest := none
    fades := { coMain := fadesCleared, xMain := fadesCleared, coDiv := fadesCleared, xDiv := fadesCleared }
    joint := 0, list := [], discards := 0, digestTimer := none, partnerDigest := none }

/-- The margin procedure after either reset (R190). -/
def marginCleared : Margin :=
  { states := { one := .notBegun, two := .notBegun }, current := none, stepIndex := 0, announced := 0, dwell := 0
    stepDue := false, announceDue := false, heard := 0, latched := none, results := { one := none, two := none }
    acknowledged := { one := false, two := false }, doneTimer := none, doneBody := none, silence := 0 }

/-! ### The map's geometry -/

/-- A geometry as the Setup Record can set it: even counts of columns and rows, cells of at least one encoder count
(R48). -/
def GeometrySound (g : Geometry) : Prop :=
  g.columns % 4 = 0 ∧ 8 ≤ g.columns ∧ g.columns ≤ 32 ∧ g.rows % 2 = 0 ∧ 4 ≤ g.rows ∧ g.rows ≤ 16 ∧
    1 ≤ g.cellWidth ∧ g.cellWidth ≤ 64 ∧ 1 ≤ g.cellHeight ∧ g.cellHeight ≤ 64

/-- The counts that cell p covers (R49). -/
def CellCovers (g : Geometry) (p : CellPos) (az el : Int) : Prop :=
  let left : Int := p.column - (g.columns / 2 : Nat)
  let low : Int := p.row - (g.rows / 2 : Nat)
  p.column < g.columns ∧ p.row < g.rows ∧ left * g.cellWidth ≤ az ∧ az ≤ (left + 1) * g.cellWidth - 1 ∧
    low * g.cellHeight ≤ el ∧ el ≤ (low + 1) * g.cellHeight - 1

/-- The counts that the map as a whole covers (R49). -/
def MapCovers (g : Geometry) (az el : Int) : Prop :=
  let halfWidth : Int := (g.columns / 2 * g.cellWidth : Nat)
  let halfHeight : Int := (g.rows / 2 * g.cellHeight : Nat)
  az ≤ halfWidth - 1 ∧ -halfWidth ≤ az ∧ el ≤ halfHeight - 1 ∧ -halfHeight ≤ el

/-- A geometry places every snapshot in the cell that covers it, and outside where the map does not cover it (R49). -/
def PlacesByRule (g : Geometry) : Prop :=
  ∀ az el : Int,
    (∀ p, g.place az el = some p ↔ CellCovers g p az el) ∧ (g.place az el = none ↔ ¬ MapCovers g az el)

/-! ### The bytes of a Setup Record -/

/-- A SETUP body: the fields in the order of the table of R195, each in the bytes that the table gives it. -/
def setupBody (r : SetupRecord) : List Byte :=
  let b (n : Nat) : List Byte := [BitVec.ofNat 8 n]
  let calibration (c : Calibration) : List Byte := i16 c.offset ++ b c.slope
  let profile (p : ProfileFields) : List Byte :=
    b p.shift ++ b p.filter ++ i16 p.thresholds.coMain ++ i16 p.thresholds.xMain ++ i16 p.thresholds.coDiv ++
      i16 p.thresholds.xDiv ++ b p.hysteresis ++ b p.cueOn
  let words : List Byte :=
    match r.words with
    | none => b 0
    | some ws => b 8 ++ ws.flatMap fun w => u16 w.toNat
  b r.station ++ b r.hop ++ b r.partner ++ b r.hopEnd ++ calibration r.calibration.detA ++
    calibration r.calibration.detB ++ calibration r.calibration.detC ++ calibration r.calibration.detD ++
    b r.inputs.coMain ++ b r.inputs.xMain ++ b r.inputs.coDiv ++ b r.inputs.xDiv ++ b r.diversity ++ b r.dualPol ++
    i16 r.predictedMain ++ i16 r.predictedDiv ++ b r.mainTolerance ++ u16 r.sideDepth ++ b r.asymmetryLimit ++
    u16 r.requiredXpd ++ b r.imbalanceLimit ++ b r.columns ++ b r.rows ++ b r.cellWidth ++ b r.cellHeight ++
    b r.filterTicks ++ profile r.align ++ profile r.soak ++ i16 r.toneFloor ++ b r.toneStep ++ i16 r.meterFloor ++
    u16 r.meterSpan ++ u16 r.modulus ++ words ++ u16 r.soakMinutes ++ u16 r.maxErrored ++ u16 r.maxBad ++
    u16 r.maxOutage ++ b r.marginEnable ++ b r.marginStep ++ b r.marginDwell ++ b r.requiredMargin ++
    b r.attenSources ++ b r.supplyLow

/-! ### The identifier's work at a sample -/

/-- The result of an evaluation by the table of R30, with the full periods at the head of chapter 2. -/
def identTable (own : Nat) (i : Identifier) : IdentState :=
  let period (h : Nat) : Nat := [80, 104, 136, 176, 228, 296, 384].getD (h - 1) 0
  let count (h : Nat) : Nat :=
    (i.ring.filter fun v => decide ((max v (period h) - min v (period h)) * 10 ≤ period h)).length
  match i.swing with
  | none => .noKeying
  | some w =>
    if i.closed.length < 4 ∨ w < 60 then .noKeying
    else if i.ring.length < 8 then .unsure
    else
      match [1, 2, 3, 4, 5, 6, 7].find? fun h => decide (6 ≤ count h) with
      | none => .unsure
      | some h => if h = own then .own else .foreign h

/-- The comparison of a sample x with the decision level held before it, and a rise's interval and evaluation: i stands
before it and y after it (R27, R28, R30). -/
def SampleCompared (own : Nat) (now : SampleTime) (x : Level) (i y : Identifier) : Prop :=
  let compared := ∃ d w, i.decision = some d ∧ i.swing = some w ∧ 60 ≤ w
  let low := ∃ d, i.decision = some d ∧ x < d
  let ring :=
    match i.lastRise with
    | none => i.ring
    | some u =>
      let longer := i.ring ++ [min 1000 (now.second * 1000 + now.index - (u.second * 1000 + u.index))]
      if longer.length ≤ 8 then longer else longer.drop 1
  (¬ compared → y = { i with below := 0 }) ∧
    (compared → low → y = { i with below := min 1000 (i.below + 1) }) ∧
    (compared → ¬ low → i.below < 3 → y = { i with below := 0 }) ∧
    (compared → ¬ low → 3 ≤ i.below →
      y = { i with below := 0, lastRise := some now, ring := ring, state := identTable own { i with ring := ring } })

/-- A sample x joins the block in progress (R25). -/
def sampleInBlock (x : Level) (y : Identifier) : Identifier :=
  { y with
    blockCount := y.blockCount + 1
    blockMax := some (match y.blockMax with | none => x | some m => max m x)
    blockMin := some (match y.blockMin with | none => x | some m => min m x) }

/-- The sample x closes the block: the window, its swing and decision level, the clearing of a swing below 60, and the
evaluation (R25, R26, R29, R30; log 35). -/
def BlockClosed (own : Nat) (x : Level) (y z : Identifier) : Prop :=
  let hi := match y.blockMax with | none => x | some m => max m x
  let lo := match y.blockMin with | none => x | some m => min m x
  let blocks := y.closed ++ [{ hi := hi, lo := lo }]
  let closed := if blocks.length ≤ 4 then blocks else blocks.drop 1
  let quiet : Bool := match z.swing with | none => false | some w => decide (w < 60)
  z =
      { y with
        blockCount := 0, blockMax := none, blockMin := none, closed := closed, swing := z.swing
        decision := z.decision, ring := if quiet then [] else y.ring
        lastRise := if quiet then none else y.lastRise, below := if quiet then 0 else y.below, state := z.state } ∧
    (closed.length < 4 → z.swing = y.swing ∧ z.decision = y.decision) ∧
    (4 ≤ closed.length →
      let high := closed.foldl (fun m b => max m b.hi) (-1200)
      let low := closed.foldl (fun m b => min m b.lo) (-100)
      z.swing = some (high - low) ∧ z.decision = some (low + (high - low) / 2)) ∧
    z.state = identTable own z

/-- The site port after an ident state change, if there is one (R35). -/
def identSignalled (before : IdentState) (x : State) : Site :=
  if before = x.ident.state then x.site
  else
    let told := x.site.signal (.ident x.ident.state)
    match x.ident.state with
    | .foreign h => told.signal (.foreign h x.level.steering x.ident.swing x.ident.decision)
    | _ => told

/-! ### The fade list -/

/-- The order of the fade list: deeper first, then earlier, then in role order (R179). -/
def FadeBefore (e f : FadeEntry) : Prop :=
  e.deepest < f.deepest ∨
    e.deepest = f.deepest ∧
      (e.start.second < f.start.second ∨
        e.start.second = f.start.second ∧
          (e.start.index < f.start.index ∨
            e.start.index = f.start.index ∧ roleOrder e.role < roleOrder f.role))

/-- A fade placed in a list: ahead of the first entry that it comes before (R179). -/
def FadePlaced (e : FadeEntry) (list placed : List FadeEntry) : Prop :=
  ∃ before after, list = before ++ after ∧ placed = before ++ e :: after ∧ (∀ f ∈ before, ¬ FadeBefore e f) ∧
    ∀ f rest, after = f :: rest → FadeBefore e f

/-- A fade entered in the recorder's list, or discarded: the list holds at most 16 (R179). -/
def FadeEntered (e : FadeEntry) (k t : Soak) : Prop :=
  (k.list.length < 16 → t.discards = k.discards ∧ FadePlaced e k.list t.list) ∧
    (∀ kept last, 16 ≤ k.list.length → k.list = kept ++ [last] →
      t.discards = min 65535 (k.discards + 1) ∧
        (e.deepest < last.deepest → FadePlaced e kept t.list) ∧ (last.deepest ≤ e.deepest → t.list = k.list)) ∧
    t = { k with list := t.list, discards := t.discards }

/-- A role's open fade cut at a close, at the time given, with the comparator's deepest level (R180). -/
def cutEntry (now : SampleTime) (deepest : Level) (r : Role) (f : OpenFade) : FadeEntry :=
  { role := r, start := f.start
    duration := min 4294967295 (now.second * 1000 + now.index - (f.start.second * 1000 + f.start.index))
    deepest := min f.deepest deepest, cut := true }

/-- The cut of every fitted role's open fade (R180): each record as a fade-end leaves it, and the entries made in role
order, the model's choice (log 38). -/
def FadesCut (st : Settings) (now : SampleTime) (u : LevelUnit) (k t : Soak) : Prop :=
  (∀ r f, fitted st r = true → (k.fades.get r).openFade = some f →
    let e := cutEntry now (u.channels.get r).cmp.deepest r f
    t.fades.get r =
      { openFade := none, count := (k.fades.get r).count
        total := min 4294967295 ((k.fades.get r).total + e.duration)
        longest := max (k.fades.get r).longest e.duration
        deepest :=
          some (match (k.fades.get r).deepest with | none => e.deepest | some m => min m e.deepest) }) ∧
    (∀ r, fitted st r = false ∨ (k.fades.get r).openFade = none → t.fades.get r = k.fades.get r) ∧
    let entered :=
      [Role.coMain, .xMain, .coDiv, .xDiv].foldl
        (fun (x : Soak) r =>
          match (k.fades.get r).openFade with
          | none => x
          | some f =>
            if fitted st r = true then x.enterFade (cutEntry now (u.channels.get r).cmp.deepest r f) else x)
        k
    t.list = entered.list ∧ t.discards = entered.discards

/-- The close of a running soak: its pending seconds released by the availability state, its open fades cut, and the
verdict of R174, or INCOMPLETE without one at a halt (R173, R174, R180; log 38). -/
def SoakClosed (halted : Bool) (x : State) (k t : Soak) : Prop :=
  let n := k.pending.length
  FadesCut x.settings x.time.now x.level k t ∧
    t =
      { k with
        state := if halted then .incomplete else .closed
        pending := [], bad := t.bad, outage := t.outage, currentOutage := t.currentOutage
        longestOutage := t.longestOutage, verdict := t.verdict, fades := t.fades, list := t.list
        discards := t.discards } ∧
    (k.availability = .available →
      t.bad = k.bad + n ∧ t.outage = k.outage ∧ t.currentOutage = k.currentOutage ∧
        t.longestOutage = k.longestOutage) ∧
    (k.availability = .outage →
      t.bad = k.bad ∧ t.outage = k.outage + n ∧ t.currentOutage = k.currentOutage + n ∧
        t.longestOutage = max k.longestOutage (k.currentOutage + n)) ∧
    t.verdict =
      (if halted then none
      else if t.errored ≤ x.settings.maxErrored ∧ t.bad ≤ x.settings.maxBad ∧ t.outage ≤ x.settings.maxOutage then
        some SoakVerdict.pass
      else some SoakVerdict.fail)

/-! ### Frames a station builds and queues -/

/-- A direction is done at a station that holds its result, PASS or FAIL (R181). -/
def directionDone (m : Margin) (d : Direction) : Bool :=
  match m.results.get d with
  | none => false
  | some r => r.outcome != .aborted

/-- The STATUS body of a station, gathered from its owners (R107, R181). -/
def statusShown (st : Station) (x : State) : StatusBody :=
  { phase := x.hop.phase
    lastStation := match x.hop.lastAccepted with | none => 0 | some p => p.proposer
    lastNumber := match x.hop.lastAccepted with | none => 0 | some p => p.number
    mainConfirmed := x.lobe.confirmed.main, divConfirmed := x.lobe.confirmed.div
    wantsLevel := x.cue.source == .partner, supplyLow := x.supply.low, clash := x.route.clash
    ident := x.ident.state, level := x.level.steeringLevel, soakSeconds := x.soak.elapsed
    progress :=
      match x.margin.current with
      | none =>
        { direction := 0, role := .none, step := 0, doneOne := directionDone x.margin .one
          doneTwo := directionDone x.margin .two }
      | some d =>
        { direction := match d with | .one => 1 | .two => 2
          role := roleIn st.hopEnd d
          step := if roleIn st.hopEnd d = .transmitting then x.margin.announced else x.margin.heard
          doneOne := directionDone x.margin .one, doneTwo := directionDone x.margin .two } }

/-- The LEVEL body of a station (R107). -/
def levelShown (x : State) : LevelBody :=
  { antenna := x.level.steering, level := x.level.steeringLevel, range := x.steeringRange, ident := x.ident.state }

/-- The DIGEST body of a recorder's figures (R175). -/
def digestShown (final : Bool) (k : Soak) : DigestBody :=
  { final := final, verdict := k.verdict, incomplete := k.state == .incomplete, seconds := k.elapsed
    clean := k.clean, errored := k.errored, bad := k.bad, outage := k.outage, periods := k.periods
    fades := k.fades.coMain.count, deepest := k.fades.coMain.deepest }

/-- The MTEST STEP of a step index 0 (R181; log 30). -/
def firstStep (d : Direction) : FrameBody :=
  .mtest .step { direction := d, step := 0, atten := 0, margin := 0, capped := false, atZero := false }

/-- A body queued as a frame of a station, no resend (R117). -/
def queuedFor (st : Station) (body : FrameBody) (draws : Nat) (r : Route) : Nat × Route :=
  r.enqueue draws { frame := buildFrame st body, resend := false }

/-- Bodies queued one after another, as frames of a station (R117). -/
def enqueueAll (st : Station) (bodies : List FrameBody) (draws : Nat) (r : Route) : Nat × Route :=
  bodies.foldl (fun p b => queuedFor st b p.1 p.2) (draws, r)

/-! ### A frame from the partner -/

/-- The state once a good frame from the partner has been counted and has updated the roster, with what follows from
the entry, before its delivery (R109, R110, R112, R114, R122). -/
def heardFrom (f : Frame) (s : State) : State := ({ s with route := s.route.hunt }.hearFrame f).hearPartner

/-- A direction begins: at the transmitting end with a restore, step 0 and its STEP queued, at the judge with nothing
heard or latched (R181). -/
def begun (st : Station) (d : Direction) (x : State) : State :=
  let m : Margin :=
    { x.margin with
      states := x.margin.states.set d .active, current := some d, results := x.margin.results.set d none
      silence := 0 }
  if roleIn st.hopEnd d = .transmitting then
    let queued := queuedFor st (firstStep d) x.draws x.route
    { x with
      draws := queued.1, route := queued.2
      src := { x.src with atten := { live := 0, staged := 0, pending := false } }
      margin := { m with stepIndex := 0, announced := 0, dwell := 0, stepDue := false, announceDue := false } }
  else { x with margin := { m with heard := 0, latched := none } }

/-- The current direction, while it is ABORTED in MARGIN (R187). -/
def abortedDirection (x : State) : Option Direction :=
  match x.margin.current with
  | none => none
  | some d => if x.hop.phase = .margin ∧ x.margin.states.get d = .aborted then some d else none

/-- The state after the delivery x of a frame from the partner that finds s: a direction ABORTED before it, and still
after it, begins again (R187). -/
def delivered (st : Station) (s x : State) : State :=
  if (abortedDirection s).isSome = true then
    match abortedDirection x with
    | none => x
    | some d => begun st d x
  else x

/-- An ANSWER queued and recorded (R134, R136). -/
def answered (st : Station) (a : AnsweredRecord) (x : State) : State :=
  let queued :=
    queuedFor st
      (.answer
        { proposer := a.proposer, number := a.number, target := a.target, accept := a.accept
          reason := a.reason })
      x.draws x.route
  { x with draws := queued.1, route := queued.2, hop := { x.hop with lastAnswered := some a } }

/-- What the margin progress p of a partner STATUS does: the done flag of a direction DONE here at its transmitting end
ends the repeats of its DONE; the judge of an ACTIVE direction raises the step heard, and a done flag ends its watch
without a result, end B then beginning direction 2 (R185, R186; log 29). -/
def MarginTold (st : Station) (p : MarginProgress) (u x : State) : Prop :=
  let shown (d : Direction) : Bool := match d with | .one => p.doneOne | .two => p.doneTwo
  let told (d : Direction) : Bool :=
    roleIn st.hopEnd d == .transmitting && u.margin.states.get d == .done && shown d
  let m : Margin :=
    { u.margin with
      acknowledged :=
        { one := u.margin.acknowledged.one || told .one, two := u.margin.acknowledged.two || told .two }
      doneTimer := if told .one || told .two then none else u.margin.doneTimer }
  let judges (d : Direction) :=
    u.margin.current = some d ∧ u.margin.states.get d = .active ∧ roleIn st.hopEnd d = .judge
  let heard (d : Direction) : Nat :=
    if p.direction = (match d with | .one => 1 | .two => 2) ∧ p.role = .transmitting then max m.heard p.step
    else m.heard
  let ended (d : Direction) : State :=
    { u with margin := { m with heard := heard d, states := m.states.set d .done } }
  ((∀ d, ¬ judges d) → x = { u with margin := m }) ∧
    (∀ d, judges d → shown d = false → x = { u with margin := { m with heard := heard d } }) ∧
    (judges .one → shown .one = true → x = begun st .two (ended .one)) ∧
    (judges .two → shown .two = true → x = ended .two)

/-! ### The entries of the phases, x standing as the entry begins and t after it -/

/-- The beacon mode m is live; a change of it starts or stops the keying generator (R150, R151). -/
def beaconSet (m : BeaconMode) (y : Source) : Source :=
  if y.beacon.live = m then y
  else
    { y with
      beacon := { live := m, staged := m, pending := false }, keyOut := m == .keyed, keyCount := 0, edgeDue := false }

/-- BEACON entry: the beacon keyed, the identifier restarted (section 8.1.1; R24, R150). -/
def BeaconEntered (x t : State) : Prop :=
  t.ident = { identCleared with running := true } ∧ t.src = beaconSet .keyed x.src ∧
    t.map = x.map ∧ t.lobe = x.lobe ∧ t.soak = x.soak ∧ t.margin = x.margin ∧ t.handover = x.handover

/-- SWEEP entry from BEACON or CONFIRM: the map cleared and recording, the position zeroed, the antenna of the proposal
steered to, the identifier restarted, the beacon keyed, the list and the records of the analyser cleared, the confirmed
set and the kept slots kept (section 8.1.1; R7, R24, R45, R51, R71, R79, R150). -/
def SweepEntered (role : Antenna) (x t : State) : Prop :=
  t.map = { mapCleared with state := .recording, role := some role } ∧
    t.level.inputs = x.level.inputs ∧ t.level.steering = role ∧
    (∀ a, t.pos.axes.get a = { x.pos.axes.get a with count := 0, saturated := false, slipped := false }) ∧
    t.pos.snapshot = { az := 0, el := 0, azSaturated := false, elSaturated := false } ∧
    t.ident = { identCleared with running := true } ∧ t.src = beaconSet .keyed x.src ∧
    t.lobe =
      { x.lobe with
        state := .notRun, list := [], overflow := 0, own := none, id := none, held := none, result := .none
        repeatTimer := t.lobe.repeatTimer } ∧
    (x.hop.phase = .confirm → t.lobe.repeatTimer = none) ∧
    (x.hop.phase ≠ .confirm → t.lobe.repeatTimer = x.lobe.repeatTimer) ∧
    t.soak = x.soak ∧ t.margin = x.margin ∧ t.handover = x.handover

/-- CONFIRM entry: the beacon steady, the map frozen, the identifier stopped, the analysis started under the accepted
proposal's identity (section 8.1.1; R23, R52, R68, R150). -/
def ConfirmEntered (id : ProposalId) (x t : State) : Prop :=
  t.ident = identCleared ∧ t.src = beaconSet .steady x.src ∧
    t.map = { x.map with state := if x.map.state = .recording then .frozen else x.map.state } ∧
    t.lobe =
      { x.lobe with
        state := .running, elapsed := 0, id := some id, result := .pending, repeatTimer := none
        held := match x.lobe.held with | none => none | some r => if r.id = id then some r else none } ∧
    t.soak = x.soak ∧ t.margin = x.margin ∧ t.handover = x.handover

/-- SOAK entry: the beacon off, the pattern staged on, a new soak in WAITING in which a fitted role's fade in progress
counts as just started, the comparators' runs at 0 under the SOAK profile (section 8.1.1; R20, R70, R79, R150, R153,
R167, R177). -/
def SoakEntered (x t : State) : Prop :=
  t.ident = identCleared ∧
    t.src =
      { beaconSet .off x.src with pattern := { live := x.src.pattern.live, staged := true, pending := true } } ∧
    t.soak = { soakCleared with state := .waiting, fades := t.soak.fades } ∧
    (∀ r : Role,
      let c := (x.level.channels.get r).cmp
      t.soak.fades.get r =
        (if fitted x.settings r = true ∧ c.state = .faded then
          { openFade := some { start := c.fadeStart, deepest := c.deepest }, count := 1, total := 0, longest := 0
            deepest := some c.deepest }
        else { openFade := none, count := 0, total := 0, longest := 0, deepest := none })) ∧
    (x.lobe.state ≠ .running → t.lobe = { x.lobe with repeatTimer := none }) ∧
    (x.lobe.state = .running →
      t.lobe = { x.lobe with repeatTimer := none, state := .notRun, result := .none, id := none, held := none }) ∧
    t.level.inputs = x.level.inputs ∧ t.level.steering = x.level.steering ∧
    (x.hop.profile = .align → ∀ r : Role,
      t.level.channels.get r =
        { x.level.channels.get r with cmp := { (x.level.channels.get r).cmp with run := 0 } }) ∧
    (x.hop.profile = .soak → t.level = x.level) ∧
    t.map = x.map ∧ t.margin = x.margin ∧ t.handover = x.handover

/-- MARGIN entry: a soak still running closes, and direction 1 begins, at end A as the transmitting end and at end B as
the judge (section 8.1.1; R157, R173, R181). -/
def MarginEntered (st : Station) (x t : State) : Prop :=
  t.ident = identCleared ∧ (x.soak.running = false → t.soak = x.soak) ∧
    (x.soak.running = true → SoakClosed false x x.soak t.soak ∧ EventFlag.soak ∈ t.site.flags) ∧
    t.map = x.map ∧ t.lobe = x.lobe ∧ t.handover = x.handover ∧ t.margin = (begun st .one x).margin ∧
    t.src = (begun st .one x).src

/-- The conditions of an overall PASS; a partner digest marked INCOMPLETE carries no verdict (R200; log 43). -/
def RecordPasses (diversity : Bool) (h : HandoverRecord) : Prop :=
  h.verdict = some .pass ∧
    (∃ d, h.partnerDigest = some d ∧ d.body.incomplete = false ∧ d.body.verdict = some .pass) ∧
    (∀ r, h.results = some r →
      (∃ a, r.one = some a ∧ a.outcome = .pass) ∧ ∃ b, r.two = some b ∧ b.outcome = .pass) ∧
    h.confirmed.main = true ∧ (diversity = true → h.confirmed.div = true)

/-- The margin procedure at HANDOVER or HALTED entry: no DONE is repeated, and an ACTIVE direction is ABORTED, with that
result at the transmitting end and its event (R188; log 39, 46). -/
def MarginEnded (st : Station) (x t : State) : Prop :=
  ((∀ d, x.margin.current = some d → x.margin.states.get d ≠ .active) →
    t.margin = { x.margin with doneTimer := none }) ∧
  ∀ d, x.margin.current = some d → x.margin.states.get d = .active →
    t.margin =
      { x.margin with
        doneTimer := none, states := x.margin.states.set d .aborted
        results :=
          if roleIn st.hopEnd d = .transmitting then
            x.margin.results.set d (some { margin := none, capped := false, atZero := false, outcome := .aborted })
          else x.margin.results } ∧
      EventFlag.margin ∈ t.site.flags

/-- HANDOVER entry: the pattern staged off, the attenuation restored, no DONE repeated, the DIGEST timer at 60, and the
handover record opened from the state standing, decided at once when a final partner digest is held (section 8.1.1;
R153, R157, R175, R188, R199, R200). -/
def HandoverEntered (st : Station) (x t : State) : Prop :=
  let both := x.settings.diversity && x.settings.dualPol
  let record (v : Overall) : HandoverRecord :=
    { station := st, predicted := x.settings.predicted, confirmed := x.lobe.confirmed, kept := x.lobe.kept
      soakState := x.soak.state, seconds := x.soak.elapsed, clean := x.soak.clean, errored := x.soak.errored
      bad := x.soak.bad, outage := x.soak.outage, periods := x.soak.periods, longestOutage := x.soak.longestOutage
      verdict := x.soak.verdict, partnerDigest := x.soak.partnerDigest
      fades :=
        { coMain := some x.soak.fades.coMain
          xMain := if x.settings.dualPol = true then some x.soak.fades.xMain else none
          coDiv := if x.settings.diversity = true then some x.soak.fades.coDiv else none
          xDiv := if both = true then some x.soak.fades.xDiv else none }
      joint := x.soak.joint, list := x.soak.list, discards := x.soak.discards
      results := if x.settings.marginEnabled = true then some t.margin.results else none
      suspect := x.soak.suspect, clashes := x.route.counters.clashes, overall := v }
  t.ident = identCleared ∧ t.map = x.map ∧ t.lobe = x.lobe ∧
    t.src =
      { x.src with
        atten := { live := 0, staged := 0, pending := false }
        pattern := { live := x.src.pattern.live, staged := false, pending := true } } ∧
    t.soak = { x.soak with digestTimer := some 60 } ∧ MarginEnded st x t ∧
    ((∀ d, x.soak.partnerDigest = some d → d.body.final = false) → t.handover = some (record .pending)) ∧
    (∀ d, x.soak.partnerDigest = some d → d.body.final = true →
      ∃ v, t.handover = some (record v) ∧ (v = .pass ∨ v = .fail) ∧
        (v = .pass ↔ RecordPasses x.settings.diversity (record v)) ∧ EventFlag.handover ∈ t.site.flags)

/-- The frames queued at an entry, a waiting PROPOSE withdrawn: the final DIGEST of a soak that closes or is handed
over, the STEP of direction 1 at end A in MARGIN, then a STATUS with its timer; and in BEACON and SWEEP, while the
partner asks for it, a LEVEL with its timer when none runs (R117, R121, R122, R127, R129, R175, R181; log 30). -/
def EntryFramesQueued (st : Station) (x t : State) : Prop :=
  let digest : FrameBody := .digest (digestShown true t.soak)
  let closing : List FrameBody := if x.soak.running = true then [digest] else []
  let first : List FrameBody :=
    match t.hop.phase with
    | .margin => closing ++ (if roleIn st.hopEnd .one = .transmitting then [firstStep .one] else [])
    | .handover => [digest]
    | .halted => closing
    | _ => []
  let withdrawn : Route := { x.route with waiting := x.route.waiting.filter fun q => q.kind != .propose }
  let queued := enqueueAll st (first ++ [.status (statusShown st t)]) x.draws withdrawn
  let asks := (t.hop.phase = .beacon ∨ t.hop.phase = .sweep) ∧ ∃ e, x.partnerEntry = some e ∧ e.wantsLevel = true
  ∃ n, 2000 ≤ n ∧ n ≤ 2499 ∧
    (¬ asks → t.route = { queued.2 with statusTimer := some n, levelTimer := none }) ∧
    (∀ k, asks → x.route.levelTimer = some k →
      t.route = { queued.2 with statusTimer := some n, levelTimer := some k }) ∧
    (asks → x.route.levelTimer = none →
      t.route =
        { (queuedFor st (.level (levelShown t)) (queued.1 + 1) { queued.2 with statusTimer := some n }).2 with
          levelTimer := some 250 })

/-- What the other blocks do, and the frames that are queued, as a station enters a phase under an accepted proposal; an
ident state that the entry clears is signalled, and the position and the level unit stay as they are but for a SWEEP or
a new profile (the table of section 8.1.1; R23, R24). -/
def EntryRuns (st : Station) (id : ProposalId) (role : Antenna) (x t : State) : Prop :=
  (t.hop.phase = .beacon → BeaconEntered x t) ∧ (t.hop.phase = .sweep → SweepEntered role x t) ∧
    (t.hop.phase = .confirm → ConfirmEntered id x t) ∧ (t.hop.phase = .soak → SoakEntered x t) ∧
    (t.hop.phase = .margin → MarginEntered st x t) ∧ (t.hop.phase = .handover → HandoverEntered st x t) ∧
    (t.hop.phase ≠ .idle → x.ident.state ≠ .noKeying → EventFlag.ident ∈ t.site.flags) ∧
    (t.hop.phase ≠ .sweep → t.pos = x.pos) ∧
    (t.hop.profile = x.hop.profile →
      t.level = { x.level with steering := if t.hop.phase = .sweep then role else x.level.steering }) ∧
    EntryFramesQueued st x t

/-- HALTED entry from another phase: nothing stays outstanding, the beacon is off, the pattern staged off and the
attenuation restored, the map freezes, a running analysis is cancelled, a running soak closes INCOMPLETE, an ACTIVE
direction is ABORTED, a handover record still PENDING in HANDOVER turns INCOMPLETE; the level unit, the position, the
cue unit and the checker stay as they are (section 8.1.1; R23, R53, R70, R127, R128, R141, R150, R153, R157, R173,
R175, R180, R188, R200). -/
def HaltEntered (st : Station) (cause : HaltCause) (x t : State) : Prop :=
  let k : Soak :=
    { x.soak with digestTimer := if x.hop.phase = .handover then none else x.soak.digestTimer }
  t.hop =
      { x.hop with
        phase := .halted, haltCause := some cause, outstanding := none, answerTimer := none, failed := none
        lastAnswered := none, lastAccepted := none, entryHold := none, leftPhase := some x.hop.phase
        mismatch := 0, autoTimer := none } ∧
    t.ident = identCleared ∧ (x.ident.state ≠ .noKeying → EventFlag.ident ∈ t.site.flags) ∧
    t.src =
      { beaconSet .off x.src with
        atten := { live := 0, staged := 0, pending := false }
        pattern := { live := x.src.pattern.live, staged := false, pending := true } } ∧
    t.map = (if x.map.state = .recording then { x.map with state := .frozen } else x.map) ∧
    (x.hop.phase ≠ .confirm → t.lobe = x.lobe) ∧
    (x.hop.phase = .confirm → x.lobe.state ≠ .running → t.lobe = { x.lobe with repeatTimer := none }) ∧
    (x.hop.phase = .confirm → x.lobe.state = .running →
      t.lobe = { x.lobe with repeatTimer := none, state := .notRun, result := .none, id := none, held := none }) ∧
    (x.soak.running = false → t.soak = k) ∧
    (x.soak.running = true → SoakClosed true x k t.soak ∧ EventFlag.soak ∈ t.site.flags) ∧
    MarginEnded st x t ∧ (x.hop.phase ≠ .handover → t.handover = x.handover) ∧
    (x.hop.phase = .handover → x.handover = none → t.handover = none) ∧
    (∀ h, x.hop.phase = .handover → x.handover = some h →
      t.handover = some (if h.overall = .pending then { h with overall := .incomplete } else h) ∧
        (h.overall = .pending → EventFlag.handover ∈ t.site.flags)) ∧
    EventFlag.phase ∈ t.site.flags ∧ (x.hop.outstanding ≠ none → EventFlag.proposal ∈ t.site.flags) ∧
    EntryFramesQueued st x t ∧
    t = { x with
      draws := t.draws, ident := t.ident, map := t.map, lobe := t.lobe, route := t.route, hop := t.hop, src := t.src
      soak := t.soak, margin := t.margin, handover := t.handover, site := t.site }

/-! ### Invariants -/

/-- The output queue holds at most 8 messages (R193). -/
def OutputBounded (s : State) : Prop := s.site.out.length ≤ 8

/-- The waiting queue holds at most 6 frames, at most one STATUS and one LEVEL, in class order (R117). -/
def WaitingOrdered (s : State) : Prop :=
  s.route.waiting.length ≤ 6 ∧
    (s.route.waiting.filter fun q => q.kind == .status).length ≤ 1 ∧
    (s.route.waiting.filter fun q => q.kind == .level).length ≤ 1 ∧
    s.route.waiting.Pairwise fun a b => a.classNumber ≤ b.classNumber

/-- The roster holds at most 14 entries in ascending station order, none with the station's own number (R113). -/
def RosterSound (s : State) : Prop :=
  s.route.roster.length ≤ 14 ∧
    (s.route.roster.Pairwise fun a b => a.station < b.station) ∧
    ∀ st, s.station = some st → ∀ e ∈ s.route.roster, e.station ≠ st.number

/-- An axis's count lies in its range, and a SATURATED axis stands at a limit (R41). -/
def AxisSound (x : AxisState) : Prop :=
  -32768 ≤ x.count ∧ x.count ≤ 32767 ∧ (x.saturated = true → x.count = -32768 ∨ x.count = 32767)

/-- An input's converted sample lies in -1200..-100, and so does a seeded channel's average (R4, R13). -/
def LevelsSound (s : State) : Prop :=
  (∀ i, -1200 ≤ (s.level.inputs.get i).sample ∧ (s.level.inputs.get i).sample ≤ -100) ∧
    ∀ r, (s.level.channels.get r).fresh = false →
      -307200 ≤ (s.level.channels.get r).acc ∧ (s.level.channels.get r).acc ≤ -25600

/-- A half-period is 640 - 8p for a p of 0..63 (R94). -/
def HalfSound (n : Nat) : Prop := ∃ p, p ≤ 63 ∧ n = 640 - 8 * p

/-- The measured figures, the tone's half-periods and the map's geometry stay in their ranges (R4, R13, R41, R48,
R94). -/
def FiguresSound (s : State) : Prop :=
  GeometrySound s.settings.geometry ∧ AxisSound s.pos.axes.az ∧ AxisSound s.pos.axes.el ∧ LevelsSound s ∧
    HalfSound s.cue.stagedHalf ∧ HalfSound s.cue.liveHalf

/-- Every soak second is counted once: released under one class, or pending; at most 9 are pending, all BAD in
AVAILABLE and none BAD in OUTAGE (R170, R171). -/
def SoakSound (s : State) : Prop :=
  s.soak.clean + s.soak.errored + s.soak.bad + s.soak.outage + s.soak.pending.length = s.soak.elapsed ∧
    s.soak.pending.length ≤ 9 ∧
    ∀ p ∈ s.soak.pending,
      (p.provisional = .bad ↔ s.soak.availability = .available)

/-- A target may be entered from where the station stands: it is a legal successor, and the confirmed set is full
when the target is SOAK (R126, R135). -/
def MayEnter (s : State) (target : Phase) : Prop :=
  legalSuccessor s.settings.marginEnabled s.hop.phase target = true ∧
    (target = .soak → confirmedEnough s.settings.diversity s.lobe.confirmed = true)

/-- An unconfigured station is in IDLE with no proposal; an outstanding or a failed proposal names a target that
may be entered; in SOAK, MARGIN and HANDOVER the confirmed set is full (R85, R126, R131). -/
def HopSound (s : State) : Prop :=
  (s.station = none → s.hop.phase = .idle ∧ s.hop.outstanding = none ∧ s.hop.failed = none) ∧
    (∀ p, s.hop.outstanding = some p → MayEnter s p.target) ∧
    (∀ p, s.hop.failed = some p → MayEnter s p.target) ∧
    (s.hop.phase = .soak ∨ s.hop.phase = .margin ∨ s.hop.phase = .handover →
      confirmedEnough s.settings.diversity s.lobe.confirmed = true)

/-- The attenuation never exceeds 63 dB, and is 0 with nothing staged except while this station is the
transmitting end of an ACTIVE direction, which it is only in MARGIN (R152). -/
def AttenuationSound (s : State) : Prop :=
  s.src.atten.live ≤ 63 ∧ s.src.atten.staged ≤ 63 ∧
    (s.transmitting = false → s.src.atten = { live := 0, staged := 0, pending := false }) ∧
    (∀ d, s.margin.current = some d → s.margin.states.get d = .active → s.hop.phase = .margin)

end Sys2Proof.Machine
end

