-- ==== Sys2Proof/Certificates/Slice0/Obligations.lean ====
section
/-! DEFINITION. The statements for the provers, from the numbered rules of the spec. -/

open Sys2Proof Sys2Proof.Machine

/-! ### The queue, the tick and every command -/

/-- A step takes the command at the front of the queue and runs it on the queue's rest. -/
def Obligations.StepRunsTheFrontCommand : Prop :=
  ∀ (c : Instr) (rest : List Instr) (s : State),
    step { s with pending := c :: rest } = exec c { s with pending := rest }

/-- A step on an empty queue is one cue-clock tick: the model's choice (log 2). The first tick after a hard reset
takes every filtered level from its line; every other counts the lines that differ. Both advance the counters of the
cue unit; the meter's passes M - 1 to 0, where a period's start is due (R37, R47, R95, R99, R155). -/
def Obligations.EmptyQueueStepIsOneTick : Prop :=
  ∀ s : State, s.pending = [] →
    (s.time.firstTick = true →
      step s = .next
        { s with
          time := { s.time with firstTick := false }
          pos :=
            { s.pos with
              axes := s.pos.axes.map (AxisState.mapLines fun l => { l with filtered := l.raw, candidate := 0 }) }
          src := { s.src with sync := { s.src.sync with filtered := s.src.sync.raw, candidate := 0 } }
          cue :=
            { s.cue with
              halfCounter := if s.cue.generator = .silent then s.cue.halfCounter else s.cue.halfCounter + 1
              periodCounter := if s.settings.modulus ≤ s.cue.periodCounter + 1 then 0 else s.cue.periodCounter + 1
              periodDue := s.cue.periodDue || decide (s.settings.modulus ≤ s.cue.periodCounter + 1) } }) ∧
    (s.time.firstTick = false → TickQuiet s →
      step s = .next
        { s with
          pos :=
            { s.pos with
              axes :=
                s.pos.axes.map
                  (AxisState.mapLines fun l =>
                    { l with candidate := if l.raw = l.filtered then 0 else l.candidate + 1 }) }
          src :=
            { s.src with
              sync :=
                { s.src.sync with
                  candidate := if s.src.sync.raw = s.src.sync.filtered then 0 else s.src.sync.candidate + 1 } }
          cue :=
            { s.cue with
              halfCounter := if s.cue.generator = .silent then s.cue.halfCounter else s.cue.halfCounter + 1
              periodCounter := if s.settings.modulus ≤ s.cue.periodCounter + 1 then 0 else s.cue.periodCounter + 1
              periodDue := s.cue.periodDue || decide (s.settings.modulus ≤ s.cue.periodCounter + 1) } })

/-- Every command of the table answers a next state and leaves the waiting commands as they are: none ends in a
fault or a refusal (log 25). -/
def Obligations.EveryCommandAnswersAndKeepsTheQueue : Prop :=
  ∀ (c : Instr) (s : State), ∃ t, exec c s = .next t ∧ t.pending = s.pending

/-! ### Resets -/

/-- The state right after a hard reset, block by block, as each chapter gives it; the figures that a chapter leaves
open are the model's (log 7, 8, 13). -/
def Obligations.ResetState : Prop :=
  let s := State.reset
  let lineLow : LineState := { raw := false, filtered := false, candidate := 0 }
  s.station = none ∧ s.time.now = { second := 0, index := 0 } ∧ s.pending = [] ∧
    (∀ i, (s.level.inputs.get i).range = .inRange ∧ (s.level.inputs.get i).warning = false ∧
      (s.level.inputs.get i).inCount = 0 ∧ s.settings.calibration.get i = { offset := -1100, slope := 64 }) ∧
    s.level.steering = .main ∧
    (∀ r, (s.level.channels.get r).fresh = true ∧ (s.level.channels.get r).admitted = 0 ∧
      (s.level.channels.get r).gated = 0 ∧ (s.level.channels.get r).cmp.state = .clear ∧
      (s.level.channels.get r).cmp.run = 0) ∧
    s.ident = identCleared ∧
    (∀ x, s.pos.axes.get x =
      { lineA := lineLow, lineB := lineLow, count := 0, saturated := false, slipped := false, slipCount := 0 }) ∧
    s.pos.snapshot = { az := 0, el := 0, azSaturated := false, elSaturated := false } ∧ s.settings.filterTicks = 8 ∧
    s.map = mapCleared ∧ s.settings.geometry = { columns := 16, rows := 8, cellWidth := 4, cellHeight := 4 } ∧
    s.lobe = analyserCleared ∧ s.cue = cueCleared 64 ∧
    s.route =
      { framer := { state := .hunt, bytes := [], gap := none }, roster := [], partner := .lost, conflict := false
        waiting := [], inFlight := none, contention := .empty, backoff := none, idle := 0, slot := 0, sendTime := 0
        transmitEnable := false, wire := [], carrierBusy := false, statusTimer := none, levelTimer := none
        clash := false, counters := countersCleared } ∧
    s.hop = coordinatorCleared ∧ s.src = sourceCleared lineLow ∧ s.chk = checkerCleared ∧ s.soak = soakCleared ∧
    s.margin = marginCleared ∧ s.handover = none ∧
    s.site =
      { framer := .hunting, out := [], sending := none, mask := BitVec.allOnes 19, flags := []
        counters := { malformed := 0, checksum := 0, drops := 0, overruns := 0 } } ∧
    s.supply.low = false

/-- HARD_RESET gives the state after a hard reset, with the input pins as they stand, the waiting commands and the
model's count of random draws kept (log 6, 8). -/
def Obligations.HardResetReturnsEveryBlock : Prop :=
  ∀ s : State,
    let line (l : LineState) : LineState := { raw := l.raw, filtered := false, candidate := 0 }
    let axis (x : AxisState) : AxisState :=
      { lineA := line x.lineA, lineB := line x.lineB, count := 0, saturated := false, slipped := false
        slipCount := 0 }
    exec .hardReset s = .next
      { State.reset with
        pending := s.pending, draws := s.draws
        pos := { State.reset.pos with axes := { az := axis s.pos.axes.az, el := axis s.pos.axes.el } }
        route := { State.reset.route with carrierBusy := s.route.carrierBusy }
        src := { State.reset.src with sync := line s.src.sync }
        supply :=
          { low := false, debounce := if s.supply.sense < 10800 then some 100 else none, sense := s.supply.sense } }

/-- RESTART of a configured station returns it to IDLE: the blocks take their states after restart, the kept figures
are kept, the output queue holds the reply alone, and a STATUS is in the slot; a handover record still PENDING in
HANDOVER turns INCOMPLETE, its flag set and its report emptied with the queue; an unconfigured station refuses it (R125,
R149, R165, R190, R200, R201; log 6, 7, 12, 13). -/
def Obligations.RestartReturnsToIdle : Prop :=
  (∀ s : State, s.station = none → Room s →
    exec .restart s = .next
      { s with
        site := { s.site with framer := .hunting, out := s.site.out ++ [.refused 5 .unconfigured none] } }) ∧
  ∀ (st : Station) (s : State), s.station = some st → Room s →
    ∃ t, exec .restart s = .next t ∧
      t = { s with
        draws := t.draws, level := t.level, ident := identCleared, pos := t.pos, map := mapCleared
        lobe := analyserCleared, cue := cueCleared s.settings.modulus, route := t.route, hop := t.hop
        src := sourceCleared s.src.sync, chk := checkerCleared, soak := soakCleared, margin := marginCleared
        handover := t.handover, site := t.site } ∧
      t.hop = { coordinatorCleared with
        nextNumber := s.hop.nextNumber, serial := s.hop.serial, ignored := s.hop.ignored } ∧
      t.level.inputs = s.level.inputs ∧ t.level.steering = .main ∧
      (∀ r, (t.level.channels.get r).fresh = true ∧ (t.level.channels.get r).admitted = 0 ∧
        (t.level.channels.get r).gated = 0 ∧ (t.level.channels.get r).cmp.state = .clear ∧
        (t.level.channels.get r).cmp.run = 0) ∧
      (∀ x, t.pos.axes.get x =
        { s.pos.axes.get x with count := 0, saturated := false, slipped := false, slipCount := 0 }) ∧
      t.pos.snapshot = { az := 0, el := 0, azSaturated := false, elSaturated := false } ∧
      t.route =
        { s.route with
          framer := { state := .hunt, bytes := [], gap := none }, waiting := []
          inFlight := some { frame := buildFrame st (.status (statusShown st t)), resend := false }
          contention := .defer, backoff := none, idle := 0, slot := 0, sendTime := 0, transmitEnable := false
          wire := [], statusTimer := t.route.statusTimer, levelTimer := none } ∧
      (∃ n, t.route.statusTimer = some n ∧ 2000 ≤ n ∧ n ≤ 2499) ∧
      t.site.out = [.accepted .restart []] ∧ t.site.framer = .hunting ∧ t.site.sending = s.site.sending ∧
      t.site.mask = s.site.mask ∧ t.site.counters = s.site.counters ∧
      let pending := s.hop.phase = .handover ∧ ∃ h, s.handover = some h ∧ h.overall = .pending
      (¬ pending → t.handover = s.handover ∧ t.site.flags = s.site.flags) ∧
      (∀ h, pending → s.handover = some h →
        t.handover = some { h with overall := .incomplete } ∧
          ∀ f, f ∈ t.site.flags ↔ f ∈ s.site.flags ∨ f = EventFlag.handover)


/-! ### Level unit and identifier -/

/-- At a sample event every input takes its code, its range state and its converted sample (R2, R4), and its range
warning follows: set with its event at the first sample out of range, cleared by the 1000th IN sample (R3).
RANGE_WARNING_CLEAR is that 1000th sample given to the warning alone (log 4). -/
def Obligations.SampleConvertsAndWatchesRange : Prop :=
  (∀ (i : Input) (s : State),
    let x := s.level.inputs.get i
    (x.warning = true → 999 ≤ x.inCount →
      exec (.rangeWarningClear i) s = .next
        { s with
          level :=
            { s.level with inputs := s.level.inputs.set i { x with warning := false, inCount := 1000 } } }) ∧
    (x.warning = false ∨ x.inCount < 999 → exec (.rangeWarningClear i) s = .next s)) ∧
  ∀ (codes : ByInput Nat) (s : State), ∃ t, exec (.sampleEvent codes) s = .next t ∧ ∀ i : Input,
    let c := codes.get i
    let cal := s.settings.calibration.get i
    let x := s.level.inputs.get i
    let y := t.level.inputs.get i
    y.code = c ∧
      y.range = (if c ≤ 15 then RangeState.under else if 4080 ≤ c then RangeState.over else RangeState.inRange) ∧
      y.sample = max (-1200) (min (-100) (cal.offset + (((c * cal.slope + 128) / 256 : Nat) : Int))) ∧
      (15 < c → c < 4080 → x.warning = false → y.warning = false ∧ y.inCount = x.inCount) ∧
      (15 < c → c < 4080 → x.warning = true →
        y.inCount = min 1000 (x.inCount + 1)) ∧
      (15 < c → c < 4080 → x.warning = true → (y.warning = false ↔ 999 ≤ x.inCount)) ∧
      (c ≤ 15 ∨ 4080 ≤ c → y.warning = true ∧ y.inCount = 0 ∧
        (x.warning = false → EventFlag.range i ∈ t.site.flags))

/-- At a sample event a seeded channel updates its average with the shift of the profile in force, any channel
counts the sample as admitted or skipped, a skipped one changes no average, and a fresh channel has no level. Its
comparator takes the sample, admitted or not: a run begins, goes on, is abandoned or is completed, which starts or ends
a fade with its event (R9, R12, R13, R17 to R19). -/
def Obligations.SampleAverages : Prop :=
  ∀ (codes : ByInput Nat) (r : Role) (s : State),
    let x := roleSample s codes r
    let c := s.level.channels.get r
    ∃ t, exec (.sampleEvent codes) s = .next t ∧
      let d := t.level.channels.get r
      (¬ Skipped s r x → c.fresh = false →
        d.acc = c.acc + (x * 256 - c.acc) / 2 ^ s.profile.shift ∧ d.fresh = false ∧
          d.level = some ((d.acc + 128) / 256)) ∧
      (¬ Skipped s r x → d.admitted = min 65535 (c.admitted + 1) ∧ d.gated = c.gated) ∧
      (Skipped s r x → d.acc = c.acc ∧ d.fresh = c.fresh ∧ d.admitted = c.admitted ∧
        d.gated = min 65535 (c.gated + 1)) ∧
      (d.fresh = true → d.level = none) ∧
      let k := c.cmp
      let below := s.profile.thresholds.get r
      let clears := below + s.profile.hysteresis
      let start := if k.run = 0 then t.time.now else k.runStart
      let low := if k.run = 0 then x else min k.runMin x
      let deep := min k.deepest x
      let goesOn := k.run + 1 < s.profile.filter
      (k.state = .clear → below ≤ x → d.cmp = { k with run := 0 }) ∧
      (k.state = .clear → x < below → goesOn →
        d.cmp = { k with run := k.run + 1, runStart := start, runMin := low }) ∧
      (k.state = .clear → x < below → ¬ goesOn →
        d.cmp =
            { state := .faded, run := 0, runStart := start, runMin := low, fadeStart := start, deepest := low } ∧
          EventFlag.fade r ∈ t.site.flags) ∧
      (k.state = .faded → x < clears → d.cmp = { k with run := 0, deepest := deep }) ∧
      (k.state = .faded → clears ≤ x → goesOn →
        d.cmp = { k with run := k.run + 1, runStart := start, deepest := deep }) ∧
      (k.state = .faded → clears ≤ x → ¬ goesOn →
        d.cmp = { k with state := .clear, run := 0, runStart := start, deepest := deep } ∧
          EventFlag.fade r ∈ t.site.flags)

/-- R11: the first sample a fresh channel admits seeds its accumulator whatever the shift, and a skipped sample does
not seed it. -/
def Obligations.FirstAdmittedSampleSeeds : Prop :=
  ∀ (codes : ByInput Nat) (r : Role) (s : State), (s.level.channels.get r).fresh = true →
    let x := roleSample s codes r
    ∃ t, exec (.sampleEvent codes) s = .next t ∧
      (¬ Skipped s r x →
        (t.level.channels.get r).acc = x * 256 ∧ (t.level.channels.get r).fresh = false) ∧
      (Skipped s r x → (t.level.channels.get r).fresh = true)

/-- FADE_START and FADE_END: the sample that completes the run changes the comparator's state, raises FADE and
reaches a running soak's record of a fitted role, and a fade's end its fade list; any other sample has no effect
(R18, R19, R21, R177, R179; log 4). -/
def Obligations.FadesStartAndEnd : Prop :=
  (∀ (r : Role) (x : Level) (s : State),
    let c := (s.level.channels.get r).cmp
    let th := s.profile.thresholds.get r
    let n := s.profile.filter
    let old := s.soak.fades.get r
    let lowered (deep : Level) : Option Level := some (match old.deepest with | none => deep | some m => min m deep)
    (c.state = .clear → x < th → n ≤ c.run + 1 →
      let start := if c.run = 0 then s.time.now else c.runStart
      let deep := if c.run = 0 then x else min c.runMin x
      ∃ t, exec (.fadeStart r x) s = .next t ∧
        t = { s with level := t.level, soak := t.soak, site := t.site } ∧
        t.level = { s.level with
          channels := s.level.channels.set r
            { s.level.channels.get r with
              cmp :=
                { state := .faded, run := 0, runStart := start, runMin := deep, fadeStart := start
                  deepest := deep } } } ∧
        t.site = s.site.signal (.fade r false start n deep) ∧
        (s.soak.running = true → fitted s.settings r = true →
          t.soak = { s.soak with
            fades := s.soak.fades.set r
              { old with
                openFade := some { start := start, deepest := deep }, count := min 65535 (old.count + 1)
                deepest := lowered deep } }) ∧
        (s.soak.running = false ∨ fitted s.settings r = false → t.soak = s.soak)) ∧
    (c.state = .faded ∨ th ≤ x ∨ c.run + 1 < n → exec (.fadeStart r x) s = .next s) ∧
    (c.state = .faded → th + s.profile.hysteresis ≤ x → n ≤ c.run + 1 →
      let start := if c.run = 0 then s.time.now else c.runStart
      let deep := min c.deepest x
      let long := min 4294967295 (start.since c.fadeStart)
      ∃ t, exec (.fadeEnd r x) s = .next t ∧
        t = { s with level := t.level, soak := t.soak, site := t.site } ∧
        t.level = { s.level with
          channels := s.level.channels.set r
            { s.level.channels.get r with
              cmp := { c with state := .clear, run := 0, runStart := start, deepest := deep } } } ∧
        t.site = s.site.signal (.fade r true c.fadeStart long deep) ∧
        (s.soak.running = true → fitted s.settings r = true →
          let ended : FadeRecord :=
            { openFade := none, count := old.count, total := min 4294967295 (old.total + long)
              longest := max old.longest long, deepest := lowered deep }
          FadeEntered { role := r, start := c.fadeStart, duration := long, deepest := deep, cut := false }
            { s.soak with fades := s.soak.fades.set r ended } t.soak) ∧
        (s.soak.running = false ∨ fitted s.settings r = false → t.soak = s.soak)) ∧
    (c.state = .clear ∨ x < th + s.profile.hysteresis ∨ c.run + 1 < n → exec (.fadeEnd r x) s = .next s)) ∧
  ∀ (e : FadeEntry) (k : Soak), FadeEntered e k (k.enterFade e)

/-- The identifier at a sample: while it runs, the steering sample is compared with the decision level held, a rise
records its interval and evaluates, and the sample joins its block; the 250th sample closes it, updates the window of
the latest four, clears on a swing below 60 and evaluates by the table of R30. BLOCK_CLOSE is that 250th sample given to
the identifier alone, with the event of a change of state; otherwise it has no effect. While stopped nothing is taken
(R23, R25 to R31, R35; log 3, 4, 35). -/
def Obligations.BlockCloses : Prop :=
  (∀ (x : Level) (s : State),
    let own := match s.station with | none => 0 | some st => st.hop
    (s.ident.running = true → 249 ≤ s.ident.blockCount →
      ∃ t y, exec (.blockClose x) s = .next t ∧ t = { s with ident := t.ident, site := t.site } ∧
        SampleCompared own s.time.now x s.ident y ∧ BlockClosed own x y t.ident ∧
        t.site = identSignalled s.ident.state { s with ident := t.ident }) ∧
    (s.ident.running = false ∨ s.ident.blockCount < 249 → exec (.blockClose x) s = .next s)) ∧
  ∀ (codes : ByInput Nat) (s : State), Quiet s →
    let own := match s.station with | none => 0 | some st => st.hop
    let x := roleSample s codes (steeringRole s.level.steering)
    ∃ t, exec (.sampleEvent codes) s = .next t ∧
      (s.ident.running = false → t.ident = s.ident) ∧
      (s.ident.running = true →
        ∃ y, SampleCompared own t.time.now x s.ident y ∧
          (s.ident.blockCount < 249 → t.ident = sampleInBlock x y) ∧
          (249 ≤ s.ident.blockCount → BlockClosed own x y t.ident)) ∧
      (t.ident.state ≠ s.ident.state →
        EventFlag.ident ∈ t.site.flags ∧ ∀ h, t.ident.state = .foreign h → EventFlag.foreign ∈ t.site.flags)

/-! ### Timebase, snapshot, map and joint fades at a sample event -/

/-- A sample event with nothing due advances the sample time, brings a second event at index 0, takes one ms off
every timer in ms or s but the DIGEST timer, advances the cue unit's update and cadence timers, the keying counter,
the channel's idle, slot and sending times and the analysis time, notes LOW in a running soak, and latches the snapshot
of both axes, and takes one ms off the 5 ms within which the next character may come on the receive line and on the
site port's line; the settings, the frames that wait, the outputs of the test source and the checker stay as they are,
a keying edge being due when the counter reaches the half-period (R42, R91, R97, R98, R104, R105, R119, R108,
R151, R169, R191, R197; log 3, 5). -/
def Obligations.SampleAdvancesTimeAndLatches : Prop :=
  ∀ (codes : ByInput Nat) (s : State), Quiet s →
    let stale := s.cue.tone = .stale
    let heardForeign := s.cue.tone = .foreign
    let count := s.cue.cadence + 1
    let atBoundary := (stale ∧ (count = 250 ∨ 500 ≤ count)) ∨ (heardForeign ∧ (count = 125 ∨ 250 ≤ count))
    let idles := s.route.contention ≠ .sending ∧ s.route.carrierBusy = false
    let keyed := s.src.beacon.live = .keyed
    let hop := match s.station with | none => 0 | some st => st.hop
    let half :=
      if hop = 1 then 40 else if hop = 2 then 52 else if hop = 3 then 68 else if hop = 4 then 88
      else if hop = 5 then 114 else if hop = 6 then 148 else 192
    ∃ t, exec (.sampleEvent codes) s = .next t ∧
      (s.time.now.index < 999 →
        t.time.now = { second := s.time.now.second, index := s.time.now.index + 1 } ∧
          t.time.secondDue = s.time.secondDue) ∧
      (s.time.now.index = 999 → s.time.now.second ≤ 4294967295 →
        t.time.now = { second := min 4294967295 (s.time.now.second + 1), index := 0 } ∧ t.time.secondDue = true) ∧
      t = { s with
        time := t.time, level := t.level, ident := t.ident, pos := t.pos, map := t.map, lobe := t.lobe
        cue := t.cue, route := t.route, hop := t.hop, src := t.src, soak := t.soak, margin := t.margin
        site := t.site, supply := t.supply } ∧
      t.hop =
        { s.hop with
          answerTimer := Timer.tick s.hop.answerTimer, entryHold := Timer.tick s.hop.entryHold
          autoTimer := Timer.tick s.hop.autoTimer } ∧
      t.route =
        { s.route with
          statusTimer := Timer.tick s.route.statusTimer, levelTimer := Timer.tick s.route.levelTimer
          idle := if idles then s.route.idle + 1 else s.route.idle
          slot := if idles ∧ s.route.contention = .backoff then s.route.slot + 1 else s.route.slot
          sendTime := if s.route.contention = .sending then s.route.sendTime + 1 else s.route.sendTime
          framer := { s.route.framer with gap := Timer.tick s.route.framer.gap } } ∧
      t.site.framer =
        (match s.site.framer with
        | .hunting => .hunting
        | .taking bytes gap => .taking bytes (gap - 1)) ∧
      t.cue =
        { s.cue with
          updateTimer := if 50 ≤ s.cue.updateTimer + 1 then 0 else s.cue.updateTimer + 1
          updateDue := s.cue.updateDue || decide (50 ≤ s.cue.updateTimer + 1)
          cadence :=
            if (stale ∧ 500 ≤ count) ∨ (heardForeign ∧ 250 ≤ count) then 0
            else if stale ∨ heardForeign then count
            else s.cue.cadence
          cadenceDue := t.cue.cadenceDue } ∧
      (t.cue.cadenceDue = true ↔ s.cue.cadenceDue = true ∨ atBoundary) ∧
      t.lobe =
        { s.lobe with
          repeatTimer := Timer.tick s.lobe.repeatTimer
          elapsed := if s.lobe.state = .running then s.lobe.elapsed + 1 else s.lobe.elapsed } ∧
      t.margin =
        { s.margin with
          doneTimer := Timer.tick s.margin.doneTimer, silence := min 10000 (s.margin.silence + 1) } ∧
      (¬ keyed → t.src = s.src) ∧
      (keyed → s.src.keyCount + 1 < half →
        t.src = { s.src with keyCount := s.src.keyCount + 1 }) ∧
      (keyed → half ≤ s.src.keyCount + 1 →
        t.src = { s.src with edgeDue := true } ∧ (s.src.edgeDue = false → t.src.beaconPin = !s.src.beaconPin)) ∧
      t.soak =
        { s.soak with
          lowSeen := s.soak.lowSeen || (s.soak.running && s.supply.low), joint := t.soak.joint, fades := t.soak.fades
          list := t.soak.list, discards := t.soak.discards } ∧
      t.supply = { s.supply with debounce := Timer.tick s.supply.debounce } ∧ t.pos.axes = s.pos.axes ∧
      t.pos.snapshot =
        { az := s.pos.axes.az.count, el := s.pos.axes.el.count, azSaturated := s.pos.axes.az.saturated
          elSaturated := s.pos.axes.el.saturated }

/-- A sample event in SWEEP that the steering channel admits is refused under the first reason that applies, or
recorded in the cell of the snapshot, with the sweep best following; under a geometry that R48 allows a snapshot's cell
is the one that covers its counts, and it is outside where the map does not cover them (R49, R54 to R57; log 3). -/
def Obligations.SampleIsMapped : Prop :=
  (∀ g : Geometry, GeometrySound g → PlacesByRule g) ∧
  ∀ (codes : ByInput Nat) (s : State), Quiet s →
    let x := roleSample s codes (steeringRole s.level.steering)
    let skipped := Skipped s (steeringRole s.level.steering) x
    ∃ t, exec (.sampleEvent codes) s = .next t ∧
      (s.map.state ≠ .recording ∨ skipped → t.map = s.map) ∧
      (s.map.state = .recording → ¬ skipped →
        ∃ l, t.level.steeringLevel = some l ∧
          let isForeign := ∃ h, t.ident.state = .foreign h
          let saturated := t.pos.snapshot.azSaturated = true ∨ t.pos.snapshot.elSaturated = true
          let place := s.settings.geometry.place t.pos.snapshot.az t.pos.snapshot.el
          (isForeign → t.map = { s.map with foreign := satInc 65535 s.map.foreign }) ∧
          (¬ isForeign → saturated → t.map = { s.map with saturated := satInc 65535 s.map.saturated }) ∧
          (¬ isForeign → ¬ saturated → place = none →
            t.map = { s.map with outside := satInc 65535 s.map.outside }) ∧
          (∀ p, ¬ isForeign → ¬ saturated → place = some p →
            t.map = { s.map with
              cells := t.map.cells, visits := t.map.visits, best := t.map.best, range := t.map.range } ∧
            (∀ c, s.map.find p = some c →
              t.map.visits = s.map.visits ∧
              t.map.find p = some { c with count := satInc 255 c.count, best := max c.best l }) ∧
            (s.map.find p = none →
              t.map.visits = s.map.visits + 1 ∧
              t.map.find p =
                some { column := p.column, row := p.row, count := 1, best := l, visit := s.map.visits + 1 }) ∧
            (∀ q, q ≠ p → t.map.find q = s.map.find q) ∧
            t.map.range = (if t.steeringRange = .inRange then s.map.range else satInc 65535 s.map.range) ∧
            t.map.best =
              (match s.map.best with
              | none => some { level := l, cell := p }
              | some b => if b.level < l then some { level := l, cell := p } else some b)))

/-- R178: the joint-fade count goes up at each sample event of a running soak, with diversity fitted, at which both
co-polar comparators are FADED; with the diversity flag clear it stays as it is. -/
def Obligations.JointFadesAreCounted : Prop :=
  ∀ (codes : ByInput Nat) (s : State), Quiet s →
    ∃ t, exec (.sampleEvent codes) s = .next t ∧
      (s.soak.running = true → s.settings.diversity = true →
        t.level.channels.coMain.cmp.state = .faded → t.level.channels.coDiv.cmp.state = .faded →
        t.soak.joint = satInc 4294967295 s.soak.joint) ∧
      (s.soak.running = false ∨ s.settings.diversity = false ∨ t.level.channels.coMain.cmp.state = .clear ∨
        t.level.channels.coDiv.cmp.state = .clear → t.soak.joint = s.soak.joint)

/-! ### Position counter -/

/-- ENCODER_TRANSITION: the lines that have run their filter time pass; one line counts a step up or down, lost at
a limit; two lines are a slip; none is no effect (R37 to R41, R59; log 1). -/
def Obligations.EncoderTransitionCountsOrSlips : Prop :=
  ∀ (x : Axis) (s : State),
    let n := s.settings.filterTicks
    let a := s.pos.axes.get x
    let dueA := a.lineA.due n = true
    let dueB := a.lineB.due n = true
    let pass (due : Prop) [Decidable due] (l : LineState) : LineState :=
      if due then { l with filtered := l.raw, candidate := 0 } else l
    let up := if dueA then a.lineA.raw ≠ a.lineB.filtered else a.lineA.filtered = a.lineB.raw
    (¬ dueA → ¬ dueB → exec (.encoderTransition x) s = .next s) ∧
    (dueA ∨ dueB →
      ∃ t, exec (.encoderTransition x) s = .next t ∧
        t = { s with pos := { s.pos with axes := t.pos.axes }, map := t.map, site := t.site } ∧
        (∀ y, y ≠ x → t.pos.axes.get y = s.pos.axes.get y) ∧
        let b := t.pos.axes.get x
        b.lineA = pass dueA a.lineA ∧ b.lineB = pass dueB a.lineB ∧
        (dueA → dueB →
          b.count = a.count ∧ b.saturated = a.saturated ∧ b.slipped = true ∧
            b.slipCount = satInc 65535 a.slipCount ∧
            t.site = (if a.slipped then s.site else s.site.signal (.slip x b.slipCount s.pos.snapshot)) ∧
            (s.hop.phase = .sweep → (s.map.slips.get x).flag = false →
              t.map = { s.map with slips := s.map.slips.set x { flag := true, mark := some s.map.visits } }) ∧
            (s.hop.phase ≠ .sweep ∨ (s.map.slips.get x).flag = true → t.map = s.map)) ∧
        (¬ (dueA ∧ dueB) →
          b.slipped = a.slipped ∧ b.slipCount = a.slipCount ∧ t.map = s.map ∧ t.site = s.site ∧
          (up → a.count < 32767 → b.count = a.count + 1 ∧ b.saturated = false) ∧
          (up → 32767 ≤ a.count → b.count = a.count ∧ b.saturated = true) ∧
          (¬ up → -32768 < a.count → b.count = a.count - 1 ∧ b.saturated = false) ∧
          (¬ up → a.count ≤ -32768 → b.count = a.count ∧ b.saturated = true)))

/-! ### Lobe analyser -/

/-- ANALYSIS_COMPLETE: a running analysis stores its list, its verdict by the table of R76 and its record, starts
the 5 s repeat timer, queues the VERDICT and raises its event; with a partner record held the cross-check runs, and a
CONFIRMED one adds the role to the confirmed set; without one it waits. An analysis that is not running has no
completion (R69, R70, R76 to R78, R82, R84, R85; log 1). -/
def Obligations.AnalysisCompletes : Prop :=
  ∀ s : State,
    (s.lobe.state ≠ .running → exec .analysisComplete s = .next s) ∧
    (∀ id role, s.lobe.state = .running → s.lobe.id = some id → s.map.role = some role →
      let g := s.settings.predicted.get role
      let list := lobeList s.settings.geometry s.settings.sideDepth s.map.cells
      ∃ t v, exec .analysisComplete s = .next t ∧
        t = { s with draws := t.draws, lobe := t.lobe, route := t.route, site := t.site } ∧
        t.lobe.state = .complete ∧ t.lobe.id = some id ∧ t.lobe.list = list ∧ t.lobe.own = some v ∧
        t.lobe.overflow = lobeOverflow s.map.cells ∧ t.lobe.repeatTimer = some 5000 ∧
        t.lobe.ignored = s.lobe.ignored ∧
        v.id = id ∧ v.role = role ∧ v.predicted = g ∧
        v.verdict =
          (match list with
          | [] => Verdict.noData
          | top :: _ =>
            if g - s.settings.mainTolerance ≤ top.level then
              if top.supported = true ∧ top.edge = false then Verdict.mainFound else Verdict.unresolved
            else if g - s.settings.sideDepth ≤ top.level then Verdict.mainLow
            else Verdict.sideOnly) ∧
        v.top = (match list with | [] => none | top :: _ => some { level := top.level, deviation := top.level - g }) ∧
        v.xpd = s.level.xpd s.level.steering ∧ v.diversity = s.level.diversityDifference ∧
        (v.positionSuspect = true ↔ s.map.slips.az.flag = true ∨ s.map.slips.el.flag = true) ∧
        (v.foreignSeen = true ↔ 0 < s.map.foreign) ∧ (v.outsideSeen = true ↔ 0 < s.map.outside) ∧
        (v.listOverflow = true ↔ 0 < lobeOverflow s.map.cells) ∧
        (∀ st, s.station = some st → t.route = (queuedFor st (.verdict v) s.draws s.route).2) ∧
        (s.station = none → t.route = s.route) ∧
        let told :=
          s.site.signal
            (.verdict v.verdict role v.top v.positionSuspect v.foreignSeen v.outsideSeen v.listOverflow)
        (s.lobe.held = none →
          t.site = told ∧ t.lobe.result = s.lobe.result ∧ t.lobe.confirmed = s.lobe.confirmed ∧
            t.lobe.held = none ∧
              t.lobe.kept = s.lobe.kept.set role (some { own := v, partner := none, result := .pending })) ∧
        (∀ w, s.lobe.held = some w →
          let r := crossCheck s.settings v w
          t.lobe.result = r ∧ t.lobe.held = some w ∧
            t.lobe.confirmed =
              { main := s.lobe.confirmed.main || (role == .main && r == .confirmed)
                div := s.lobe.confirmed.div || (role == .div && r == .confirmed) } ∧
            t.site = told.signal (.crosscheck r role t.lobe.confirmed) ∧
            t.lobe.kept = s.lobe.kept.set role (some { own := v, partner := some w, result := r })))

/-- The lobe list: the first 8 local maxima, by level and then by visit, the first TOP and the later ones SIDE or
MINOR, each once, with its count of visited neighbours and its two flags; the others are counted as the overflow
(R72 to R75). -/
def Obligations.LobeListHoldsTheMaxima : Prop :=
  ∀ (g : Geometry) (side : Nat) (cells : List CellRecord),
    let list := lobeList g side cells
    let near (c d : CellRecord) : Bool :=
      decide (c.column ≤ d.column + 1 ∧ d.column ≤ c.column + 1 ∧ c.row ≤ d.row + 1 ∧ d.row ≤ c.row + 1 ∧
        ¬ (c.column = d.column ∧ c.row = d.row))
    let maximum (c : CellRecord) : Bool :=
      cells.all fun d => !near c d || decide (d.best < c.best ∨ d.best = c.best ∧ c.visit ≤ d.visit)
    let maxima := cells.filter maximum
    list.length = min 8 maxima.length ∧ lobeOverflow cells = min 255 (maxima.length - 8) ∧
      (list.Pairwise fun a b => b.level < a.level ∨ b.level = a.level ∧ a.visit ≤ b.visit) ∧
      (∀ e ∈ list, ∃ c ∈ maxima,
        e.cell = { column := c.column, row := c.row } ∧ e.level = c.best ∧ e.visit = c.visit ∧
          e.neighbours = (cells.filter (near c)).length ∧ (e.supported = true ↔ 3 ≤ e.neighbours) ∧
          (e.edge = true ↔ c.column = 0 ∨ c.column + 1 = g.columns ∨ c.row = 0 ∨ c.row + 1 = g.rows)) ∧
      (∀ c ∈ maxima,
        (∃ e ∈ list, e.cell = { column := c.column, row := c.row }) ∨
          (list.length = 8 ∧ ∀ e ∈ list, c.best < e.level ∨ c.best = e.level ∧ e.visit ≤ c.visit)) ∧
      ((cells.map CellRecord.pos).Nodup → (list.map LobeEntry.cell).Nodup) ∧
      ∀ top rest, list = top :: rest →
        top.rank = .top ∧ ∀ e ∈ rest, e.rank = if e.level ≤ top.level - side then LobeClass.side else LobeClass.minor

/-- The cross-check of two records by the table of R83; a MAIN_FOUND record without a deviation fails the symmetry
test, the model's choice (log 33). -/
def Obligations.CrossCheckFollowsTheTable : Prop :=
  ∀ (st : Settings) (own partner : VerdictRecord),
    let near : Bool :=
      match own.top, partner.top with
      | some t, some u => decide ((t.deviation - u.deviation).natAbs ≤ st.asymmetryLimit)
      | _, _ => false
    let xpdEnough : Bool := match own.xpd with | none => false | some x => decide ((st.requiredXpd : Int) ≤ x)
    let balanced : Bool :=
      match own.diversity with | none => false | some x => decide (x.natAbs ≤ st.imbalanceLimit)
    crossCheck st own partner =
      if own.verdict ≠ .mainFound then CrossResult.rejected .localNotMain
      else if partner.verdict ≠ .mainFound then CrossResult.rejected .partnerNotMain
      else if own.role = .main ∧ partner.role = .main ∧ near = false then CrossResult.rejected .asymmetry
      else if st.dualPol = true ∧ xpdEnough = false then CrossResult.rejected .xpdLow
      else if own.role = .div ∧ balanced = false then CrossResult.rejected .diversityImbalance
      else CrossResult.confirmed

/-- RECEIVE_VERDICT from the partner, by phase and analyser state: held in SWEEP; in CONFIRM cross-checked, held or
ignored; ignored and counted elsewhere (R81, R82, R84, R85). -/
def Obligations.VerdictIsTaken : Prop :=
  ∀ (st : Station) (h : Header) (b : VerdictRecord) (s : State), Delivered st h s → b.wellFormed = true →
    ∃ t, exec (.receiveVerdict h b) s = .next t ∧
      t = { s with
        draws := t.draws, lobe := t.lobe, route := t.route, src := t.src, margin := t.margin
        handover := t.handover, site := t.site } ∧
      let counted : Analyser := { s.lobe with ignored := min 255 (s.lobe.ignored + 1) }
      let pending := s.lobe.result = .pending
      let matching := s.lobe.id = some b.id
      (s.hop.phase = .sweep → t.lobe = { s.lobe with held := some b }) ∧
      (s.hop.phase = .confirm → pending → matching → s.lobe.own = none →
        t.lobe = { s.lobe with held := some b }) ∧
      (∀ own, s.hop.phase = .confirm → pending → matching → s.lobe.own = some own →
        let r := crossCheck s.settings own b
        t.lobe =
          { s.lobe with
            held := some b, result := r
            kept := s.lobe.kept.set own.role (some { own := own, partner := some b, result := r })
            confirmed :=
              { main := s.lobe.confirmed.main || (own.role == .main && r == .confirmed)
                div := s.lobe.confirmed.div || (own.role == .div && r == .confirmed) } } ∧
          t.site =
            (heardFrom { header := h, body := .verdict b } s).site.signal
              (.crosscheck r own.role t.lobe.confirmed)) ∧
      (s.hop.phase = .confirm → ¬ pending → matching → t.lobe = s.lobe) ∧
      (s.hop.phase = .confirm → ¬ matching → t.lobe = counted) ∧
      (s.hop.phase ≠ .sweep → s.hop.phase ≠ .confirm → t.lobe = counted)

/-! ### Cue unit -/

/-- CUE_UPDATE: the level used, the tone state, the staged half-period, the staged duty, the cadence and the generator
follow their tables; the figures that QUERY STATUS shows of the cue unit are those standing after it, with the
reference in RELATIVE and the age of the partner level; the live duty and the meter period are left as they stand; an
update that is not due has no effect (R91 to R94, R96 to R98, R100, R102; log 1, 13). -/
def Obligations.CueUpdates : Prop :=
  ∀ s : State,
    (s.cue.updateDue = false → exec .cueUpdate s = .next s) ∧
    (s.cue.updateDue = true →
      let st := s.settings
      let steer := s.level.steeringLevel
      let stale := ∀ l, s.partnerLevel = some l → 2000 < s.time.now.since l.time
      let reference := if s.hop.phase = .sweep then s.map.best.map SweepBest.level else s.lobe.top.map LobeEntry.level
      ∃ t, exec .cueUpdate s = .next t ∧ t = { s with cue := t.cue } ∧ t.cue.updateDue = false ∧
        t.cue.source = s.cue.source ∧ t.cue.updateTimer = s.cue.updateTimer ∧
        t.cue.liveDuty = s.cue.liveDuty ∧ t.cue.periodCounter = s.cue.periodCounter ∧
        t.cue.periodDue = s.cue.periodDue ∧
        t.cue.shown =
          { source := s.cue.source, tone := t.cue.tone, cadence := t.cue.cadence, stagedHalf := t.cue.stagedHalf
            modulus := st.modulus, stagedDuty := t.cue.stagedDuty, used := t.cue.used
            reference := if s.cue.source = .relative then reference else none
            age :=
              s.partnerLevel.map fun l =>
                s.time.now.second * 1000 + s.time.now.index - (l.time.second * 1000 + l.time.index) } ∧
        t.cue.cadenceDue =
          (if t.cue.tone = s.cue.tone ∧ (t.cue.tone = .stale ∨ t.cue.tone = .foreign) then s.cue.cadenceDue
            else false) ∧
        (s.cue.source = .steer → t.cue.used = steer) ∧
        (s.cue.source = .partner → stale → t.cue.used = none) ∧
        (s.cue.source = .partner → ¬ stale → t.cue.used = s.partnerLevel.map TimedLevel.level) ∧
        (s.cue.source = .relative → ∀ x y, steer = some x → reference = some y → t.cue.used = some (x - y)) ∧
        (s.cue.source = .relative → steer = none ∨ reference = none → t.cue.used = none) ∧
        (s.profile.cueOn = false → t.cue.tone = .off) ∧
        (s.profile.cueOn = true → (∃ h, s.ident.state = .foreign h) → t.cue.tone = .foreign) ∧
        (s.profile.cueOn = true → (¬ ∃ h, s.ident.state = .foreign h) → s.cue.source = .partner → stale →
          t.cue.tone = .stale) ∧
        (s.profile.cueOn = true → (¬ ∃ h, s.ident.state = .foreign h) → s.cue.source ≠ .partner ∨ ¬ stale →
          t.cue.tone = .tone) ∧
        (t.cue.tone = .tone →
          t.cue.cadence = 0 ∧
          (t.cue.used = none → t.cue.stagedHalf = 640 ∧ t.cue.stagedDuty = 0) ∧
          (∀ l, t.cue.used = some l → s.cue.source ≠ .relative →
            t.cue.stagedHalf = 640 - 8 * (max 0 (min 63 ((l - st.toneFloor) / st.toneStep))).toNat ∧
            t.cue.stagedDuty =
              (max 0 (min ((st.modulus : Int) - 1) ((l - st.meterFloor) * st.modulus / st.meterSpan))).toNat) ∧
          (∀ l, t.cue.used = some l → s.cue.source = .relative →
            t.cue.stagedHalf = 640 - 8 * (max 0 (min 63 (63 + l / st.toneStep))).toNat ∧
            t.cue.stagedDuty =
              (max 0 (min ((st.modulus : Int) - 1)
                ((st.modulus : Int) - 1 + l * st.modulus / st.meterSpan))).toNat)) ∧
        (t.cue.tone = .off →
          t.cue.cadence = 0 ∧ t.cue.stagedDuty = 0 ∧ t.cue.stagedHalf = s.cue.stagedHalf ∧
            t.cue.generator =
              (if s.cue.tone ≠ .off ∧ s.cue.generator = .sounding then Generator.stopping else s.cue.generator)) ∧
        (t.cue.tone = .stale →
          t.cue.stagedHalf = s.cue.stagedHalf ∧ t.cue.stagedDuty = s.cue.stagedDuty ∧
            (s.cue.tone ≠ .stale → t.cue.cadence = 0 ∧ t.cue.generator = .sounding) ∧
            (s.cue.tone = .stale → t.cue.cadence = s.cue.cadence ∧ t.cue.generator = s.cue.generator)) ∧
        (t.cue.tone = .foreign →
          t.cue.stagedDuty = 0 ∧ t.cue.generator = .sounding ∧
            (s.cue.tone ≠ .foreign → t.cue.cadence = 0 ∧ t.cue.stagedHalf = 640) ∧
            (s.cue.tone = .foreign → t.cue.cadence = s.cue.cadence ∧ t.cue.stagedHalf = s.cue.stagedHalf)) ∧
        (t.cue.tone = .tone → t.cue.generator = .sounding) ∧
        (s.cue.generator = .silent → t.cue.generator = .sounding →
          t.cue.output = true ∧ t.cue.halfCounter = 0 ∧ t.cue.liveHalf = t.cue.stagedHalf) ∧
        (s.cue.generator ≠ .silent ∨ t.cue.generator ≠ .sounding →
          t.cue.output = s.cue.output ∧ t.cue.halfCounter = s.cue.halfCounter ∧ t.cue.liveHalf = s.cue.liveHalf))

/-- STALE_CADENCE, FOREIGN_CADENCE, TONE_TOGGLE and METER_PERIOD_START each do their work when it is due, and change
the cue unit alone; one that is not due has no effect. The meter output is high for the first ticks of a period, as
many as its duty (R95, R96, R97, R98, R99; log 1). -/
def Obligations.CueEventsAct : Prop :=
  ∀ s : State,
    let c := s.cue
    let cue (x : Cue) : State := { s with cue := x }
    (c.cadenceDue = false ∨ c.tone ≠ .stale → exec .staleCadence s = .next s) ∧
    (c.cadenceDue = true → c.tone = .stale →
      (c.cadence = 250 → c.generator = .sounding →
        exec .staleCadence s = .next (cue { c with cadenceDue := false, generator := .stopping })) ∧
      (c.cadence = 250 → c.generator ≠ .sounding →
        exec .staleCadence s = .next (cue { c with cadenceDue := false })) ∧
      (c.cadence = 0 → c.generator = .silent →
        exec .staleCadence s = .next
          (cue
            { c with
              cadenceDue := false, generator := .sounding, output := true, halfCounter := 0
              liveHalf := c.stagedHalf })) ∧
      (c.cadence = 0 → c.generator ≠ .silent →
        exec .staleCadence s = .next (cue { c with cadenceDue := false, generator := .sounding }))) ∧
    (c.cadenceDue = false ∨ c.tone ≠ .foreign → exec .foreignCadence s = .next s) ∧
    (c.cadenceDue = true → c.tone = .foreign →
      (c.cadence = 125 →
        exec .foreignCadence s = .next (cue { c with cadenceDue := false, stagedHalf := 136 })) ∧
      (c.cadence = 0 →
        exec .foreignCadence s = .next (cue { c with cadenceDue := false, stagedHalf := 640 }))) ∧
    (c.generator = .silent ∨ c.halfCounter < c.liveHalf → exec .toneToggle s = .next s) ∧
    (c.generator = .sounding → c.liveHalf ≤ c.halfCounter →
      exec .toneToggle s = .next
        (cue { c with output := !c.output, liveHalf := c.stagedHalf, halfCounter := 0 })) ∧
    (c.generator = .stopping → c.liveHalf ≤ c.halfCounter →
      exec .toneToggle s = .next
        (cue { c with output := false, liveHalf := c.stagedHalf, halfCounter := 0, generator := .silent })) ∧
    (c.periodDue = false → exec .meterPeriodStart s = .next s) ∧
    (c.periodDue = true →
      exec .meterPeriodStart s = .next (cue { c with periodDue := false, liveDuty := c.stagedDuty })) ∧
    (c.meterOutput = true ↔ c.periodCounter < if c.periodDue then c.stagedDuty else c.liveDuty)

/-! ### Site port -/

/-- Every query taken with room in the output queue appends its ACCEPTED reply, built from the state standing, and
changes nothing else; QUERY_LOBES during an analysis is refused BUSY, QUERY_MAP_CELL outside the map BAD_FIELD. The
replies carry the fields their rules list (R22, R34, R43, R63, R64, R80, R86, R87, R102, R116, R119, R147, R164,
R189, R192, R199; log 13). -/
def Obligations.QueriesAreAnswered : Prop :=
  ∀ s : State, Room s →
    (GeometrySound s.settings.geometry → PlacesByRule s.settings.geometry) ∧
    let answer (r : Reply) (clears : List EventFlag) : State :=
      { s with site := { s.site with framer := .hunting, out := s.site.out ++ [.accepted r clears] } }
    let refuse (r : RefuseReason) : State :=
      { s with site := { s.site with framer := .hunting, out := s.site.out ++ [.refused 2 r none] } }
    let st := s.settings
    let snap := s.pos.snapshot
    let none3 : ApplySet := { second := false, keyingEdge := false, syncPin := false }
    let status : StatusReply :=
      { ident :=
          { running := s.ident.running, state := s.ident.state, closedBlocks := s.ident.closed.length
            swing := s.ident.swing, decision := s.ident.decision, ringCount := s.ident.ring.length
            ring := s.ident.ring }
        cue :=
          { shown := s.cue.shown, pitch := (640 - s.cue.shown.stagedHalf) / 8, generator := s.cue.generator
            liveHalf := s.cue.liveHalf, liveDuty := s.cue.liveDuty }
        hop :=
          { phase := s.hop.phase, haltCause := s.hop.haltCause, profile := s.hop.profile
            configured := s.station.isSome, outstanding := s.hop.outstanding, failed := s.hop.failed
            lastAnswered := s.hop.lastAnswered, lastAccepted := s.hop.lastAccepted, nextNumber := s.hop.nextNumber
            mismatch := s.hop.mismatch, entryHold := s.hop.entryHold.isSome, autoTimer := s.hop.autoTimer.isSome
            serial := s.hop.serial, ignored := s.hop.ignored, partner := s.route.partner
            conflict := s.route.conflict }
        source :=
          { beacon := s.src.beacon, beaconSet := none3, atten := s.src.atten, attenSet := st.attenSources
            pattern := s.src.pattern, patternSet := { none3 with second := true }
            keying :=
              if s.src.beacon.live = .keyed then some { output := s.src.keyOut, count := s.src.keyCount } else none
            syncFiltered := s.src.sync.filtered, genWord := s.src.genWord, genBit := s.src.genBit
            state := s.chk.state, expected := s.chk.expected, confirm := s.chk.confirm, hits := s.chk.hits
            totals := s.chk.totals, latest := s.chk.latest, lockCount := s.chk.lockCount
            slipCount := s.chk.slipCount }
        flags := s.site.flags, mask := s.site.mask, counters := s.site.counters, supplyLow := s.supply.low
        configured := s.station.isSome, second := s.time.now.second }
    let levelOf (r : Role) : Option Level :=
      let c := s.level.channels.get r
      if c.fresh then none else some ((c.acc + 128) / 256)
    let apart (x y : Option Level) : Option Int :=
      match x, y with
      | some a, some b => some (a - b)
      | _, _ => none
    let figures (r : Role) : RoleFigures :=
      let c := s.level.channels.get r
      { input := st.mapping.get r, range := (s.level.inputs.get (st.mapping.get r)).range, level := levelOf r
        admitted := c.admitted, gated := c.gated, fade := c.cmp.state }
    let levels (gate : Bool) : LevelsReply :=
      { roles :=
          { coMain := figures .coMain, xMain := figures .xMain, coDiv := figures .coDiv, xDiv := figures .xDiv }
        warnings :=
          { detA := s.level.inputs.detA.warning, detB := s.level.inputs.detB.warning
            detC := s.level.inputs.detC.warning, detD := s.level.inputs.detD.warning }
        steering := s.level.steering, gate := gate, xpdMain := apart (levelOf .coMain) (levelOf .xMain)
        xpdDiv := apart (levelOf .coDiv) (levelOf .xDiv), diversity := apart (levelOf .coMain) (levelOf .coDiv) }
    let summary : MapSummaryReply :=
      { state := s.map.state, serial := s.hop.serial, geometry := st.geometry, role := s.map.role
        visits := s.map.visits, best := s.map.best, outside := s.map.outside, foreign := s.map.foreign
        saturated := s.map.saturated, range := s.map.range, slips := s.map.slips, az := snap.az, el := snap.el
        cell := st.geometry.place snap.az snap.el }
    let centreAz (column : Nat) : Int :=
      ((column : Int) - (st.geometry.columns / 2 : Nat)) * st.geometry.cellWidth + (st.geometry.cellWidth / 2 : Nat)
    let centreEl (row : Nat) : Int :=
      ((row : Int) - (st.geometry.rows / 2 : Nat)) * st.geometry.cellHeight + (st.geometry.cellHeight / 2 : Nat)
    let lobes : LobesReply :=
      { state := s.lobe.state, serial := s.hop.serial, count := s.lobe.list.length, list := s.lobe.list
        overflow := s.lobe.overflow
        offset :=
          (match s.lobe.state, s.lobe.list with
          | .complete, top :: _ =>
            some { az := centreAz top.cell.column - snap.az, el := centreEl top.cell.row - snap.el }
          | _, _ => none)
        snapshot := snap }
    let live := (s.route.roster.filter fun e => e.liveness == .live).length
    let roster : RosterReply :=
      { entries :=
          s.route.roster.map fun e =>
            { entry := e
              levelAge :=
                e.level.map fun l =>
                  s.time.now.second * 1000 + s.time.now.index - (l.time.second * 1000 + l.time.index) }
        partnerEntry := s.partnerEntry.map RosterEntry.station, partner := s.route.partner, liveCount := live
        window := if live ≤ 3 then 8 else if live ≤ 7 then 16 else if live ≤ 11 then 32 else 64
        clash := s.route.clash, conflict := s.route.conflict, contention := s.route.contention
        inFlight := s.route.inFlight.map fun q => q.frame.body.kind, backoff := s.route.backoff
        waiting := s.route.waiting.map fun q => q.frame.body.kind, counters := s.route.counters }
    let k := s.soak
    let soak : SoakReply :=
      { state := k.state, settling := k.settling, elapsed := k.elapsed, duration := st.soakMinutes * 60
        availability := k.availability, pending := k.pending, clean := k.clean, errored := k.errored, bad := k.bad
        outage := k.outage, suspect := k.suspect, periods := k.periods, currentOutage := k.currentOutage
        longestOutage := k.longestOutage, verdict := k.verdict, latest := k.latest, partnerDigest := k.partnerDigest
        maxErrored := st.maxErrored, maxBad := st.maxBad, maxOutage := st.maxOutage }
    let fades : FadesReply :=
      { fades :=
          { coMain := some k.fades.coMain, xMain := if st.dualPol then some k.fades.xMain else none
            coDiv := if st.diversity then some k.fades.coDiv else none
            xDiv := if st.diversity && st.dualPol then some k.fades.xDiv else none }
        joint := k.joint, list := k.list, discards := k.discards }
    let m := s.margin
    let direction (d : Direction) : DirectionFigures :=
      { state := m.states.get d
        role := (match s.station with | none => MarginRole.none | some own => roleIn own.hopEnd d)
        result := m.results.get d }
    let margin : MarginReply :=
      { enabled := st.marginEnabled, step := st.marginStep, dwellSetting := st.marginDwell
        required := st.requiredMargin, current := m.current
        directions := { one := direction .one, two := direction .two }, stepIndex := m.stepIndex
        announced := m.announced, dwell := m.dwell, stepDue := m.stepDue, heard := m.heard, latched := m.latched
        acknowledged := m.acknowledged, doneTimer := m.doneTimer.isSome, silence := m.silence
        attenLive := s.src.atten.live, attenStaged := s.src.atten.staged }
    exec .queryStatus s = .next (answer (.status status) s.site.flags) ∧
    (∃ gate, (gate = true ↔ s.ident.state = .own ∨ ∃ h, s.ident.state = .foreign h) ∧
      exec .queryLevels s = .next (answer (.levels (levels gate)) [])) ∧
    exec .queryPosition s = .next
      (answer
        (.position
          { snapshot := snap
            slipped := { az := s.pos.axes.az.slipped, el := s.pos.axes.el.slipped }
            slipCounts := { az := s.pos.axes.az.slipCount, el := s.pos.axes.el.slipCount }
            filterTicks := st.filterTicks }) []) ∧
    (∀ column row : Byte, column.toNat < st.geometry.columns → row.toNat < st.geometry.rows →
      let cell := s.map.find { column := column.toNat, row := row.toNat }
      exec (.queryMapCell column row) s = .next
        (answer
          (.mapCell
            { serial := s.hop.serial, state := s.map.state, column := column.toNat, row := row.toNat
              count := (cell.map CellRecord.count).getD 0, best := cell.map CellRecord.best
              visit := cell.map CellRecord.visit, centreAz := centreAz column.toNat, centreEl := centreEl row.toNat
              current :=
                st.geometry.place snap.az snap.el == some { column := column.toNat, row := row.toNat } }) [])) ∧
    exec .queryMapSummary s = .next (answer (.mapSummary summary) []) ∧
    (s.lobe.state ≠ .running → exec .queryLobes s = .next (answer (.lobes lobes) [])) ∧
    exec .queryVerdict s = .next
      (answer
        (.verdict
          { state := s.lobe.state, id := s.lobe.id, own := s.lobe.own, held := s.lobe.held, result := s.lobe.result
            confirmed := s.lobe.confirmed, ignored := s.lobe.ignored, kept := s.lobe.kept }) []) ∧
    exec .queryRoster s = .next (answer (.roster roster) []) ∧
    exec .querySoak s = .next (answer (.soak soak) []) ∧
    exec .queryFades s = .next (answer (.fades fades) []) ∧
    exec .queryMargin s = .next (answer (.margin margin) []) ∧
    exec .queryHandover s = .next (answer (.handover s.handover) []) ∧
    (s.lobe.state = .running → exec .queryLobes s = .next (refuse .busy)) ∧
    ∀ column row : Byte,
      st.geometry.columns ≤ column.toNat ∨ st.geometry.rows ≤ row.toNat →
      exec (.queryMapCell column row) s = .next (refuse .badField)

/-- The output queue: an event sets its flag whatever the mask, and its report, when its kind's bit is set, joins a
queue of fewer than 8 or is dropped and counted; a waiting QUERY STATUS reply keeps that flag set. A request that finds
8 messages is discarded, counting an overrun alone; the head is sent first, in the bytes of R191, and a QUERY STATUS
reply clears the flags it showed that have not been set again since. Each report is of the event flag, and has the
number and the mask bit, that the table of R194 gives its kind. A message is its start byte, the length of type and
body, those, and the byte that brings the sum to 0; an ACCEPTED carries the type of its request; a REFUSED carries the
request's type, the reason's number and, for a SETUP, the field's; the line carries each byte as ten levels (R191, R193,
R194; log 1, 19, 23, 27). -/
def Obligations.OutputQueueTakesAndSends : Prop :=
  let kind (r : Report) : EventFlag × Nat :=
    match r with
    | .range i _ => (.range i, 0)
    | .ident _ => (.ident, 1)
    | .foreign _ _ _ _ => (.foreign, 2)
    | .slip _ _ _ => (.slip, 3)
    | .fade role _ _ _ _ => (.fade role, 4)
    | .verdict _ _ _ _ _ _ _ => (.verdict, 5)
    | .crosscheck _ _ _ => (.crosscheck, 6)
    | .clash _ _ _ => (.clash, 7)
    | .endsConflict _ _ => (.endsConflict, 8)
    | .partner _ _ => (.partner, 9)
    | .phase _ _ _ => (.phase, 10)
    | .proposal _ _ _ _ => (.proposal, 11)
    | .mismatch _ _ => (.mismatch, 12)
    | .pattern _ _ _ => (.pattern, 13)
    | .outage _ _ _ _ => (.outage, 14)
    | .soak _ _ _ _ _ _ _ => (.soak, 15)
    | .margin _ _ _ _ _ _ => (.margin, 16)
    | .supply _ => (.supply, 17)
    | .handover _ => (.handover, 18)
  let requestType (r : Reply) : Byte :=
    match r with
    | .setup _ => 1
    | .advance _ _ => 3
    | .abort => 4
    | .restart => 5
    | .zero => 6
    | .cue _ => 7
    | .reports _ => 8
    | .status _ | .levels _ | .position _ | .mapCell _ | .mapSummary _ | .lobes _ | .verdict _ | .roster _ | .soak _
    | .fades _ | .margin _ | .handover _ => 2
  (∀ (c : Instr) (s : State), isRequest c = true → ¬ Room s →
    exec c s = .next
      { s with
        site :=
          { s.site with
            framer := .hunting
            counters := { s.site.counters with overruns := min 65535 (s.site.counters.overruns + 1) } } }) ∧
  (∀ s : State,
    (s.site.out = [] → exec .siteMessageTransmit s = .next s) ∧
    (∀ m rest, s.site.out = m :: rest →
      ∃ t, exec .siteMessageTransmit s = .next t ∧
        t = { s with site := { s.site with out := rest, sending := some m, flags := t.site.flags } } ∧
        t.site.wire = m.bytes ∧
        (∀ f, f ∈ t.site.flags ↔ f ∈ s.site.flags ∧ ∀ r clears, m = .accepted r clears → f ∉ clears))) ∧
  (∀ (r : Report) (s : State),
    let f := (kind r).1
    let p := s.site
    let q := (s.signal r).site
    let kept : List SiteMessage :=
      p.out.map fun m =>
        match m with
        | .accepted a clears => .accepted a (clears.filter fun g => g != f)
        | m => m
    let bit := p.mask.getLsbD (kind r).2
    s.signal r = { s with site := q } ∧ (∀ g, g ∈ q.flags ↔ g = f ∨ g ∈ p.flags) ∧
      (bit = true → p.out.length < 8 → q = { p with flags := q.flags, out := kept ++ [.report r] }) ∧
      (bit = true → 8 ≤ p.out.length →
        q =
          { p with
            flags := q.flags, out := kept
            counters := { p.counters with drops := min 65535 (p.counters.drops + 1) } }) ∧
      (bit = false → q = { p with flags := q.flags, out := kept })) ∧
  (∀ m : SiteMessage, ∃ check : Byte,
    m.bytes = 0xA7 :: (u16 m.body.length ++ m.body ++ [check]) ∧
      byteSum (u16 m.body.length ++ m.body ++ [check]) = 0) ∧
  (∀ (t : Byte) (reason : RefuseReason) (field : Option Nat),
    let number : Byte :=
      match reason with
      | .unconfigured => 1
      | .notNow => 2
      | .busy => 3
      | .notLegal => 4
      | .notReady => 5
      | .notConfirmed => 6
      | .partnerLost => 7
      | .proposalPending => 8
      | .endsConflict => 9
      | .badField => 10
    (SiteMessage.refused t reason field).body =
      0x81 :: t :: number :: (match field with | none => [] | some n => [BitVec.ofNat 8 n])) ∧
  (∀ (r : Reply) (clears : List EventFlag),
    ∃ content, (SiteMessage.accepted r clears).body = 0x80 :: requestType r :: content) ∧
  (∀ r : Report, ∃ content, (SiteMessage.report r).body = 0x90 :: BitVec.ofNat 8 (kind r).2 :: content) ∧
  ∀ p : Site,
    (∀ n b, p.wire[n]? = some b →
      p.lineAt (10 * n) = false ∧ (∀ i, i < 8 → p.lineAt (10 * n + 1 + i) = b.getLsbD i) ∧
        p.lineAt (10 * n + 9) = true) ∧
    ∀ n, 10 * p.wire.length ≤ n → p.lineAt n = true

/-- SETUP. Of an unconfigured station with a record without a fatal field: ACCEPTED with its clamped fields, every
setting taken, the station configured, the channels restarted, the roster kept but for an entry of the own number, which
is a clash, the partner liveness and the ends conflict taken from the roster, the supply debounce afresh, and a STATUS
queued with its timer started; a line that has run its filter time under the old N passes first (log 3). Refused NOT_NOW
when configured, and BAD_FIELD naming the first fatal field otherwise (R5, R46, R101, R112, R114, R115, R121, R192,
R195, R196, R198; log 7, 15, 21, 34, 47). -/
def Obligations.SetupIsAnswered : Prop :=
  (∀ (r : SetupRecord) (s : State), s.station = none → s.hop.phase = .idle → Room s → r.wellFormed = true →
    1 ≤ r.station → r.station ≤ 15 → 1 ≤ r.hop → r.hop ≤ 7 → 1 ≤ r.partner → r.partner ≤ 15 →
    r.partner ≠ r.station →
    ∃ t, exec (.setup r) s = .next t ∧
      t = { s with
        draws := t.draws, station := t.station, settings := t.settings, level := t.level, pos := t.pos, cue := t.cue
        route := t.route, handover := t.handover, site := t.site, supply := t.supply } ∧
      t.station =
        some
          { number := r.station, hop := r.hop, partner := r.partner
            hopEnd := if r.hopEnd = 0 then .a else .b } ∧
      t.settings = takeSettings r ∧ t.level.inputs = s.level.inputs ∧ t.level.steering = s.level.steering ∧
      (∀ q, t.level.channels.get q =
        { s.level.channels.get q with
          fresh := true, admitted := 0, gated := 0
          cmp := { (s.level.channels.get q).cmp with state := .clear, run := 0 } }) ∧
      (∀ x, (t.pos.axes.get x).lineA.candidate = 0 ∧ (t.pos.axes.get x).lineB.candidate = 0 ∧
        (t.pos.axes.get x).count = (s.settleLines.pos.axes.get x).count ∧
        ((s.pos.axes.get x).due s.settings.filterTicks = false →
          (t.pos.axes.get x).count = (s.pos.axes.get x).count)) ∧
      t.cue = { s.cue with periodCounter := 0, periodDue := false, stagedDuty := 0, liveDuty := 0 } ∧
      t.route.roster = s.route.roster.filter (fun e => e.station != r.station) ∧
      (s.route.roster.find? (fun e => e.station == r.station) = none →
        t.route.clash = s.route.clash ∧ t.route.counters.clashes = s.route.counters.clashes) ∧
      (∀ e, s.route.roster.find? (fun e => e.station == r.station) = some e →
        t.route.clash = true ∧ t.route.counters.clashes = min 65535 (s.route.counters.clashes + 1) ∧
          (s.route.clash = false → EventFlag.clash ∈ t.site.flags)) ∧
      (s.route.roster.find? (fun e => e.station == r.partner) = none →
        t.route.partner = .lost ∧ t.route.conflict = false) ∧
      (∀ e, s.route.roster.find? (fun e => e.station == r.partner) = some e →
        let conflict := e.hopEnd = (if r.hopEnd = 0 then HopEnd.a else HopEnd.b) ∨ e.hop ≠ r.hop
        t.route.partner = e.liveness ∧ (s.route.partner ≠ e.liveness → EventFlag.partner ∈ t.site.flags) ∧
          (t.route.conflict = true ↔ conflict) ∧
          (conflict → s.route.conflict = false → EventFlag.endsConflict ∈ t.site.flags)) ∧
      (∃ n, t.route.statusTimer = some n ∧ 2000 ≤ n ∧ n ≤ 2499) ∧
      (∀ st, t.station = some st → s.route.inFlight = none → s.route.waiting = [] →
        t.route.inFlight = some { frame := buildFrame st (.status (statusShown st t)), resend := false }) ∧
      (let level :=
        if r.supplyLow = 0 then 10800 else if r.supplyLow = 1 then 11400 else if r.supplyLow = 2 then 21600 else 22800
      let crossed := if s.supply.low then level + 300 < s.supply.sense else s.supply.sense < level
      t.supply = { s.supply with debounce := if crossed then some 100 else none }) ∧
      t.site.out[s.site.out.length]? = some (.accepted (.setup (clampedFields r)) [])) ∧
  ∀ (r : SetupRecord) (s : State), Room s → r.wellFormed = true →
    let refuse (reason : RefuseReason) (n : Nat) : State :=
      { s with site := { s.site with framer := .hunting, out := s.site.out ++ [.refused 1 reason (some n)] } }
    let stationBad := r.station < 1 ∨ 15 < r.station
    let hopBad := r.hop < 1 ∨ 7 < r.hop
    let partnerBad := r.partner < 1 ∨ 15 < r.partner ∨ r.partner = r.station
    (s.station ≠ none → exec (.setup r) s = .next (refuse .notNow 0)) ∧
    (s.station = none → stationBad → exec (.setup r) s = .next (refuse .badField 1)) ∧
    (s.station = none → ¬ stationBad → hopBad → exec (.setup r) s = .next (refuse .badField 2)) ∧
    (s.station = none → ¬ stationBad → ¬ hopBad → partnerBad → exec (.setup r) s = .next (refuse .badField 3))

/-- Every setting is the value given where that lies in its range, the nearer end where it does not, or the value
its rule rounds to; so each lies in its range. The clamped fields are those whose value taken differs from the value
given, in table order (R5, R6, R14, R17, R46, R48, R67, R101, R156, R158, R166, R195, R198). -/
def Obligations.TakenSettingsLieInRange : Prop :=
  ∀ r : SetupRecord,
    let st := takeSettings r
    let near (lo hi given taken : Int) : Prop :=
      lo ≤ taken ∧ taken ≤ hi ∧ (lo ≤ given → given ≤ hi → taken = given) ∧ (given < lo → taken = lo) ∧
        (hi < given → taken = hi)
    let nearNat (lo hi given taken : Nat) : Prop :=
      lo ≤ taken ∧ taken ≤ hi ∧ (lo ≤ given → given ≤ hi → taken = given) ∧ (given < lo → taken = lo) ∧
        (hi < given → taken = hi)
    let level (given taken : Level) : Prop := near (-1200) (-100) given taken
    let ticks (given taken : Nat) : Prop := (given < 32 → taken = 8) ∧ (32 ≤ given → taken = 32)
    let flag (given : Nat) (taken : Bool) : Prop := taken = true ↔ given ≠ 0
    let profile (given : ProfileFields) (taken : ProfileSettings) : Prop :=
      nearNat 0 7 given.shift taken.shift ∧ ticks given.filter taken.filter ∧
        (∀ q, level (given.thresholds.get q) (taken.thresholds.get q)) ∧
        nearNat 5 50 given.hysteresis taken.hysteresis ∧ flag given.cueOn taken.cueOn
    let changed (n : Nat) (given taken : Nat) : Nat × Bool := (n, given != taken)
    let changedInt (n : Nat) (given taken : Int) : Nat × Bool := (n, given != taken)
    let notBit (n : Nat) (given : Nat) : Nat × Bool := (n, decide (1 < given))
    let changedCal (n : Nat) (given taken : Calibration) : List (Nat × Bool) :=
      [changedInt n given.offset taken.offset, changed (n + 1) given.slope taken.slope]
    let changedProfile (n : Nat) (given : ProfileFields) (taken : ProfileSettings) : List (Nat × Bool) :=
      [changed n given.shift taken.shift, changed (n + 1) given.filter taken.filter,
        changedInt (n + 2) given.thresholds.coMain taken.thresholds.coMain,
        changedInt (n + 3) given.thresholds.xMain taken.thresholds.xMain,
        changedInt (n + 4) given.thresholds.coDiv taken.thresholds.coDiv,
        changedInt (n + 5) given.thresholds.xDiv taken.thresholds.xDiv,
        changed (n + 6) given.hysteresis taken.hysteresis, notBit (n + 7) given.cueOn]
    let fields : List (Nat × Bool) :=
      [notBit 4 r.hopEnd] ++ changedCal 5 r.calibration.detA st.calibration.detA ++
        changedCal 7 r.calibration.detB st.calibration.detB ++ changedCal 9 r.calibration.detC st.calibration.detC ++
        changedCal 11 r.calibration.detD st.calibration.detD ++
        [(13, decide (3 < r.inputs.coMain)), (14, decide (3 < r.inputs.xMain)), (15, decide (3 < r.inputs.coDiv)),
          (16, decide (3 < r.inputs.xDiv)), notBit 17 r.diversity, notBit 18 r.dualPol,
          changedInt 19 r.predictedMain st.predicted.main, changedInt 20 r.predictedDiv st.predicted.div,
          changed 21 r.mainTolerance st.mainTolerance, changed 22 r.sideDepth st.sideDepth,
          changed 23 r.asymmetryLimit st.asymmetryLimit, changed 24 r.requiredXpd st.requiredXpd,
          changed 25 r.imbalanceLimit st.imbalanceLimit, changed 26 r.columns st.geometry.columns,
          changed 27 r.rows st.geometry.rows, changed 28 r.cellWidth st.geometry.cellWidth,
          changed 29 r.cellHeight st.geometry.cellHeight, changed 30 r.filterTicks st.filterTicks] ++
        changedProfile 31 r.align st.align ++ changedProfile 39 r.soak st.soak ++
        [changedInt 47 r.toneFloor st.toneFloor, changed 48 r.toneStep st.toneStep,
          changedInt 49 r.meterFloor st.meterFloor, changed 50 r.meterSpan st.meterSpan,
          changed 51 r.modulus st.modulus, changed 53 r.soakMinutes st.soakMinutes, notBit 57 r.marginEnable,
          changed 58 r.marginStep st.marginStep, changed 59 r.marginDwell st.marginDwell,
          changed 60 r.requiredMargin st.requiredMargin, changed 62 r.supplyLow st.supplyLow]
    (∀ i, near (-1500) (-300) (r.calibration.get i).offset (st.calibration.get i).offset ∧
      nearNat 32 255 (r.calibration.get i).slope (st.calibration.get i).slope) ∧
    (∀ q, st.mapping.get q =
      if r.inputs.get q = 0 then Input.detA else if r.inputs.get q = 1 then Input.detB
      else if r.inputs.get q = 2 then Input.detC else Input.detD) ∧
    flag r.diversity st.diversity ∧ flag r.dualPol st.dualPol ∧ level r.predictedMain st.predicted.main ∧
    level r.predictedDiv st.predicted.div ∧ nearNat 10 60 r.mainTolerance st.mainTolerance ∧
    nearNat 100 300 r.sideDepth st.sideDepth ∧ nearNat 10 100 r.asymmetryLimit st.asymmetryLimit ∧
    nearNat 150 400 r.requiredXpd st.requiredXpd ∧ nearNat 20 150 r.imbalanceLimit st.imbalanceLimit ∧
    nearNat 8 32 (r.columns - r.columns % 4) st.geometry.columns ∧ st.geometry.columns % 4 = 0 ∧
    nearNat 4 16 (r.rows - r.rows % 2) st.geometry.rows ∧ st.geometry.rows % 2 = 0 ∧
    nearNat 1 64 r.cellWidth st.geometry.cellWidth ∧ nearNat 1 64 r.cellHeight st.geometry.cellHeight ∧
    ticks r.filterTicks st.filterTicks ∧ profile r.align st.align ∧ profile r.soak st.soak ∧
    near (-1200) (-200) r.toneFloor st.toneFloor ∧ nearNat 5 50 r.toneStep st.toneStep ∧
    level r.meterFloor st.meterFloor ∧ nearNat 100 1000 r.meterSpan st.meterSpan ∧
    (st.modulus = 16 ∨ st.modulus = 32 ∨ st.modulus = 64 ∨ st.modulus = 256) ∧
    (16 ≤ r.modulus → st.modulus ≤ r.modulus) ∧ (r.modulus < 16 → st.modulus = 16) ∧
    (∀ m, m = 32 ∨ m = 64 ∨ m = 256 → m ≤ r.modulus → m ≤ st.modulus) ∧
    (∀ words, r.words = some words → st.words = words) ∧
    (r.words = none → st.words = [0x3C5A, 0xC3A5, 0x0FF0, 0xF00F, 0x5AA5, 0xA55A, 0x9669, 0x6996]) ∧
    nearNat 15 1440 r.soakMinutes st.soakMinutes ∧ st.maxErrored = r.maxErrored ∧ st.maxBad = r.maxBad ∧
    st.maxOutage = r.maxOutage ∧ flag r.marginEnable st.marginEnabled ∧ nearNat 1 6 r.marginStep st.marginStep ∧
    nearNat 5 60 r.marginDwell st.marginDwell ∧ nearNat 0 60 r.requiredMargin st.requiredMargin ∧
    (st.attenSources.second = true ↔ r.attenSources % 2 = 1) ∧
    (st.attenSources.keyingEdge = true ↔ r.attenSources / 2 % 2 = 1) ∧
    (st.attenSources.syncPin = true ↔ r.attenSources / 4 % 2 = 1) ∧ nearNat 0 3 r.supplyLow st.supplyLow ∧
    clampedFields r = (fields.filter Prod.snd).map Prod.fst

/-! ### Hop coordinator: the requests -/

/-- A proposal made by an ADVANCE that passes every check, or on the station's own account at the automatic
timer, takes the next number, is recorded, and queues its PROPOSE with the answer timer at 2 s; the failed proposal
stays (R131). -/
def Obligations.ProposalIsMade : Prop :=
  ∀ (st : Station) (s : State), s.station = some st → s.hop.outstanding = none → s.route.conflict = false →
    s.route.partner ≠ .lost →
    let made (target : Phase) (role : Antenna) (automatic : Bool) (t : State) : Prop :=
      let carried := if target = .sweep then role else .main
      t.hop =
        { s.hop with
          nextNumber := if 255 ≤ s.hop.nextNumber then 1 else s.hop.nextNumber + 1
          outstanding :=
            some
              { number := s.hop.nextNumber, target := target, role := carried, attempts := 1
                automatic := automatic }
          mismatch := 0, answerTimer := some 2000
          autoTimer := if automatic then none else s.hop.autoTimer } ∧
      t.route =
        (s.route.enqueue s.draws
          { frame :=
              { header := { source := st.number, dest := st.partner, hop := st.hop, hopEnd := st.hopEnd }
                body := .propose { number := s.hop.nextNumber, target := target, role := carried } }
            resend := false }).2
    (∀ (target role : Byte) (p : Phase) (a : Antenna), Room s → Phase.ofCode target.toNat = some p →
      Antenna.ofCode role.toNat = some a → ¬ (p = .sweep ∧ a = .div ∧ s.settings.diversity = false) →
      legalSuccessor s.settings.marginEnabled s.hop.phase p = true → s.precondition p = none →
      ∃ t, exec (.advance target role) s = .next t ∧ made p a false t ∧
        t = { s with draws := t.draws, route := t.route, hop := t.hop, site := t.site } ∧
        t.site = { s.site with
          framer := .hunting, out := s.site.out ++ [.accepted (.advance s.hop.nextNumber p) []] }) ∧
    (∀ p, s.hop.autoTimer = some 0 → st.hopEnd = .a →
      (s.hop.phase = .soak → s.soak.state = .closed →
        p = (if s.settings.marginEnabled = true then Phase.margin else Phase.handover) →
        ∃ t, exec .automaticTimerExpiry s = .next t ∧ made p .main true t ∧
          t = { s with draws := t.draws, route := t.route, hop := t.hop }) ∧
      (s.hop.phase = .margin → s.margin.bothDone = true → p = .handover →
        ∃ t, exec .automaticTimerExpiry s = .next t ∧ made p .main true t ∧
          t = { s with draws := t.draws, route := t.route, hop := t.hop }))

/-- An ADVANCE is refused at the first check of R130 that fails, and a byte that is no code before them all; the
reply is its one effect (log 32). -/
def Obligations.AdvanceIsRefused : Prop :=
  ∀ (target role : Byte) (s : State), Room s →
    let refused (r : RefuseReason) : Prop :=
      exec (.advance target role) s = .next
        { s with site := { s.site with framer := .hunting, out := s.site.out ++ [.refused 3 r none] } }
    (7 < target.toNat ∨ 1 < role.toNat → refused .badField) ∧
    (∀ p a, Phase.ofCode target.toNat = some p → Antenna.ofCode role.toNat = some a →
      let noDiv := p = .sweep ∧ a = .div ∧ s.settings.diversity = false
      let illegal := legalSuccessor s.settings.marginEnabled s.hop.phase p = false
      (s.station = none → refused .unconfigured) ∧
      (s.station ≠ none → noDiv → refused .badField) ∧
      (s.station ≠ none → ¬ noDiv →
        (s.hop.outstanding ≠ none → refused .proposalPending) ∧
        (s.hop.outstanding = none →
          (s.route.conflict = true → refused .endsConflict) ∧
          (s.route.conflict = false → s.route.partner = .lost → refused .partnerLost) ∧
          (s.route.conflict = false → s.route.partner ≠ .lost →
            (illegal → refused .notLegal) ∧
            (¬ illegal → p = .confirm → s.map.visits = 0 → refused .notReady) ∧
            (¬ illegal → p = .soak → confirmedEnough s.settings.diversity s.lobe.confirmed = false →
              refused .notConfirmed) ∧
            (¬ illegal → p = .margin → s.soak.state ≠ .closed → refused .notReady) ∧
            (¬ illegal → p = .handover → s.hop.phase = .margin → s.margin.bothDone = false →
              refused .notReady) ∧
            (¬ illegal → p = .handover → s.hop.phase ≠ .margin → s.soak.state ≠ .closed →
              refused .notReady)))))

/-- ABORT of a configured station that is not HALTED halts it with cause OPERATOR: nothing stays outstanding, the
outputs are restored, the map freezes, a running soak closes INCOMPLETE with its pending seconds released and its open
fades cut, an ACTIVE direction is ABORTED, a handover record still PENDING in HANDOVER turns INCOMPLETE, and a STATUS is
queued; a HALTED station is left as it stands, and an unconfigured one refuses (R53, R127, R128, R141, R153, R157, R173,
R175, R180, R188, R200; log 9, 38, 39). -/
def Obligations.AbortHalts : Prop :=
  (∀ s : State, s.station = none → Room s →
    exec .abort s = .next
      { s with
        site := { s.site with framer := .hunting, out := s.site.out ++ [.refused 4 .unconfigured none] } }) ∧
  ∀ (st : Station) (s : State), s.station = some st → Room s →
    let replied : State :=
      { s with site := { s.site with framer := .hunting, out := s.site.out ++ [.accepted .abort []] } }
    (s.hop.phase = .halted → exec .abort s = .next replied) ∧
    (s.hop.phase ≠ .halted →
      ∃ t, exec .abort s = .next t ∧ HaltEntered st .operator replied t ∧
        t.site.out[s.site.out.length]? = some (.accepted .abort []))

/-- R44: ZERO in every phase but SWEEP zeroes both counts, clears the SATURATED and SLIPPED flags and the snapshot,
keeps slip counts and filters, and raises no event; in SWEEP it is refused NOT_NOW and changes nothing. -/
def Obligations.ZeroZeroesBothAxes : Prop :=
  ∀ s : State, Room s →
    let reply (m : SiteMessage) : Site := { s.site with framer := .hunting, out := s.site.out ++ [m] }
    let zeroed (x : AxisState) : AxisState := { x with count := 0, saturated := false, slipped := false }
    (s.hop.phase ≠ .sweep →
      exec .zero s = .next
        { s with
          pos :=
            { axes := { az := zeroed s.pos.axes.az, el := zeroed s.pos.axes.el }
              snapshot := { az := 0, el := 0, azSaturated := false, elSaturated := false } }
          site := reply (.accepted .zero []) }) ∧
    (s.hop.phase = .sweep → exec .zero s = .next { s with site := reply (.refused 6 .notNow none) })

/-- CUE sets the source it names and REPORTS the mask it carries, each answered ACCEPTED with the value in force; a
byte that names no source, and a mask with any of bits 19 to 23 set, are refused BAD_FIELD (R90, R194; log 32). -/
def Obligations.CueAndReportsAreSet : Prop :=
  ∀ (b : Byte) (mask : BitVec 24) (s : State), Room s →
    let reply (m : SiteMessage) : Site := { s.site with framer := .hunting, out := s.site.out ++ [m] }
    let set (c : CueSource) : State :=
      { s with cue := { s.cue with source := c }, site := reply (.accepted (.cue c) []) }
    (b = 0 → exec (.cue b) s = .next (set .steer)) ∧
    (b = 1 → exec (.cue b) s = .next (set .partner)) ∧
    (b = 2 → exec (.cue b) s = .next (set .relative)) ∧
    (2 < b.toNat → exec (.cue b) s = .next { s with site := reply (.refused 7 .badField none) }) ∧
    (mask.toNat < 524288 →
      exec (.reports mask) s = .next
        { s with
          site := { reply (.accepted (.reports (BitVec.ofNat 19 mask.toNat)) []) with
            mask := BitVec.ofNat 19 mask.toNat } }) ∧
    (524288 ≤ mask.toNat → exec (.reports mask) s = .next { s with site := reply (.refused 8 .badField none) })

/-- Each type with a body that R191 lays down is the request it spells, a SETUP body the record whose fields it holds in
the order and the bytes of R195; a message whose type or body is undefined is refused BAD_FIELD, a SETUP body among
them whose length is not the 86 or 102 bytes that its own count of pattern words, 0 or 8, gives it. A length outside
1..1024, a gap of more than 5 ms within a message, a low stop bit and a wrong checksum are counted and get no reply; a gap
is taken by its row once the 5 ms may have passed, or by the sample event after them; the character examined afresh may
start a message; while hunting only a start byte is taken; a message whose sum is 0 is taken as a request (R191, R192,
R193, R195; log 3, 5, 17, 32). -/
def Obligations.BadMessagesAreCountedOrRefused : Prop :=
  ∀ s : State,
    let site (p : Site) : State := { s with site := p }
    let counters := s.site.counters
    let malformed : Site :=
      { s.site with
        framer := .hunting, counters := { counters with malformed := min 65535 (counters.malformed + 1) } }
    let number (h l : Byte) : Nat := h.toNat * 256 + l.toNat
    let spells (type : Byte) (body : List Byte) (row : Instr) := exec (.unknownRequest type body) s = exec row s
    (∀ r : SetupRecord, r.wellFormed = true → spells 1 (setupBody r) (.setup r)) ∧
    spells 2 [1] .queryStatus ∧ spells 2 [2] .queryLevels ∧ spells 2 [3] .queryPosition ∧
    (∀ column row : Byte, spells 2 [4, column, row] (.queryMapCell column row)) ∧
    spells 2 [5] .queryMapSummary ∧ spells 2 [6] .queryLobes ∧ spells 2 [7] .queryVerdict ∧
    spells 2 [8] .queryRoster ∧ spells 2 [9] .querySoak ∧ spells 2 [10] .queryFades ∧ spells 2 [11] .queryMargin ∧
    spells 2 [12] .queryHandover ∧ (∀ target role : Byte, spells 3 [target, role] (.advance target role)) ∧
    spells 4 [] .abort ∧ spells 5 [] .restart ∧ spells 6 [] .zero ∧ (∀ source : Byte, spells 7 [source] (.cue source)) ∧
    (∀ h m l : Byte,
      spells 8 [h, m, l] (.reports (BitVec.ofNat 24 (h.toNat * 65536 + m.toNat * 256 + l.toNat)))) ∧
    (∀ (type : Byte) (body : List Byte), Room s →
      8 < type.toNat ∨ type = 0 ∨ (type = 2 ∧ body.length ≠ 1 ∧ body.length ≠ 3) ∨
        (∃ k, type = 2 ∧ body = [k] ∧ (k = 0 ∨ k = 4 ∨ 12 < k.toNat)) ∨
        (∃ k c r, type = 2 ∧ body = [k, c, r] ∧ k ≠ 4) ∨ (type = 3 ∧ body.length ≠ 2) ∨
        (4 ≤ type.toNat ∧ type.toNat ≤ 6 ∧ body ≠ []) ∨ (type = 7 ∧ body.length ≠ 1) ∨
        (type = 8 ∧ body.length ≠ 3) →
      exec (.unknownRequest type body) s = .next
        (site { s.site with framer := .hunting, out := s.site.out ++ [.refused type .badField none] })) ∧
    (∀ body : List Byte, Room s → ¬ (body.length = 86 ∧ body[71]? = some 0) →
      ¬ (body.length = 102 ∧ body[71]? = some 8) →
      exec (.unknownRequest 1 body) s = .next
        (site { s.site with framer := .hunting, out := s.site.out ++ [.refused 1 .badField (some 0)] })) ∧
    (∀ n, n = 0 ∨ 1024 < n → exec (.siteFramingError n) s = .next (site malformed)) ∧
    (s.site.framer = .hunting → ∀ cut,
      (∀ c, c ≠ some 0xA7 → exec (.siteGapTimeout ⟨cut, c⟩) s = .next s) ∧
        exec (.siteGapTimeout ⟨cut, some 0xA7⟩) s = .next (site { s.site with framer := .taking [] 5 })) ∧
    (∀ bytes gap, s.site.framer = .taking bytes gap →
      (∀ cut, cut = .lowStop ∨ gap = 0 →
        (∀ c, c ≠ some 0xA7 → exec (.siteGapTimeout ⟨cut, c⟩) s = .next (site malformed)) ∧
          exec (.siteGapTimeout ⟨cut, some 0xA7⟩) s = .next (site { malformed with framer := .taking [] 5 })) ∧
      (0 < gap → ∀ c, exec (.siteGapTimeout ⟨.gap, c⟩) s = .next s) ∧
      (gap = 0 → GapsAside s → ∀ codes, ∃ t, exec (.sampleEvent codes) s = .next t ∧
        t.site.framer = .hunting ∧ t.site.counters.malformed = min 65535 (counters.malformed + 1))) ∧
    (s.site.framer = .hunting →
      (∀ noise : List Byte, 0xA7 ∉ noise → exec (.siteChecksumError noise) s = .next s) ∧
      (∀ h l : Byte, number h l = 0 ∨ 1024 < number h l →
        exec (.siteChecksumError [0xA7, h, l]) s = .next (site malformed)) ∧
      (∀ (h l : Byte) (part : List Byte), 1 ≤ number h l → number h l ≤ 1024 → part.length ≤ number h l →
        exec (.siteChecksumError (0xA7 :: h :: l :: part)) s = .next
          (site { s.site with framer := .taking (h :: l :: part) 5 })) ∧
      (∀ (h l type : Byte) (body : List Byte) (check : Byte), number h l = body.length + 1 → body.length ≤ 1023 →
        (byteSum (h :: l :: type :: (body ++ [check])) ≠ 0 →
          exec (.siteChecksumError (0xA7 :: h :: l :: type :: (body ++ [check]))) s = .next
            (site
              { s.site with
                framer := .hunting
                counters := { counters with checksum := min 65535 (counters.checksum + 1) } })) ∧
        (byteSum (h :: l :: type :: (body ++ [check])) = 0 →
          exec (.siteChecksumError (0xA7 :: h :: l :: type :: (body ++ [check]))) s =
            exec (.unknownRequest type body) s)))

/-! ### Route channel: reception -/

/-- A good frame that is no clash is counted and sets the fields of its kind in the roster entry of its source, made
when there is none, in place of the oldest entry of a full roster; one that is not from the partner changes nothing
else. One from the partner makes it LIVE, decides the ends conflict, each with its event, ends the partner silence, and
begins, keeps or ends the LEVEL condition before it is delivered (R109, R110, R112 to R114, R122, R187; log 36). -/
def Obligations.GoodFrameUpdatesTheRoster : Prop :=
  ∀ (f : Frame) (s : State), RosterSound s → Listening s → f.wellFormed = true →
    (∀ st, s.station = some st → f.header.source ≠ st.number) →
    let old := s.route.roster.find? fun x => x.station == f.header.source
    let entry (n : Nat) (x : State) := x.route.roster.find? fun y => y.station == n
    let bare := f.body.kind ≠ .status ∧ f.body.kind ≠ .level
    let c := s.route.counters
    ∃ t e, exec (receiveRow f) s = .next t ∧
      entry f.header.source t = some e ∧
      e.hop = f.header.hop ∧ e.hopEnd = f.header.hopEnd ∧ e.age = 0 ∧ e.liveness = .live ∧
      t.route.counters.good = min 65535 (c.good + 1) ∧
      (∀ b, f.body = .status b →
        e.phase = some b.phase ∧ e.confirmed = some { main := b.mainConfirmed, div := b.divConfirmed } ∧
          e.lastAccepted =
            (if b.lastStation = 0 ∨ b.lastNumber = 0 then none
            else some { proposer := b.lastStation, number := b.lastNumber }) ∧
          e.ident = some b.ident ∧ e.wantsLevel = b.wantsLevel ∧ e.supplyLow = b.supplyLow ∧ e.clash = b.clash ∧
          e.soakSeconds = some b.soakSeconds ∧ e.progress = some b.progress ∧
          e.level = b.level.map fun l => { level := l, time := s.time.now }) ∧
      (∀ b, f.body = .level b →
        e.ident = some b.ident ∧ e.level = b.level.map fun l => { level := l, time := s.time.now }) ∧
      (∀ was, old = some was →
        (bare → e = { was with hop := f.header.hop, hopEnd := f.header.hopEnd, age := 0, liveness := .live }) ∧
        (f.body.kind = .level → e = { was with
          hop := f.header.hop, hopEnd := f.header.hopEnd, age := 0, liveness := .live, ident := e.ident
          level := e.level }) ∧
        t.route.counters.replacements = c.replacements ∧ ∀ n, n ≠ f.header.source → entry n t = entry n s) ∧
      (old = none → f.body.kind ≠ .status →
        e =
          { station := f.header.source, hop := f.header.hop, hopEnd := f.header.hopEnd, phase := none
            lastAccepted := none, confirmed := none, ident := e.ident, wantsLevel := false, supplyLow := false
            clash := false, soakSeconds := none, progress := none, level := e.level, age := 0, liveness := .live } ∧
          (bare → e.ident = none ∧ e.level = none)) ∧
      (old = none → s.route.roster.length < 14 →
        t.route.counters.replacements = c.replacements ∧ ∀ n, n ≠ f.header.source → entry n t = entry n s) ∧
      (old = none → s.route.roster.length = 14 →
        ∃ gone ∈ s.route.roster,
          (∀ x ∈ s.route.roster, x.age < gone.age ∨ (x.age = gone.age ∧ x.station ≤ gone.station)) ∧
            entry gone.station t = none ∧ t.route.counters.replacements = min 65535 (c.replacements + 1) ∧
            ∀ n, n ≠ f.header.source → n ≠ gone.station → entry n t = entry n s) ∧
      ((∀ st, s.station = some st → f.header.source ≠ st.partner) →
        t = { s with
          route :=
            { s.route with
              framer := { state := .hunt, bytes := [], gap := none }, roster := t.route.roster
              counters := t.route.counters } }) ∧
      ∀ st, s.station = some st → f.header.source = st.partner →
        let u := heardFrom f s
        let conflict := f.header.hopEnd = st.hopEnd ∨ f.header.hop ≠ st.hop
        let told := if s.route.partner = .live then s.site else s.site.signal (.partner .live 0)
        let asks := (s.hop.phase = .beacon ∨ s.hop.phase = .sweep) ∧ e.wantsLevel = true
        let updated : Route :=
          { s.route with
            framer := { state := .hunt, bytes := [], gap := none }, roster := u.route.roster, partner := .live
            conflict := u.route.conflict
            counters :=
              { c with
                good := min 65535 (c.good + 1)
                replacements :=
                  if old.isNone = true ∧ s.route.roster.length = 14 then min 65535 (c.replacements + 1)
                  else c.replacements } }
        entry f.header.source u = some e ∧
          u = { s with
            draws := u.draws, route := u.route, margin := { s.margin with silence := 0 }, site := u.site } ∧
          (u.route.conflict = true ↔ conflict) ∧
          (conflict → s.route.conflict = false →
            u.site = told.signal (.endsConflict f.header.hop f.header.hopEnd)) ∧
          (¬ conflict ∨ s.route.conflict = true → u.site = told) ∧
          (¬ asks → u.draws = s.draws ∧ u.route = { updated with levelTimer := none }) ∧
          (∀ n, asks → s.route.levelTimer = some n → u.draws = s.draws ∧ u.route = updated) ∧
          (asks → s.route.levelTimer = none →
            u.route =
              { (queuedFor st (.level (levelShown s)) s.draws updated).2 with levelTimer := some 250 }) ∧
          t.route.partner = .live ∧ (t.route.conflict = true ↔ conflict) ∧
          (f.body.kind = .level → t = delivered st s u)

/-- A frame bearing the station's own number is a clash, one with a field outside its range is malformed, and while
transmitting nothing is heard; only the counts, the clash flag and its event change (R105, R109; log 14, 16, 26). -/
def Obligations.ClashMalformedOrUnheard : Prop :=
  ∀ (f : Frame) (s : State),
    let hunt : Route := { s.route with framer := { state := .hunt, bytes := [], gap := none } }
    let c := s.route.counters
    (s.route.contention = .sending → exec (receiveRow f) s = .next s) ∧
    (Listening s → f.wellFormed = false →
      exec (receiveRow f) s = .next
        { s with route := { hunt with counters := { c with malformed := min 65535 (c.malformed + 1) } } }) ∧
    (∀ st, s.station = some st → Listening s → f.wellFormed = true → f.header.source = st.number →
      ∃ t, exec (receiveRow f) s = .next t ∧
        t = { s with
          route := { hunt with clash := true, counters := { c with clashes := min 65535 (c.clashes + 1) } }
          site := t.site } ∧
        (s.route.clash = false →
          t.site = s.site.signal (.clash (some f.body.kind) f.header.hop f.header.hopEnd)) ∧
        (s.route.clash = true → t.site = s.site))

/-- The receive framer: after the delimiter it holds a header, a body and a check; the frame's end is judged by R108
and R109, a length above 24 as malformed, a wrong check as a CRC error, a bad field as malformed, the bytes of a
good frame as that frame. A low stop bit, or a gap of more than 5 ms, counts as truncated a frame in progress; the
character examined afresh may be a delimiter's first. A gap is taken by its row once the 5 ms may have passed, or by the
sample event after them (R105, R106, R108, R109; log 3, 5, 16, 17). The model's own choices: a cut while the framer hunts
counts nothing and drops a held 0x9E, so that a following 0x35 completes no delimiter (log 41), and while transmitting
nothing is heard, a gap row included (log 26). -/
def Obligations.DiscardedBytesAreCounted : Prop :=
  ∀ s : State,
    let c := s.route.counters
    let framed (state : FramerState) (bytes : List Byte) (k : RouteCounters) : State :=
      let gap : Timer := if state = .hunt ∧ bytes = [] then none else some 5
      { s with route := { s.route with framer := { state := state, bytes := bytes, gap := gap }, counters := k } }
    let malformed := framed .hunt [] { c with malformed := min 65535 (c.malformed + 1) }
    let truncated := { c with truncated := min 65535 (c.truncated + 1) }
    let listens := exec (.routeFrameDiscarded [0x9E, 0x35]) s = .next (framed .header [] c)
    let cuts (cut : CutCause) := cut = .lowStop ∨ s.route.framer.gap = none ∨ s.route.framer.gap = some 0
    (s.route.contention = .sending → ∀ bytes cut b,
      exec (.routeFrameDiscarded bytes) s = .next s ∧ exec (.routeGapTimeout ⟨cut, b⟩) s = .next s) ∧
    (∀ n b, s.route.framer.gap = some (n + 1) → exec (.routeGapTimeout ⟨.gap, b⟩) s = .next s) ∧
    (∀ codes, Listening s → s.route.framer.gap = some 0 → GapsAside s →
      ∃ t, exec (.sampleEvent codes) s = .next t ∧ t.route.framer = { state := .hunt, bytes := [], gap := none } ∧
        t.route.counters = if s.route.framer.state = .hunt then c else truncated) ∧
    (Listening s → s.route.framer.state = .hunt → listens ∧
      (∀ noise : List Byte, 0x9E ∉ noise → noise ≠ [] → s.route.framer.bytes = [] →
        exec (.routeFrameDiscarded noise) s = .next (framed .hunt [] c)) ∧
      ∀ cut, cuts cut →
        (∀ b, b ≠ some 0x9E → exec (.routeGapTimeout ⟨cut, b⟩) s = .next (framed .hunt [] c)) ∧
          exec (.routeGapTimeout ⟨cut, some 0x9E⟩) s = .next (framed .hunt [0x9E] c)) ∧
    (Listening s → s.route.framer.state ≠ .hunt → ∀ cut, cuts cut →
      (∀ b, b ≠ some 0x9E → exec (.routeGapTimeout ⟨cut, b⟩) s = .next (framed .hunt [] truncated)) ∧
        exec (.routeGapTimeout ⟨cut, some 0x9E⟩) s = .next (framed .hunt [0x9E] truncated)) ∧
    (Listening s → s.route.framer.state = .header → s.route.framer.bytes = [] →
      (∀ header : List Byte, header ≠ [] → header.length < 5 →
        exec (.routeFrameDiscarded header) s = .next (framed .header header c)) ∧
      ∀ kind src dst he len : Byte,
        let header := [kind, src, dst, he, len]
        (24 < len.toNat → exec (.routeFrameDiscarded header) s = .next malformed) ∧
        (∀ rest, len.toNat ≤ 24 → rest.length < len.toNat + 2 →
          exec (.routeFrameDiscarded (header ++ rest)) s = .next
            (framed (if rest.length < len.toNat then .body else .check) (header ++ rest) c)) ∧
        (∀ body check, len.toNat ≤ 24 → body.length = len.toNat → check.length = 2 →
          check ≠ u16 (crc16 (header ++ body)).toNat →
          exec (.routeFrameDiscarded (header ++ (body ++ check))) s = .next
            (framed .hunt [] { c with crcErrors := min 65535 (c.crcErrors + 1) })) ∧
        (∀ body, len.toNat ≤ 24 → body.length = len.toNat →
          FrameKind.ofCode kind = none ∨ src = 0 ∨ 15 < src.toNat ∨ 15 < dst.toNat ∨ he.toNat % 8 = 0 ∨
            (∃ k, FrameKind.ofCode kind = some k ∧
              (k.bodyLength ≠ body.length ∨ FrameBody.ofBytes k body = none)) →
          exec (.routeFrameDiscarded (header ++ (body ++ u16 (crc16 (header ++ body)).toNat))) s =
            .next malformed)) ∧
    ∀ f : Frame, Listening s → s.route.framer.state = .hunt → s.route.framer.bytes = [] → f.wellFormed = true →
      exec (.routeFrameDiscarded f.wire) s = exec (receiveRow f) s

/-- Every well-formed frame is judged good from its own bytes, with every field as it was, and its length is its
body length plus 12: the layout of R106 loses nothing. -/
def Obligations.FrameBytesSpellTheFrame : Prop :=
  ∀ f : Frame, f.wellFormed = true →
    judge f.afterDelimiter = .good f ∧ f.wire.length = f.body.kind.bodyLength + 12

/-! ### Hop coordinator: the partner's frames -/

/-- RECEIVE_STATUS from the partner goes to the margin procedure, then to the coordinator: catch-up to the target of an
own proposal, with all that an entry does, a halt by a partner's HALTED or IDLE, with all that a halt does, or the
mismatch count (R111, R139, R142, R143, R145, R185 to R187; log 9, 29, 38, 39). -/
def Obligations.StatusMovesThePhase : Prop :=
  ∀ (st : Station) (h : Header) (b : StatusBody) (s : State), Delivered st h s → b.wellFormed = true → HopSound s →
    let outstanding (p : Proposal) :=
      s.hop.outstanding = some p ∧ p.number = b.lastNumber ∧ p.target = b.phase
    let failed (p : FailedProposal) := s.hop.failed = some p ∧ p.number = b.lastNumber ∧ p.target = b.phase
    let caughtUp := b.lastStation = st.number ∧ ((∃ p, outstanding p) ∨ ∃ p, failed p)
    let running := s.hop.phase ≠ .idle ∧ s.hop.phase ≠ .halted
    let covered := s.hop.entryHold ≠ none ∧ s.hop.leftPhase = some .idle
    let restarted := b.phase = .idle ∧ running ∧ s.hop.phase ≠ .handover ∧ ¬ covered
    let id : ProposalId := { proposer := st.number, number := b.lastNumber }
    ∃ t x, exec (.receiveStatus h b) s = .next t ∧
      MarginTold st b.progress (heardFrom { header := h, body := .status b } s) x ∧
      t.pending = s.pending ∧ t.station = s.station ∧ t.settings = s.settings ∧ t.time = s.time ∧ t.cue = s.cue ∧
      t.chk = s.chk ∧ t.supply = s.supply ∧
      (t.hop.phase = s.hop.phase →
        t.level = s.level ∧ t.ident = s.ident ∧ t.pos = s.pos ∧ t.map = s.map ∧ t.lobe = s.lobe ∧ t.soak = s.soak) ∧
      (caughtUp →
        t.hop.phase = b.phase ∧ t.hop.outstanding = none ∧ t.hop.failed = none ∧ t.hop.mismatch = 0 ∧
          t.hop.entryHold = none ∧ t.hop.lastAccepted = some id ∧ EventFlag.proposal ∈ t.site.flags ∧
          EventFlag.phase ∈ t.site.flags) ∧
      (let y := x.signal (.proposal b.lastNumber b.phase .accepted none)
      let entered (role : Antenna) (settled : Bool) :=
        t = y.enterPhase b.phase .catchUp (some id) role settled ∧ EntryRuns st id role y t
      (∀ p, b.lastStation = st.number → outstanding p → entered p.role true) ∧
        ∀ p, b.lastStation = st.number → (∀ q, ¬ outstanding q) → failed p → entered p.role false) ∧
      (b.phase = .halted → running → HaltEntered st .partner x t) ∧
      (restarted → HaltEntered st .partnerRestart x t) ∧
      (¬ caughtUp → ¬ (b.phase = .halted ∧ running) → ¬ restarted →
        t.hop = { s.hop with mismatch := t.hop.mismatch } ∧
        (b.phase = s.hop.phase → t.hop.mismatch = 0) ∧
        (b.phase ≠ s.hop.phase → s.hop.outstanding = none → s.hop.mismatch ≤ 5 →
          t.hop.mismatch = min 5 (s.hop.mismatch + 1)) ∧
        (b.phase ≠ s.hop.phase → s.hop.outstanding ≠ none → t.hop.mismatch = s.hop.mismatch) ∧
        let told :=
          if b.phase ≠ s.hop.phase ∧ s.hop.outstanding = none ∧ s.hop.mismatch = 4 then
            x.site.signal (.mismatch s.hop.phase b.phase)
          else x.site
        t = delivered st s { x with hop := t.hop, site := told })

/-- RECEIVE_PROPOSE from the partner, whether or not an own proposal is outstanding, is counted and ignored in an ends
conflict, with no ANSWER, and a duplicate of the proposal last answered gets that ANSWER again. With no own proposal
outstanding any other is declined with the first reason of R135, or accepted with the phase entered, its ANSWER queued
and recorded. What the blocks do at the entry
is the table of section 8.1.1 (R112, R127 to R129, R134 to R136; log 9). -/
def Obligations.ProposalIsAnswered : Prop :=
  ∀ (st : Station) (h : Header) (b : ProposeBody) (s : State), Delivered st h s → b.wellFormed = true →
    let frame : Frame := { header := h, body := .propose b }
    let u := heardFrom frame s
    let conflict := h.hopEnd = st.hopEnd ∨ h.hop ≠ st.hop
    let repeated (a : AnsweredRecord) : Prop :=
      s.hop.lastAnswered = some a ∧ a.proposer = h.source ∧ a.number = b.number ∧ a.target = b.target
    let duplicate := ∃ a, repeated a
    (¬ conflict → ¬ duplicate → s.hop.outstanding = none) →
    let record (reason : Option DeclineReason) : AnsweredRecord :=
      { proposer := h.source, number := b.number, target := b.target, accept := reason.isNone, reason := reason }
    let declined (r : DeclineReason) (t : State) : Prop :=
      t = delivered st s (answered st (record (some r)) u) ∧
        t.hop = { s.hop with lastAnswered := some (record (some r)) }
    ∃ t, exec (.receivePropose h b) s = .next t ∧
      t.pending = s.pending ∧ t.station = s.station ∧ t.settings = s.settings ∧ t.time = s.time ∧ t.cue = s.cue ∧
      t.chk = s.chk ∧ t.supply = s.supply ∧
      (t.hop.phase = s.hop.phase →
        t.level = s.level ∧ t.ident = s.ident ∧ t.pos = s.pos ∧ t.map = s.map ∧ t.lobe = s.lobe ∧ t.soak = s.soak) ∧
      (conflict →
        t = delivered st s { u with hop := { s.hop with ignored := min 255 (s.hop.ignored + 1) } } ∧
          t.hop = { s.hop with ignored := min 255 (s.hop.ignored + 1) } ∧ t.route.conflict = true) ∧
      (∀ a, ¬ conflict → repeated a →
        t.hop = s.hop ∧ t = delivered st s { answered st a u with hop := s.hop }) ∧
      (¬ conflict → ¬ duplicate → s.hop.phase = .halted → declined .halted t) ∧
      (¬ conflict → ¬ duplicate → s.hop.phase ≠ .halted →
        let legal := legalSuccessor s.settings.marginEnabled s.hop.phase b.target = true
        let noDiv := b.target = .sweep ∧ b.role = .div ∧ s.settings.diversity = false
        (¬ legal ∨ noDiv → declined .notLegal t) ∧
        (∀ r, legal → ¬ noDiv → s.precondition b.target = some r → declined r t) ∧
        (legal → ¬ noDiv → s.precondition b.target = none →
          let id : ProposalId := { proposer := h.source, number := b.number }
          t = (answered st (record none) u).enterPhase b.target .accepted (some id) b.role false ∧
            EntryRuns st id b.role (answered st (record none) u) t ∧
            t.hop.phase = b.target ∧ t.hop.lastAnswered = some (record none) ∧ t.hop.lastAccepted = some id ∧
            t.hop.entryHold = some 10000 ∧ t.hop.leftPhase = some s.hop.phase ∧
            t.hop.profile =
              (if b.target = .soak ∨ b.target = .margin ∨ b.target = .handover then Profile.soak
                else Profile.align) ∧
            t.hop.serial =
              (if b.target = .sweep then (if 65535 ≤ s.hop.serial then 0 else s.hop.serial + 1) else s.hop.serial) ∧
            EventFlag.phase ∈ t.site.flags))

/-- RECEIVE_PROPOSE from the partner while an own proposal is outstanding, with no ends conflict and no duplicate (which
ProposalIsAnswered covers): an alike one is joined when it is
accepted; otherwise the lower station number's proposal stands, the partner's being declined CROSSED or the own one
withdrawn, with its waiting PROPOSE, before the partner's is evaluated. Each gets its ANSWER (R133, R137, R138,
R140; log 9). -/
def Obligations.ProposalsCross : Prop :=
  ∀ (st : Station) (h : Header) (b : ProposeBody) (p : Proposal) (s : State), Delivered st h s →
    b.wellFormed = true → s.hop.outstanding = some p → h.hopEnd ≠ st.hopEnd → h.hop = st.hop →
    (¬ ∃ a, s.hop.lastAnswered = some a ∧ a.proposer = h.source ∧ a.number = b.number ∧ a.target = b.target) →
    let frame : Frame := { header := h, body := .propose b }
    let u := heardFrom frame s
    let alike := p.target = b.target ∧ b.target ≠ .confirm ∧ (b.target ≠ .sweep ∨ p.role = b.role)
    let verdict := s.evaluate b.target b.role
    let id : ProposalId := { proposer := h.source, number := b.number }
    let record (reason : Option DeclineReason) : AnsweredRecord :=
      { proposer := h.source, number := b.number, target := b.target, accept := reason.isNone, reason := reason }
    let withdrawn : State :=
      { u with
        hop :=
          { s.hop with
            outstanding := none, answerTimer := none
            autoTimer := if p.automatic then some 10000 else s.hop.autoTimer }
        route := { u.route with waiting := u.route.waiting.filter fun q => q.kind != FrameKind.propose } }.signal
        (.proposal p.number p.target .withdrawn none)
    ∃ t, exec (.receivePropose h b) s = .next t ∧
      t.pending = s.pending ∧ t.station = s.station ∧ t.settings = s.settings ∧ t.time = s.time ∧ t.cue = s.cue ∧
      t.chk = s.chk ∧ t.supply = s.supply ∧
      (t.hop.phase = s.hop.phase →
        t.level = s.level ∧ t.ident = s.ident ∧ t.pos = s.pos ∧ t.map = s.map ∧ t.lobe = s.lobe ∧ t.soak = s.soak) ∧
      let entered (x : State) (settled : Bool) :=
        t = (answered st (record none) x).enterPhase b.target .accepted (some id) b.role settled ∧
          EntryRuns st id b.role (answered st (record none) x) t ∧
          t.hop.phase = b.target ∧ t.hop.outstanding = none ∧ t.hop.failed = none ∧
          t.hop.lastAnswered = some (record none) ∧ t.hop.lastAccepted = some id ∧
          EventFlag.proposal ∈ t.site.flags ∧ EventFlag.phase ∈ t.site.flags
      (alike → verdict = none → entered (u.signal (.proposal p.number p.target .joined none)) true) ∧
      (∀ r, alike → verdict = some r →
        t = delivered st s (answered st (record (some r)) u) ∧
          t.hop = { s.hop with lastAnswered := some (record (some r)) }) ∧
      (¬ alike → st.number < h.source →
        t = delivered st s (answered st (record (some .crossed)) u) ∧
          t.hop = { s.hop with lastAnswered := some (record (some .crossed)) }) ∧
      (¬ alike → h.source < st.number → verdict = none → entered withdrawn false) ∧
      (∀ r, ¬ alike → h.source < st.number → verdict = some r →
        t = delivered st s (answered st (record (some r)) withdrawn) ∧
        t.hop =
          { s.hop with
            outstanding := none, answerTimer := none, lastAnswered := some (record (some r))
            autoTimer := if p.automatic then some 10000 else s.hop.autoTimer } ∧
          EventFlag.proposal ∈ t.site.flags)

/-- Entering SWEEP under the partner's proposal clears the map and records, zeroes the position, steers to the role
proposed, restarts the identifier and keys the beacon (R7, R24, R45, R51, R71, R150). -/
def Obligations.SweepEntryStartsTheMap : Prop :=
  ∀ (st : Station) (h : Header) (b : ProposeBody) (s : State), Delivered st h s → b.wellFormed = true →
    s.hop.outstanding = none → h.hopEnd ≠ st.hopEnd → h.hop = st.hop →
    (¬ ∃ a, s.hop.lastAnswered = some a ∧ a.proposer = h.source ∧ a.number = b.number ∧ a.target = b.target) →
    b.target = .sweep → (s.hop.phase = .beacon ∨ s.hop.phase = .confirm) →
    (b.role = .div → s.settings.diversity = true) →
    ∃ t, exec (.receivePropose h b) s = .next t ∧ t.hop.phase = .sweep ∧
      t.map = { mapCleared with state := .recording, role := some b.role } ∧ t.level.steering = b.role ∧
      (∀ x, (t.pos.axes.get x).count = 0 ∧ (t.pos.axes.get x).slipped = false ∧
        (t.pos.axes.get x).slipCount = (s.pos.axes.get x).slipCount) ∧
      t.pos.snapshot = { az := 0, el := 0, azSaturated := false, elSaturated := false } ∧
      t.ident = { identCleared with running := true } ∧
      t.lobe.state = .notRun ∧ t.lobe.list = [] ∧ t.lobe.own = none ∧ t.lobe.held = none ∧ t.lobe.id = none ∧
      t.lobe.result = .none ∧ t.lobe.confirmed = s.lobe.confirmed ∧ t.lobe.kept = s.lobe.kept ∧
      t.pending = s.pending ∧ t.station = s.station ∧ t.settings = s.settings ∧ t.time = s.time ∧ t.cue = s.cue ∧
      t.chk = s.chk ∧ t.supply = s.supply ∧ t.soak = s.soak ∧
      (s.src.beacon.live ≠ .keyed →
        t.src.beacon = { live := .keyed, staged := .keyed, pending := false } ∧ t.src.keyOut = true ∧
          t.src.keyCount = 0) ∧
      (s.src.beacon.live = .keyed → t.src = s.src)

/-- RECEIVE_ANSWER from the partner: an accept of an own proposal enters its target, with all that an entry does; a
decline with reason HALTED halts, with all that a halt does, unless the station is in IDLE (log 11) or HALTED; another
decline of the outstanding proposal ends it, WITHDRAWN when crossed, without a reason in its report (log 42), DECLINED
with its reason otherwise; the rest are ignored (R133, R140, R142; log 9, 38, 39). -/
def Obligations.AnswerIsTaken : Prop :=
  ∀ (st : Station) (h : Header) (b : AnswerBody) (s : State), Delivered st h s → b.wellFormed = true →
    let u := heardFrom { header := h, body := .answer b } s
    let haltedReason := b.accept = false ∧ b.reason = some .halted
    let own := b.proposer = st.number
    let outstanding (p : Proposal) := s.hop.outstanding = some p ∧ p.number = b.number ∧ p.target = b.target
    let failed (p : FailedProposal) := s.hop.failed = some p ∧ p.number = b.number ∧ p.target = b.target
    let id : ProposalId := { proposer := st.number, number := b.number }
    ∃ t, exec (.receiveAnswer h b) s = .next t ∧
      t.pending = s.pending ∧ t.station = s.station ∧ t.settings = s.settings ∧ t.time = s.time ∧ t.cue = s.cue ∧
      t.chk = s.chk ∧ t.supply = s.supply ∧
      (t.hop.phase = s.hop.phase → b.target ≠ s.hop.phase →
        t.level = s.level ∧ t.ident = s.ident ∧ t.pos = s.pos ∧ t.map = s.map ∧ t.lobe = s.lobe ∧ t.soak = s.soak) ∧
      (b.accept = true → own → (∃ p, outstanding p) ∨ (∃ p, failed p) →
        t.hop.phase = b.target ∧ t.hop.outstanding = none ∧ t.hop.failed = none ∧ t.hop.entryHold = none ∧
          t.hop.lastAccepted = some id ∧ EventFlag.proposal ∈ t.site.flags ∧ EventFlag.phase ∈ t.site.flags) ∧
      (let y := u.signal (.proposal b.number b.target .accepted none)
      let entered (role : Antenna) (settled : Bool) :=
        t = y.enterPhase b.target .answered (some id) role settled ∧ (HopSound s → EntryRuns st id role y t)
      (∀ p, b.accept = true → own → outstanding p → entered p.role true) ∧
        ∀ p, b.accept = true → own → (∀ q, ¬ outstanding q) → failed p → entered p.role false) ∧
      (haltedReason → s.hop.phase ≠ .idle → s.hop.phase ≠ .halted → HaltEntered st .partner u t) ∧
      (haltedReason → s.hop.phase = .idle ∨ s.hop.phase = .halted → t = delivered st s u) ∧
      (∀ p, b.accept = false → ¬ haltedReason → own → outstanding p →
        let crossed := b.reason = some .crossed
        let ended : State :=
          { u with
            hop :=
              { s.hop with
                outstanding := none, answerTimer := none
                autoTimer := if p.automatic then some 10000 else s.hop.autoTimer }
            route := { u.route with waiting := u.route.waiting.filter fun q => q.kind != FrameKind.propose } }
        t.hop = ended.hop ∧
          (crossed → t = delivered st s (ended.signal (.proposal p.number p.target .withdrawn none))) ∧
          (¬ crossed → t = delivered st s (ended.signal (.proposal p.number p.target .declined b.reason)))) ∧
      (¬ haltedReason → ¬ own ∨ (b.accept = true ∧ ¬ (∃ p, outstanding p) ∧ ¬ ∃ p, failed p) ∨
        (b.accept = false ∧ ¬ ∃ p, outstanding p) → t.hop = s.hop ∧ t = delivered st s u)

/-- RECEIVE_DIGEST from the partner is held with its arrival time in SOAK, MARGIN, HANDOVER and HALTED and ignored
in every other phase; in HANDOVER it enters the handover record, and a final one decides a record not yet PASS or
FAIL; RECEIVE_LEVEL reaches the roster alone (R111, R176, R199, R200; log 43). -/
def Obligations.DigestAndLevelAreTaken : Prop :=
  ∀ (st : Station) (h : Header) (d : DigestBody) (l : LevelBody) (s : State), Delivered st h s →
    (d.wellFormed = true →
      ∃ t, exec (.receiveDigest h d) s = .next t ∧
        (s.hop.phase = .soak ∨ s.hop.phase = .margin ∨ s.hop.phase = .handover ∨ s.hop.phase = .halted →
          t.soak = { s.soak with partnerDigest := some { body := d, arrival := s.time.now } }) ∧
        (s.hop.phase = .idle ∨ s.hop.phase = .beacon ∨ s.hop.phase = .sweep ∨ s.hop.phase = .confirm →
          t.soak = s.soak) ∧
        (s.hop.phase ≠ .handover → t.handover = s.handover) ∧
        (s.hop.phase = .handover → s.handover = none → t.handover = none) ∧
        (∀ r, s.hop.phase = .handover → s.handover = some r →
          let kept : HandoverRecord := { r with partnerDigest := some { body := d, arrival := s.time.now } }
          (d.final = false ∨ r.overall = .pass ∨ r.overall = .fail → t.handover = some kept) ∧
          (d.final = true → r.overall = .pending ∨ r.overall = .incomplete →
            ∃ v, t.handover = some { kept with overall := v } ∧ (v = .pass ∨ v = .fail) ∧
              (v = .pass ↔ RecordPasses s.settings.diversity kept) ∧ EventFlag.handover ∈ t.site.flags)) ∧
        t = { s with
          draws := t.draws, route := t.route, src := t.src, soak := t.soak, margin := t.margin
          handover := t.handover, site := t.site }) ∧
    (l.wellFormed = true →
      ∃ t e, exec (.receiveLevel h l) s = .next t ∧
        t = { s with
          draws := t.draws, route := t.route, src := t.src, margin := t.margin, site := t.site } ∧
        t.partnerLevel = l.level.map (fun x => { level := x, time := s.time.now }) ∧
        t.partnerEntry = some e ∧ e.ident = some l.ident)

/-- MTEST_STEP, MTEST_LIMIT and MTEST_DONE from the partner. In an ACTIVE direction the judge follows the step; the
transmitting end ends the direction with its margin, restores 0 dB and queues its DONE; the judge records the result,
and end B, as the judge of direction 1, then begins direction 2. A DONE for a direction DONE without a result is
recorded. A direction ABORTED in MARGIN begins again after any of them, its LIMIT ignored. When a DONE makes both
directions done at end A, it proposes HANDOVER, or starts the automatic timer for 10 s (R140, R157, R181, R184, R186,
R187; log 24, 30). -/
def Obligations.MtestFramesAreTaken : Prop :=
  ∀ (st : Station) (h : Header) (b : MtestBody) (s : State), Delivered st h s → b.wellFormed = true →
    let role := roleIn st.hopEnd b.direction
    let result (margin : Nat) (capped atZero : Bool) : MarginResult :=
      { margin := some margin, capped := capped, atZero := atZero
        outcome := if s.settings.requiredMargin ≤ margin then .pass else .fail }
    let heard (e : MtestEvent) : State := heardFrom { header := h, body := .mtest e b } s
    let active := s.margin.current = some b.direction ∧ s.margin.states.get b.direction = .active
    let late :=
      role = .judge ∧ s.margin.states.get b.direction = .done ∧ s.margin.results.get b.direction = none
    let own : MarginResult := result b.margin b.capped b.atZero
    let recorded : Margin :=
      { s.margin with
        silence := 0, results := s.margin.results.set b.direction (some own)
        states := s.margin.states.set b.direction .done }
    let told := (heard .done).site.signal (.margin b.direction role own.margin own.capped own.atZero own.outcome)
    let both (m : Margin) := ∃ one two, m.results.one = some one ∧ m.results.two = some two ∧
      one.outcome ≠ .aborted ∧ two.outcome ≠ .aborted
    let proposed (x t : State) : Prop :=
      let onset := st.hopEnd = .a ∧ s.hop.phase = .margin ∧ ¬ both s.margin ∧ both x.margin
      let free := s.hop.outstanding = none ∧ h.hopEnd ≠ st.hopEnd ∧ h.hop = st.hop
      (¬ onset → t = x) ∧
        (onset → ¬ free → t = { x with hop := { s.hop with autoTimer := some 10000 } }) ∧
        (onset → free →
          let queued :=
            queuedFor st (.propose { number := s.hop.nextNumber, target := .handover, role := .main }) x.draws x.route
          t = { x with
            draws := queued.1, route := queued.2
            hop :=
              { s.hop with
                nextNumber := if 255 ≤ s.hop.nextNumber then 1 else s.hop.nextNumber + 1
                outstanding :=
                  some
                    { number := s.hop.nextNumber, target := .handover, role := .main, attempts := 1
                      automatic := true }
                mismatch := 0, answerTimer := some 2000 } })
    (active → role = .judge →
      exec (.mtestStep h b) s = .next
        { heard .step with
          margin :=
            { s.margin with
              silence := 0, heard := b.step
              latched := if b.step < s.margin.heard then none else s.margin.latched } }) ∧
    (active → role ≠ .judge → exec (.mtestStep h b) s = .next (heard .step)) ∧
    (active → role = .transmitting → b.step ≤ s.margin.stepIndex →
      let margin := min (b.step * s.settings.marginStep) 63 - s.settings.marginStep
      let atZero := b.step == 0
      let body : MtestBody :=
        { direction := b.direction, step := b.step, atten := 0, margin := margin, capped := false, atZero := atZero }
      let x := heard .limit
      let queued := queuedFor st (.mtest .done body) x.draws x.route
      let done : State :=
        { x with
          draws := queued.1, route := queued.2
          src := { s.src with atten := { live := 0, staged := 0, pending := false } }
          margin :=
            { s.margin with
              silence := 0, results := s.margin.results.set b.direction (some (result margin false atZero))
              states := s.margin.states.set b.direction .done, stepDue := false, announceDue := false
              acknowledged := s.margin.acknowledged.set b.direction false, doneTimer := some 5000
              doneBody := some body }
          site :=
            x.site.signal
              (.margin b.direction role (some margin) false atZero (result margin false atZero).outcome) }
      (b.direction = .one → exec (.mtestLimit h b) s = .next (begun st .two done)) ∧
        (b.direction = .two → exec (.mtestLimit h b) s = .next done)) ∧
    (active → role ≠ .transmitting ∨ s.margin.stepIndex < b.step →
      exec (.mtestLimit h b) s = .next (heard .limit)) ∧
    (active → role = .judge →
      let done : State := { heard .done with margin := recorded, site := told }
      (b.direction = .one → exec (.mtestDone h b) s = .next (begun st .two done)) ∧
        (b.direction = .two → ∃ t, exec (.mtestDone h b) s = .next t ∧ proposed done t)) ∧
    (active → role ≠ .judge → exec (.mtestDone h b) s = .next (heard .done)) ∧
    (late → abortedDirection s = none →
      ∃ t, exec (.mtestDone h b) s = .next t ∧ proposed { heard .done with margin := recorded, site := told } t) ∧
    (∀ d, late → abortedDirection s = some d →
      ∃ x, exec (.mtestDone h b) s = .next (begun st d x) ∧
        proposed { heard .done with margin := recorded, site := told } x) ∧
    (¬ active → ¬ late → exec (.mtestDone h b) s = .next (delivered st s (heard .done))) ∧
    (¬ active →
      exec (.mtestStep h b) s = .next (delivered st s (heard .step)) ∧
        exec (.mtestLimit h b) s = .next (delivered st s (heard .limit))) ∧
    ∀ d, s.hop.phase = .margin → s.margin.current = some d → s.margin.states.get d = .aborted →
      exec (.mtestStep h b) s = .next (begun st d (heard .step)) ∧
        exec (.mtestLimit h b) s = .next (begun st d (heard .limit)) ∧
        (¬ late → exec (.mtestDone h b) s = .next (begun st d (heard .done)))

/-! ### Route channel: queue, contention, transmission -/

/-- A frame joins the waiting queue: a STATUS or a LEVEL takes the place of a waiting one; otherwise it stands
behind every frame of its own or a higher class; six waiting frames drop the newest of the lowest class, or the new
frame, the newest being the queue's last (log 28). The head of the queue then enters an empty slot: it is sent at
once after the guard when it is no resend, a resend draws its count at once, and before the guard it waits in DEFER
(R104, R117, R118, R119, R120; log 6). -/
def Obligations.FramesJoinTheQueue : Prop :=
  ∀ (q : QFrame) (r : Route), (r.waiting.Pairwise fun a b => a.classNumber ≤ b.classNumber) →
    let replaces := (q.kind = .status ∨ q.kind = .level) ∧ ∃ w ∈ r.waiting, w.kind = q.kind
    let inPlace (ws out : List QFrame) : Prop :=
      ∃ before after, ws = before ++ after ∧ out = before ++ q :: after ∧
        (∀ w ∈ before, w.classNumber ≤ q.classNumber) ∧ ∀ w ∈ after, q.classNumber < w.classNumber
    let dropped : RouteCounters := { r.counters with dropped := min 65535 (r.counters.dropped + 1) }
    (replaces →
      r.joinQueue q = { r with waiting := r.waiting.map fun w => if w.kind = q.kind then q else w }) ∧
    (¬ replaces → r.waiting.length < 6 →
      inPlace r.waiting (r.joinQueue q).waiting ∧
        r.joinQueue q = { r with waiting := (r.joinQueue q).waiting }) ∧
    (∀ rest last, ¬ replaces → 6 ≤ r.waiting.length → r.waiting = rest ++ [last] →
      (q.classNumber < last.classNumber →
        inPlace rest (r.joinQueue q).waiting ∧
          r.joinQueue q = { r with waiting := (r.joinQueue q).waiting, counters := dropped }) ∧
      (last.classNumber ≤ q.classNumber → r.joinQueue q = { r with counters := dropped })) ∧
    ∀ draws : Nat,
      (r.inFlight ≠ none → r.enqueue draws q = (draws, r.joinQueue q)) ∧
      ∀ w ws, r.inFlight = none → (r.joinQueue q).waiting = w :: ws →
        let live := (r.roster.filter fun e => e.liveness == .live).length
        let window := if live ≤ 3 then 8 else if live ≤ 7 then 16 else if live ≤ 11 then 32 else 64
        let guard := r.carrierBusy = false ∧ 20 ≤ r.idle
        let entered : Route := { r.joinQueue q with waiting := ws, inFlight := some w, backoff := none }
        let sending (count : Option Nat) : Route :=
          { entered with
            contention := .sending, backoff := count, slot := 0, idle := 0, transmitEnable := true, sendTime := 0
            wire := w.frame.wire, framer := { state := .hunt, bytes := [], gap := none } }
        (guard → w.resend = false → r.enqueue draws q = (draws, sending none)) ∧
        (guard → w.resend = true →
          ∃ n, n < min 64 (2 * window) ∧ (r.enqueue draws q).1 = draws + 1 ∧
            (n = 0 → (r.enqueue draws q).2 = sending (some 0)) ∧
            (n ≠ 0 →
              (r.enqueue draws q).2 = { entered with contention := .backoff, backoff := some n, slot := 0 })) ∧
        (¬ guard → r.enqueue draws q = (draws, { entered with contention := .defer }))

/-- Carrier-busy, the guard and the backoff slots move the contention by the table of R120, a drawn count lying
below the window of R119 (log 6); a guard or a slot that is not complete has no effect. The transmit line carries
each byte of the frame as a low start bit, eight data bits least significant first and a high stop bit, and rests
high (R104, R105, R119, R120; log 1, 5, 26, 27). -/
def Obligations.ChannelContends : Prop :=
  ∀ s : State,
    let r := s.route
    let on (x : Route) : State := { s with route := x }
    let live := (r.roster.filter fun e => e.liveness == .live).length
    let window := if live ≤ 3 then 8 else if live ≤ 7 then 16 else if live ≤ 11 then 32 else 64
    let begun (q : QFrame) : Route :=
      { r with
        contention := .sending, backoff := some 0, slot := 0, idle := 0, transmitEnable := true, sendTime := 0
        wire := q.frame.wire, framer := { state := .hunt, bytes := [], gap := none } }
    (r.contention = .sending →
      exec .carrierBusyHigh s = .next (on { r with carrierBusy := true }) ∧
        exec .carrierBusyLow s = .next (on { r with carrierBusy := false })) ∧
    (r.contention ≠ .sending →
      exec .carrierBusyHigh s = .next
        (on
          { r with
            carrierBusy := true, idle := 0, slot := 0
            contention := if r.contention = .backoff then .defer else r.contention }) ∧
      (r.carrierBusy = true →
        exec .carrierBusyLow s = .next (on { r with carrierBusy := false, idle := 0, slot := 0 })) ∧
      (r.carrierBusy = false → exec .carrierBusyLow s = .next s)) ∧
    (r.contention ≠ .defer ∨ r.carrierBusy = true ∨ r.idle < 20 → exec .guardComplete s = .next s) ∧
    (∀ q, r.contention = .defer → r.carrierBusy = false → 20 ≤ r.idle → r.inFlight = some q →
      ∃ t n, exec .guardComplete s = .next t ∧ t = { s with draws := t.draws, route := t.route } ∧
        (∀ m, r.backoff = some m → n = m) ∧
        (r.backoff = none → n < if q.resend then min 64 (2 * window) else window) ∧
        (n = 0 → t.route = begun q) ∧
        (n ≠ 0 → t.route = { r with backoff := some n, slot := 0, contention := .backoff })) ∧
    (r.contention ≠ .backoff ∨ r.slot < 10 → exec .backoffSlotEnd s = .next s) ∧
    (∀ q n, r.contention = .backoff → 10 ≤ r.slot → r.inFlight = some q → r.backoff = some (n + 1) →
      (n = 0 → exec .backoffSlotEnd s = .next (on (begun q))) ∧
      (n ≠ 0 → exec .backoffSlotEnd s = .next (on { r with backoff := some n, slot := 0 }))) ∧
    (∀ n b, r.wire[n]? = some b →
      r.lineAt (10 * n) = false ∧ (∀ i, i < 8 → r.lineAt (10 * n + 1 + i) = b.getLsbD i) ∧
        r.lineAt (10 * n + 9) = true) ∧
    ∀ n, 10 * r.wire.length ≤ n → r.lineAt n = true

/-- TRANSMISSION_COMPLETE, within the last ms of the frame's length times 10 / 9600 s (log 5): transmit-enable
falls, the frame is counted, and the head of the queue enters the slot in DEFER; before that it has no effect (R105,
R117, R120; log 1). -/
def Obligations.TransmissionCompletes : Prop :=
  ∀ (q : QFrame) (s : State), s.route.inFlight = some q →
    let n := q.frame.body.kind.bodyLength + 12
    let timeUp := 25 * n < (s.route.sendTime + 1) * 24
    let cleared : Route :=
      { s.route with
        transmitEnable := false, wire := [], inFlight := none, contention := .empty, backoff := none, idle := 0
        slot := 0, framer := { state := .hunt, bytes := [], gap := none }
        counters := { s.route.counters with sent := min 65535 (s.route.counters.sent + 1) } }
    (s.route.contention ≠ .sending ∨ ¬ timeUp → exec .transmissionComplete s = .next s) ∧
    (s.route.contention = .sending → timeUp → s.route.waiting = [] →
      exec .transmissionComplete s = .next { s with route := cleared }) ∧
    (∀ w ws, s.route.contention = .sending → timeUp → s.route.waiting = w :: ws →
      exec .transmissionComplete s = .next
        { s with route := { cleared with waiting := ws, inFlight := some w, contention := .defer } })

/-- The periodic frames of a configured station: when its timer has run out, STATUS, LEVEL, VERDICT, the final
DIGEST or the MTEST DONE is queued again and the timer starts again; a timer that has not run out has no effect
(R79, R121, R122, R175, R185; log 1, 5, 6). -/
def Obligations.PeriodicFramesAreQueued : Prop :=
  ∀ (st : Station) (s : State), s.station = some st →
    let queued (body : FrameBody) : Route := (queuedFor st body s.draws s.route).2
    (s.route.statusTimer ≠ some 0 → exec .statusTimerExpiry s = .next s) ∧
    (s.route.statusTimer = some 0 →
      ∃ t n, exec .statusTimerExpiry s = .next t ∧ t = { s with draws := t.draws, route := t.route } ∧
        2000 ≤ n ∧ n ≤ 2499 ∧ t.route = { queued (.status (statusShown st s)) with statusTimer := some n }) ∧
    (s.route.levelTimer ≠ some 0 → exec .levelTimerExpiry s = .next s) ∧
    (s.route.levelTimer = some 0 →
      ∃ t, exec .levelTimerExpiry s = .next t ∧ t = { s with draws := t.draws, route := t.route } ∧
        t.route = { queued (.level (levelShown s)) with levelTimer := some 250 }) ∧
    (s.lobe.repeatTimer ≠ some 0 → exec .verdictRepeat s = .next s) ∧
    (∀ v, s.lobe.repeatTimer = some 0 → s.lobe.own = some v →
      ∃ t, exec .verdictRepeat s = .next t ∧
        t = { s with draws := t.draws, route := t.route, lobe := { s.lobe with repeatTimer := some 5000 } } ∧
        t.route = queued (.verdict v)) ∧
    (s.soak.digestTimer ≠ some 0 → exec .digestTimerExpiry s = .next s) ∧
    (s.soak.digestTimer = some 0 →
      ∃ t, exec .digestTimerExpiry s = .next t ∧
        t = { s with draws := t.draws, route := t.route, soak := { s.soak with digestTimer := some 60 } } ∧
        t.route = queued (.digest (digestShown true s.soak))) ∧
    (s.margin.doneTimer ≠ some 0 → exec .doneRepeat s = .next s) ∧
    (∀ b, s.margin.doneTimer = some 0 → s.margin.doneBody = some b →
      ∃ t, exec .doneRepeat s = .next t ∧
        t = { s with draws := t.draws, route := t.route, margin := { s.margin with doneTimer := some 5000 } } ∧
        t.route = queued (.mtest .done b))

/-! ### Hop coordinator: the timers -/

/-- ANSWER_TIMEOUT resends the proposal below the third attempt and fails it at the third; ENTRY_HOLD_EXPIRY ends
the hold; AUTOMATIC_TIMER_EXPIRY waits 10 s more while a check fails, and does nothing once the condition is gone
(R132, R140, R143; log 1, 24). -/
def Obligations.CoordinatorTimersAct : Prop :=
  ∀ s : State,
    let withdrawn : Route := { s.route with waiting := s.route.waiting.filter fun q => q.kind != .propose }
    (s.hop.answerTimer ≠ some 0 → exec .answerTimeout s = .next s) ∧
    (∀ st p, s.station = some st → s.hop.answerTimer = some 0 → s.hop.outstanding = some p → p.attempts < 3 →
      ∃ t, exec .answerTimeout s = .next t ∧ t = { s with draws := t.draws, route := t.route, hop := t.hop } ∧
        t.hop =
          { s.hop with
            outstanding := some { p with attempts := p.attempts + 1 }, answerTimer := some 2000 } ∧
        t.route =
          (withdrawn.enqueue s.draws
            { frame := buildFrame st (.propose { number := p.number, target := p.target, role := p.role })
              resend := true }).2) ∧
    (∀ p, s.hop.answerTimer = some 0 → s.hop.outstanding = some p → 3 ≤ p.attempts →
      ∃ t, exec .answerTimeout s = .next t ∧ t = { s with route := withdrawn, hop := t.hop, site := t.site } ∧
        t.hop =
          { s.hop with
            outstanding := none, answerTimer := none
            failed := some { number := p.number, target := p.target, role := p.role }
            autoTimer := if p.automatic then some 10000 else s.hop.autoTimer } ∧
        t.site = s.site.signal (.proposal p.number p.target .failed none)) ∧
    (s.hop.entryHold ≠ some 0 → exec .entryHoldExpiry s = .next s) ∧
    (s.hop.entryHold = some 0 →
      exec .entryHoldExpiry s = .next { s with hop := { s.hop with entryHold := none } }) ∧
    (s.hop.autoTimer ≠ some 0 → exec .automaticTimerExpiry s = .next s) ∧
    (s.hop.autoTimer = some 0 → s.autoTarget = none →
      exec .automaticTimerExpiry s = .next { s with hop := { s.hop with autoTimer := none } }) ∧
    (s.hop.autoTimer = some 0 → s.autoTarget ≠ none →
      s.hop.outstanding ≠ none ∨ s.route.conflict = true ∨ s.route.partner = .lost →
      exec .automaticTimerExpiry s = .next { s with hop := { s.hop with autoTimer := some 10000 } })

/-! ### Input lines and test source -/

/-- ENCODER_LINE_CHANGE and SYNC_INPUT_CHANGE set the raw level of one line and leave the count to the ticks (log
22); KEYING_EDGE, when due, changes the keying output and returns its counter to 0, and like SYNC_PIN makes a pending
attenuation live if its set names it; SYNC_FILTERED_FALL moves the filtered level alone. The attenuator's six lines
carry the live attenuation, line 0 the least significant (R37, R151, R152, R154, R155; log 1). -/
def Obligations.LinesAndApplyEventsAct : Prop :=
  ∀ (x : Axis) (l : Line) (high : Bool) (s : State),
    let drive (v : LineState) : LineState := { v with raw := high }
    let axis := s.pos.axes.get x
    let sync := s.src.sync
    let passed : LineState := { sync with filtered := sync.raw, candidate := 0 }
    let applied (named : Bool) : Staged Nat :=
      if named = true ∧ s.src.atten.pending = true then
        { live := s.src.atten.staged, staged := s.src.atten.staged, pending := false }
      else s.src.atten
    let source (y : Source) : State := { s with src := y }
    (axis.due s.settings.filterTicks = false →
      exec (.encoderLineChange x l high) s = .next
        { s with
          pos :=
            { s.pos with
              axes :=
                s.pos.axes.set x
                  (match l with
                  | .a => { axis with lineA := drive axis.lineA }
                  | .b => { axis with lineB := drive axis.lineB }) } }) ∧
    (sync.candidate < 8 ∨ sync.raw = sync.filtered →
      exec (.syncInputChange high) s = .next (source { s.src with sync := drive sync })) ∧
    (s.src.edgeDue = false → exec .keyingEdge s = .next s) ∧
    (s.src.edgeDue = true →
      exec .keyingEdge s = .next
        (source
          { s.src with
            keyOut := !s.src.keyOut, keyCount := 0, edgeDue := false
            atten := applied s.settings.attenSources.keyingEdge })) ∧
    (sync.candidate < 8 ∨ sync.raw = sync.filtered →
      exec .syncPin s = .next s ∧ exec .syncFilteredFall s = .next s) ∧
    (8 ≤ sync.candidate → sync.raw = true → sync.filtered = false →
      exec .syncPin s = .next
          (source { s.src with sync := passed, atten := applied s.settings.attenSources.syncPin }) ∧
        exec .syncFilteredFall s = .next s) ∧
    (8 ≤ sync.candidate → sync.raw = false → sync.filtered = true →
      exec .syncFilteredFall s = .next (source { s.src with sync := passed }) ∧ exec .syncPin s = .next s) ∧
    ∀ i, i < 6 → s.src.attenLines.getLsbD i = s.src.atten.live.testBit i

/-! ### Pattern checker -/

/-- PATTERN_CLOCK_EDGE, with nothing of the checker due: while the pattern is live the generator sends its next bit,
most significant first, and the checker takes one; otherwise it has no effect (R158, R159; log 3, 20). -/
def Obligations.PatternBitsPass : Prop :=
  ∀ (bit : Bool) (s : State),
    (s.src.pattern.live = false → exec (.patternClockEdge bit) s = .next s) ∧
    (s.src.pattern.live = true → s.settleChecker = s →
      exec (.patternClockEdge bit) s = .next
        { s with
          src :=
            { s.src with
              genOut := (s.settings.words.getD s.src.genWord 0).getLsbD s.src.genBit
              genBit := if s.src.genBit = 0 then 15 else s.src.genBit - 1
              genWord := if s.src.genBit = 0 then (s.src.genWord + 1) % 8 else s.src.genWord }
          chk :=
            { s.chk with
              window := (s.chk.window <<< 1) ||| (if bit then 1 else 0)
              intervalBits := s.chk.intervalBits + 1
              sinceHunt := if s.chk.state = .hunt then min 16 (s.chk.sinceHunt + 1) else s.chk.sinceHunt
              wordBits := if s.chk.state = .hunt then s.chk.wordBits else s.chk.wordBits + 1 } })

/-- SYNC_WORD_FOUND, PATTERN_WORD_COMPLETE and WORD_INTERVAL_END: a pattern word in HUNT starts CONFIRMING; eight
exact words give LOCKED; in LOCKED words are compared and four hits in a row lose lock; an interval is counted. Not
due, they have no effect (R159 to R162; log 1, 20). -/
def Obligations.CheckerFindsAndLosesLock : Prop :=
  ∀ s : State,
    let c := s.chk
    let expected := s.settings.words.getD c.expected 0
    let errors := ((List.range 16).filter fun i => (c.window.getLsbD i) != (expected.getLsbD i)).length
    let next := (c.expected + 1) % 8
    let on (x : Checker) : State := { s with chk := x }
    let count (n k : Nat) := min 4294967295 (n + k)
    let off := s.src.pattern.live = false
    let word := s.src.pattern.live = true ∧ 16 ≤ c.wordBits
    let hunting (x : Checker) : Checker := { x with state := .hunt, sinceHunt := 0, wordBits := 0 }
    let compared : Checker :=
      { c with
        totals :=
          { c.totals with bitsChecked := count c.totals.bitsChecked 16, bitErrors := count c.totals.bitErrors errors }
        hits := if 4 ≤ errors then c.hits + 1 else 0
        expected := next, wordBits := 0 }
    (off ∨ c.state ≠ .hunt ∨ c.sinceHunt < 16 ∨ c.window ∉ s.settings.words → exec .syncWordFound s = .next s) ∧
    (∀ j, ¬ off → c.state = .hunt → 16 ≤ c.sinceHunt → s.settings.words[j]? = some c.window →
      (∀ i, i < j → s.settings.words[i]? ≠ some c.window) →
      exec .syncWordFound s = .next
        (on { c with state := .confirming, expected := (j + 1) % 8, confirm := 0, wordBits := 0 })) ∧
    (off ∨ c.state = .hunt ∨ c.wordBits < 16 → exec .patternWordComplete s = .next s) ∧
    (word → c.state = .confirming → c.window ≠ expected → exec .patternWordComplete s = .next (on (hunting c))) ∧
    (word → c.state = .confirming → c.window = expected → c.confirm < 7 →
      exec .patternWordComplete s = .next
        (on { c with confirm := c.confirm + 1, expected := next, wordBits := 0 })) ∧
    (word → c.state = .confirming → c.window = expected → 7 ≤ c.confirm →
      ∃ t, exec .patternWordComplete s = .next t ∧ t = { s with chk := t.chk, site := t.site } ∧
        t.chk =
          { c with
            state := .locked, confirm := c.confirm + 1, expected := next, wordBits := 0, hits := 0
            lockCount := min 65535 (c.lockCount + 1) } ∧
        t.site = s.site.signal (.pattern .locked t.chk.lockCount c.slipCount)) ∧
    (word → c.state = .locked → errors < 4 ∨ c.hits < 3 → exec .patternWordComplete s = .next (on compared)) ∧
    (word → c.state = .locked → 4 ≤ errors → 3 ≤ c.hits →
      ∃ t, exec .patternWordComplete s = .next t ∧ t = { s with chk := t.chk, site := t.site } ∧
        t.chk =
          hunting
            { compared with
              slipCount := min 65535 (c.slipCount + 1)
              totals := { compared.totals with slips := count c.totals.slips 1 } } ∧
        t.site = s.site.signal (.pattern .hunt c.lockCount t.chk.slipCount)) ∧
    (off ∨ c.intervalBits < 16 → exec .wordIntervalEnd s = .next s) ∧
    (¬ off → 16 ≤ c.intervalBits → s.settleSyncWork = s →
      exec .wordIntervalEnd s = .next
        (on
          { c with
            intervalBits := 0
            totals :=
              { c.totals with
                intervals := count c.totals.intervals 1
                notLocked :=
                  if c.state = .locked then c.totals.notLocked else count c.totals.notLocked 1 } }))

/-! ### The second event -/

/-- SECOND_EVENT, when due with nothing of the checker due: the roster ages and the partner liveness follows, LOST
making a PENDING handover record INCOMPLETE; the totals are delivered and start again; staged values take effect by
SECOND; the dwell count and the judge's latched step follow, with its LIMIT. Not due, it has no effect (R114, R153
to R155, R158, R159, R163, R182, R186, R197, R200; log 1, 3, 20, 30, 37). -/
def Obligations.SecondEventIsTaken : Prop :=
  ∀ s : State,
    (s.time.secondDue = false → exec .secondEvent s = .next s) ∧
    (s.time.secondDue = true → s.settleChecker = s →
      let changes := s.src.pattern.pending = true ∧ s.src.pattern.staged ≠ s.src.pattern.live
      let delivered : Delivery := { totals := s.chk.totals, enabled := s.src.pattern.live }
      let inRole (role : MarginRole) :=
        ∃ d, s.margin.current = some d ∧ s.margin.states.get d = .active ∧ s.roleOf d = role
      let badSecondSeen := s.src.pattern.live = true ∧ badSecond s.chk.totals = true
      ∃ t, exec .secondEvent s = .next t ∧
        t = { s with
          draws := t.draws, time := { s.time with secondDue := false }, route := t.route, hop := t.hop, src := t.src
          chk := t.chk, soak := t.soak, margin := t.margin, handover := t.handover, site := t.site } ∧
        t.hop.phase = s.hop.phase ∧
        t.route.roster =
          ((s.route.roster.map fun e =>
            { e with
              age := min 255 (e.age + 1)
              liveness := if e.age + 1 < 6 then .live else if e.age + 1 < 30 then .quiet else .lost }).filter
            fun e => decide (e.age < 120)) ∧
        t.route.partner = (match t.partnerEntry with | none => Liveness.lost | some e => e.liveness) ∧
        (t.route.partner ≠ s.route.partner → EventFlag.partner ∈ t.site.flags) ∧
        t.chk.latest = some delivered ∧ t.chk.totals = totalsCleared ∧
        (changes →
          t.chk =
            { s.chk with
              state := .hunt, sinceHunt := 0, wordBits := 0, intervalBits := 0, lockCount := 0, slipCount := 0
              latest := some delivered, totals := totalsCleared } ∧
          t.src.genWord = 0 ∧ t.src.genBit = 15 ∧ t.src.genOut = false) ∧
        (¬ changes → t.chk = { s.chk with latest := some delivered, totals := totalsCleared } ∧
          t.src.genWord = s.src.genWord ∧ t.src.genBit = s.src.genBit ∧ t.src.genOut = s.src.genOut) ∧
        t.src.pattern =
          (if s.src.pattern.pending then
            { live := s.src.pattern.staged, staged := s.src.pattern.staged, pending := false }
          else s.src.pattern) ∧
        t.src.atten =
          (if s.settings.attenSources.second = true ∧ s.src.atten.pending = true then
            { live := s.src.atten.staged, staged := s.src.atten.staged, pending := false }
          else s.src.atten) ∧
        t.src.beacon = s.src.beacon ∧ t.src.keyOut = s.src.keyOut ∧ t.src.sync = s.src.sync ∧
        (inRole .transmitting →
          t.margin =
            { s.margin with
              dwell := min 60 (s.margin.dwell + 1)
              announceDue := s.margin.announced != s.margin.stepIndex }) ∧
        (inRole .judge → badSecondSeen →
          t.margin = { s.margin with latched := some (s.margin.latched.getD s.margin.heard) }) ∧
        (∀ st d, s.station = some st → s.margin.current = some d → inRole .judge → badSecondSeen →
          s.hop.phase = .margin → s.soak.running = false →
          t.route =
            { (s.route.enqueue s.draws
                { frame :=
                    buildFrame st
                      (.mtest .limit
                        { direction := d, step := s.margin.latched.getD s.margin.heard, atten := 0, margin := 0
                          capped := false, atZero := false })
                  resend := false }).2 with
              roster := t.route.roster, partner := t.route.partner, conflict := t.route.conflict
              levelTimer := none }) ∧
        (∀ h, s.handover = some h →
          let lost := t.route.partner = .lost ∧ s.route.partner ≠ .lost
          (lost → h.overall = .pending →
            t.handover = some { h with overall := .incomplete } ∧ EventFlag.handover ∈ t.site.flags) ∧
          (¬ lost ∨ h.overall ≠ .pending → t.handover = some h)) ∧
        (s.handover = none → t.handover = none) ∧
        (¬ inRole .transmitting → ¬ (inRole .judge ∧ badSecondSeen) → t.margin = s.margin))

/-- A second event's delivery opens a WAITING soak or leaves it WAITING, is counted and classed in an OPEN one by
the availability rules, completes it at its duration with the verdict of R174, its pending seconds released and its
open fades cut, and leaves any other soak as it is but for the DIGEST timer; an interim DIGEST follows each 60th
second, a final one the completion, at which end A proposes MARGIN, or HANDOVER when the margin test is disabled, or
starts the automatic timer for 10 s when a check fails (R131, R140, R168 to R175, R180; log 3, 24, 37, 38). -/
def Obligations.SoakSecondsAreCounted : Prop :=
  ∀ s : State, s.time.secondDue = true → s.settleChecker = s →
    let k := s.soak
    let totals := s.chk.totals
    let enabled := s.src.pattern.live = true
    let opens := enabled ∧ ((0 < totals.intervals ∧ totals.notLocked = 0) ∨ 10 ≤ k.settling + 1)
    let cls : SecondClass :=
      if totals.intervals = 0 ∨ totals.intervals ≤ totals.notLocked * 10 ∨
          (0 < totals.bitsChecked ∧ totals.bitsChecked ≤ totals.bitErrors * 1000) then .bad
      else if 1 ≤ totals.bitErrors ∨ 1 ≤ totals.notLocked ∨ 1 ≤ totals.slips then .errored
      else .clean
    let one (c : SecondClass) : Nat := if cls = c then 1 else 0
    let counting := k.state = .opened ∨ (k.state = .waiting ∧ opens)
    let goesOn := k.elapsed + 1 < s.settings.soakMinutes * 60
    let p := k.pending.length
    let outageStarts := k.availability = .available ∧ cls = .bad ∧ 9 ≤ p
    let outageEnds := k.availability = .outage ∧ cls ≠ .bad ∧ 9 ≤ p
    ∃ t, exec .secondEvent s = .next t ∧
      (k.state = .waiting → ¬ opens →
        t.soak = { k with
          settling := if s.src.pattern.live = true then k.settling + 1 else k.settling, lowSeen := false
          digestTimer := Timer.tick k.digestTimer }) ∧
      (k.state ≠ .waiting → k.state ≠ .opened → t.soak = { k with digestTimer := Timer.tick k.digestTimer }) ∧
      (counting → ∃ m : Soak,
        m.elapsed = k.elapsed + 1 ∧ m.latest = some cls ∧ m.lowSeen = false ∧
        m.suspect = (if k.lowSeen then min 65535 (k.suspect + 1) else k.suspect) ∧
        m.state = .opened ∧ m.verdict = k.verdict ∧ m.fades = k.fades ∧ m.list = k.list ∧ m.joint = k.joint ∧
        m.discards = k.discards ∧ m.partnerDigest = k.partnerDigest ∧
        m.settling =
          (if k.state = .opened ∨ (0 < totals.intervals ∧ totals.notLocked = 0) then k.settling
            else k.settling + 1) ∧
        (¬ outageStarts → m.periods = k.periods) ∧ (¬ outageEnds → m.longestOutage = k.longestOutage) ∧
        (k.availability = .available → ¬ outageStarts → m.currentOutage = k.currentOutage) ∧
        (k.availability = .available → cls ≠ .bad →
          m.pending = [] ∧ m.bad = k.bad + p ∧ m.clean = k.clean + one .clean ∧
            m.errored = k.errored + one .errored ∧ m.outage = k.outage ∧ m.availability = .available) ∧
        (k.availability = .available → cls = .bad → p < 9 →
          m.pending = k.pending ++ [{ number := k.elapsed + 1, provisional := .bad }] ∧ m.bad = k.bad ∧
            m.clean = k.clean ∧ m.errored = k.errored ∧ m.outage = k.outage ∧ m.availability = .available) ∧
        (k.availability = .available → cls = .bad → p = 9 →
          m.pending = [] ∧ m.outage = k.outage + 10 ∧ m.bad = k.bad ∧ m.clean = k.clean ∧
            m.errored = k.errored ∧ m.availability = .outage ∧ m.currentOutage = 10 ∧
            m.periods = min 65535 (k.periods + 1) ∧ EventFlag.outage ∈ t.site.flags) ∧
        (k.availability = .outage → cls = .bad →
          m.pending = [] ∧ m.outage = k.outage + p + 1 ∧ m.currentOutage = k.currentOutage + p + 1 ∧
            m.bad = k.bad ∧ m.clean = k.clean ∧ m.errored = k.errored ∧ m.availability = .outage) ∧
        (k.availability = .outage → cls ≠ .bad → p < 9 →
          m.pending = k.pending ++ [{ number := k.elapsed + 1, provisional := cls }] ∧ m.outage = k.outage ∧
            m.currentOutage = k.currentOutage ∧ m.bad = k.bad ∧ m.clean = k.clean ∧ m.errored = k.errored ∧
            m.availability = .outage) ∧
        (k.availability = .outage → cls ≠ .bad → p = 9 →
          m.pending = [] ∧ m.availability = .available ∧ m.currentOutage = 0 ∧
            m.longestOutage = max k.longestOutage k.currentOutage ∧
            m.clean = k.clean + (k.pending.filter fun x => x.provisional == .clean).length + one .clean ∧
            m.errored = k.errored + (k.pending.filter fun x => x.provisional == .errored).length + one .errored ∧
            m.bad = k.bad + (k.pending.filter fun x => x.provisional == .bad).length ∧ m.outage = k.outage ∧
            EventFlag.outage ∈ t.site.flags) ∧
        (goesOn → t.soak = { m with digestTimer := Timer.tick k.digestTimer }) ∧
        (¬ goesOn →
          (∃ closed, SoakClosed false s m closed ∧
            t.soak = { closed with digestTimer := Timer.tick k.digestTimer }) ∧
          EventFlag.soak ∈ t.site.flags)) ∧
      (∀ st, s.station = some st → counting → s.hop.phase = .soak → AttenuationSound s →
        let after (bodies : List FrameBody) : Nat × Route :=
          let queued := enqueueAll st bodies s.draws s.route
          (queued.1,
            { queued.2 with
              roster := t.route.roster, partner := t.route.partner, conflict := t.route.conflict
              levelTimer := none })
        let last := after [.digest (digestShown true t.soak)]
        let free := s.hop.outstanding = none ∧ t.route.conflict = false ∧ t.route.partner ≠ .lost
        let target := if s.settings.marginEnabled then Phase.margin else .handover
        (goesOn → (k.elapsed + 1) % 60 ≠ 0 → t.hop = s.hop ∧ t.route = (after []).2) ∧
        (goesOn → (k.elapsed + 1) % 60 = 0 →
          t.hop = s.hop ∧ t.route = (after [.digest (digestShown false t.soak)]).2) ∧
        (¬ goesOn → st.hopEnd = .b → t.hop = s.hop ∧ t.route = last.2) ∧
        (¬ goesOn → st.hopEnd = .a → ¬ free →
          t.hop = { s.hop with autoTimer := some 10000 } ∧ t.route = last.2) ∧
        (¬ goesOn → st.hopEnd = .a → free →
          t.hop =
              { s.hop with
                nextNumber := if 255 ≤ s.hop.nextNumber then 1 else s.hop.nextNumber + 1
                outstanding :=
                  some
                    { number := s.hop.nextNumber, target := target, role := .main, attempts := 1
                      automatic := true }
                mismatch := 0, answerTimer := some 2000 } ∧
            t.route =
              (queuedFor st (.propose { number := s.hop.nextNumber, target := target, role := .main }) last.1
                last.2).2))

/-! ### Margin procedure -/

/-- DWELL_EXPIRY, MARGIN_STEP_WRITE, STEP_ANNOUNCE and SILENCE_ABORT of the transmitting end, and SILENCE_ABORT of
the judge: a step is due, written or announced, the cap step ends the direction with 63 CAPPED, and 10 s of silence
abort it. Direction 1's end is direction 2's start, with this station its judge: step heard 0, the latch and the result
absent, the silence 0. The STEP carries margin 0 with both flags clear (log 30), and an aborted result's flags are clear
(log 46). Not due, they have no effect (R181, R182, R183, R184, R187; log 1, 23). -/
def Obligations.MarginStepsRun : Prop :=
  ∀ (d : Direction) (s : State), s.margin.current = some d → s.margin.states.get d = .active →
    let m := s.margin
    let transmits := s.roleOf d = .transmitting
    let step := s.settings.marginStep
    let at0 : Source := { s.src with atten := { live := 0, staged := 0, pending := false } }
    let sources := s.settings.attenSources
    let immediate := sources.second = false ∧ sources.keyingEdge = false ∧ sources.syncPin = false
    let value := min ((m.stepIndex + 1) * step) 63
    let writeDue := transmits ∧ m.stepDue = true ∧ s.time.now.index = 500
    let silent := s.hop.phase = .margin ∧ 10000 ≤ m.silence
    let aborted : MarginResult := { margin := none, capped := false, atZero := false, outcome := .aborted }
    let doneBody : MtestBody :=
      { direction := d, step := m.stepIndex, atten := 0, margin := 63, capped := true, atZero := false }
    let done : Margin :=
      { m with
        results :=
          m.results.set d
            (some
              { margin := some 63, capped := true, atZero := false
                outcome := if s.settings.requiredMargin ≤ 63 then .pass else .fail })
        states := m.states.set d .done, stepDue := false, announceDue := false
        acknowledged := m.acknowledged.set d false, doneTimer := some 5000, doneBody := some doneBody }
    (transmits → m.dwell = s.settings.marginDwell → m.stepDue = false →
      exec .dwellExpiry s = .next { s with margin := { m with stepDue := true } }) ∧
    (¬ transmits ∨ m.dwell ≠ s.settings.marginDwell ∨ m.stepDue = true → exec .dwellExpiry s = .next s) ∧
    (writeDue → m.stepIndex * step < 63 →
      exec .marginStepWrite s = .next
        { s with
          margin := { m with stepDue := false, dwell := 0, stepIndex := m.stepIndex + 1 }
          src :=
            { s.src with
              atten :=
                if immediate then { live := value, staged := value, pending := false }
                else { live := s.src.atten.live, staged := value, pending := true } } }) ∧
    (∀ st, s.station = some st → writeDue → 63 ≤ m.stepIndex * step →
      ∃ t, exec .marginStepWrite s = .next t ∧
        (d = .two → t.margin = done) ∧
        (d = .one →
          t.margin =
            { done with
              states := { one := .done, two := .active }, current := some .two
              results := { one := done.results.one, two := none }, heard := 0, latched := none, silence := 0 }) ∧
        t.route =
          (s.route.enqueue s.draws
            { frame := buildFrame st (.mtest .done doneBody), resend := false }).2 ∧
        t.src = at0 ∧
        t = { s with
          draws := t.draws, route := t.route, src := t.src, margin := t.margin, site := t.site } ∧
        t.site =
          s.site.signal
            (.margin d .transmitting (some 63) true false
              (if s.settings.requiredMargin ≤ 63 then MarginOutcome.pass else .fail))) ∧
    (¬ writeDue → exec .marginStepWrite s = .next s) ∧
    (∀ st, s.station = some st → transmits → m.announceDue = true →
      ∃ t, exec .stepAnnounce s = .next t ∧
        t = { s with
          draws := t.draws, route := t.route
          margin := { m with announced := m.stepIndex, announceDue := false } } ∧
        t.route =
          (s.route.enqueue s.draws
            { frame :=
                buildFrame st
                  (.mtest .step
                    { direction := d, step := m.stepIndex, atten := min (m.stepIndex * step) 63, margin := 0
                      capped := false, atZero := false })
              resend := false }).2) ∧
    (¬ transmits ∨ m.announceDue = false → exec .stepAnnounce s = .next s) ∧
    (silent →
      ∃ t, exec .silenceAbort s = .next t ∧ t = { s with margin := t.margin, src := t.src, site := t.site } ∧
        t.site = s.site.signal (.margin d (s.roleOf d) none false false .aborted) ∧
        (transmits →
          t.margin =
            { m with
              states := m.states.set d .aborted, results := m.results.set d (some aborted), stepDue := false
              announceDue := false } ∧
          t.src = at0) ∧
        (¬ transmits →
          t.margin = { m with states := m.states.set d .aborted, latched := none } ∧ t.src = s.src)) ∧
    (¬ silent → exec .silenceAbort s = .next s)

/-! ### Supply watch -/

/-- SUPPLY_CROSSING starts, keeps or stops the 100 ms debounce of the watch's state, and SUPPLY_DEBOUNCE_EXPIRY,
when the debounce has run out, changes the state with its event; otherwise it has no effect (R198; log 1, 21). -/
def Obligations.SupplyWatchDebounces : Prop :=
  ∀ (mv : Nat) (s : State),
    let code := s.settings.supplyLow
    let level := if code = 0 then 10800 else if code = 1 then 11400 else if code = 2 then 21600 else 22800
    let w := s.supply
    let crossed (v : Nat) := if w.low then level + 300 < v else v < level
    let on (x : Supply) : State := { s with supply := x }
    (¬ crossed mv → exec (.supplyCrossing mv) s = .next (on { w with sense := mv, debounce := none })) ∧
    (crossed mv → ¬ crossed w.sense ∨ w.debounce = none →
      exec (.supplyCrossing mv) s = .next (on { w with sense := mv, debounce := some 100 })) ∧
    (∀ n, crossed mv → crossed w.sense → w.debounce = some n →
      exec (.supplyCrossing mv) s = .next (on { w with sense := mv })) ∧
    (w.debounce ≠ some 0 → exec .supplyDebounceExpiry s = .next s) ∧
    (w.debounce = some 0 → crossed w.sense →
      ∃ t, exec .supplyDebounceExpiry s = .next t ∧
        t = { s with supply := { low := !w.low, debounce := none, sense := w.sense }, site := t.site } ∧
        t.site = s.site.signal (.supply !w.low))

/-! ### Invariants that every step keeps -/

/-- The state after reset has every invariant below; the converted sample it holds is the model's choice (log 7). -/
def Obligations.ResetHasTheInvariants : Prop :=
  OutputBounded State.reset ∧ WaitingOrdered State.reset ∧ RosterSound State.reset ∧ FiguresSound State.reset ∧
    SoakSound State.reset ∧ HopSound State.reset ∧ AttenuationSound State.reset

/-- Every step keeps these laws: at most 8 messages in the output queue (R193); at most 6 waiting frames, at most
one STATUS and one LEVEL, every frame in its class's place (R117); at most 14 roster entries, in ascending station
order, none with the own number (R113). -/
def Obligations.QueuesAndRosterStaySound : Prop :=
  ∀ s t : State, step s = .next t →
    (OutputBounded s → OutputBounded t) ∧ (WaitingOrdered s → WaitingOrdered t) ∧ (RosterSound s → RosterSound t)

/-- Every step keeps the counts, the levels, the averages and the half-periods in their ranges (R4, R13, R41, R94).
-/
def Obligations.FiguresStayInRange : Prop :=
  ∀ s t : State, FiguresSound s → step s = .next t → FiguresSound t

/-- Every step keeps the law of R170: each soak second is counted once, and the pending queue holds BAD seconds
alone in AVAILABLE and none in OUTAGE. -/
def Obligations.SoakLawIsKept : Prop :=
  ∀ s t : State, SoakSound s → step s = .next t → SoakSound t

/-- Every step keeps the confirmed set full from SOAK to HANDOVER and every open proposal legal, and changes the
phase to a legal successor or to HALTED only, but for a restart and a hard reset. A row that brings several characters,
which may end several frames or messages (log 16, 17), does what its characters do one after another, each as a row of
its own (R85, R126, R131, R148, R149). -/
def Obligations.PhasesChangeLegally : Prop :=
  (∀ (s t : State) (first rest : List Byte),
    (exec (.routeFrameDiscarded first) s = .next t →
      exec (.routeFrameDiscarded (first ++ rest)) s = exec (.routeFrameDiscarded rest) t) ∧
    (exec (.siteChecksumError first) s = .next t →
      exec (.siteChecksumError (first ++ rest)) s = exec (.siteChecksumError rest) t)) ∧
  ∀ s t : State, HopSound s → step s = .next t →
    let oneCharacter :=
      ∀ bytes, (s.pending.head? = some (.routeFrameDiscarded bytes) ∨
        s.pending.head? = some (.siteChecksumError bytes)) → bytes.length ≤ 1
    HopSound t ∧
      (oneCharacter →
        t.hop.phase = s.hop.phase ∨ t.hop.phase = .halted ∨
        legalSuccessor s.settings.marginEnabled s.hop.phase t.hop.phase = true ∨
        t.hop = { coordinatorCleared with
          nextNumber := s.hop.nextNumber, serial := s.hop.serial, ignored := s.hop.ignored } ∨
        t.hop = coordinatorCleared)

/-- Every step keeps the attenuation at 63 dB or less, and at 0 dB with nothing staged while this station is not the
transmitting end of an ACTIVE direction, which is ACTIVE in MARGIN alone (R152, R157, R187, R188). -/
def Obligations.AttenuationStaysSafe : Prop :=
  ∀ s t : State, HopSound s → AttenuationSound s → step s = .next t → AttenuationSound t
end

