-- ==== Sys2Proof/Laws/Ops.lean ====
section
/-! SUPPORT. What the shared operations can do: saturating counts, clamps, families of four and two, timers, staged
values and draws. -/

namespace Sys2Proof

theorem satInc_eq (max n : Nat) : satInc max n = min max (n + 1) := by
  unfold satInc; split <;> omega

theorem satAdd_eq (max n k : Nat) : satAdd max n k = min max (n + k) := by
  unfold satAdd; split <;> omega

theorem satInc_le (max n : Nat) : satInc max n ≤ max := by rw [satInc_eq]; omega

theorem satAdd_le (max n k : Nat) : satAdd max n k ≤ max := by rw [satAdd_eq]; omega

theorem clampInt_eq (lo hi x : Int) (h : lo ≤ hi) : clampInt lo hi x = max lo (min hi x) := by
  unfold clampInt; split
  · omega
  · split <;> omega

theorem clampInt_bounds (lo hi x : Int) (h : lo ≤ hi) : lo ≤ clampInt lo hi x ∧ clampInt lo hi x ≤ hi := by
  rw [clampInt_eq lo hi x h]; omega

theorem clampNat_eq (lo hi x : Nat) (h : lo ≤ hi) : clampNat lo hi x = max lo (min hi x) := by
  unfold clampNat; split
  · omega
  · split <;> omega

theorem clampNat_bounds (lo hi x : Nat) (h : lo ≤ hi) : lo ≤ clampNat lo hi x ∧ clampNat lo hi x ≤ hi := by
  rw [clampNat_eq lo hi x h]; omega

/-! ### One value for each input, role, antenna, axis and direction -/

@[simp] theorem ByInput.get_set_same {α : Type} (b : ByInput α) (i : Input) (x : α) : (b.set i x).get i = x := by
  cases i <;> rfl

theorem ByInput.get_set_ne {α : Type} (b : ByInput α) {i j : Input} (x : α) (h : j ≠ i) :
    (b.set i x).get j = b.get j := by
  cases i <;> cases j <;> first | rfl | exact absurd rfl h

@[simp] theorem ByInput.set_get {α : Type} (b : ByInput α) (i : Input) : b.set i (b.get i) = b := by
  cases i <;> rfl

@[simp] theorem ByRole.get_set_same {α : Type} (b : ByRole α) (i : Role) (x : α) : (b.set i x).get i = x := by
  cases i <;> rfl

theorem ByRole.get_set_ne {α : Type} (b : ByRole α) {i j : Role} (x : α) (h : j ≠ i) :
    (b.set i x).get j = b.get j := by
  cases i <;> cases j <;> first | rfl | exact absurd rfl h

@[simp] theorem ByRole.set_get {α : Type} (b : ByRole α) (i : Role) : b.set i (b.get i) = b := by
  cases i <;> rfl

@[simp] theorem ByRole.get_map {α β : Type} (b : ByRole α) (f : α → β) (i : Role) : (b.map f).get i = f (b.get i) := by
  cases i <;> rfl

@[simp] theorem ByAntenna.get_set_same {α : Type} (b : ByAntenna α) (i : Antenna) (x : α) : (b.set i x).get i = x := by
  cases i <;> rfl

theorem ByAntenna.get_set_ne {α : Type} (b : ByAntenna α) {i j : Antenna} (x : α) (h : j ≠ i) :
    (b.set i x).get j = b.get j := by
  cases i <;> cases j <;> first | rfl | exact absurd rfl h

@[simp] theorem ByAxis.get_set_same {α : Type} (b : ByAxis α) (i : Axis) (x : α) : (b.set i x).get i = x := by
  cases i <;> rfl

theorem ByAxis.get_set_ne {α : Type} (b : ByAxis α) {i j : Axis} (x : α) (h : j ≠ i) :
    (b.set i x).get j = b.get j := by
  cases i <;> cases j <;> first | rfl | exact absurd rfl h

@[simp] theorem ByAxis.get_map {α β : Type} (b : ByAxis α) (f : α → β) (i : Axis) : (b.map f).get i = f (b.get i) := by
  cases i <;> rfl

@[simp] theorem ByDirection.get_set_same {α : Type} (b : ByDirection α) (i : Direction) (x : α) :
    (b.set i x).get i = x := by
  cases i <;> rfl

theorem ByDirection.get_set_ne {α : Type} (b : ByDirection α) {i j : Direction} (x : α) (h : j ≠ i) :
    (b.set i x).get j = b.get j := by
  cases i <;> cases j <;> first | rfl | exact absurd rfl h

end Sys2Proof

namespace Sys2Proof.Machine

/-! ### Timers -/

@[simp] theorem Timer.tick_none : Timer.tick none = none := rfl

@[simp] theorem Timer.tick_some (n : Nat) : Timer.tick (some n) = some (n - 1) := by cases n <;> rfl

theorem Timer.due_iff (t : Timer) : Timer.due t = true ↔ t = some 0 := by simp [Timer.due]

theorem Timer.not_due_iff (t : Timer) : Timer.due t = false ↔ t ≠ some 0 := by simp [Timer.due]

/-! ### Staged values -/

@[simp] theorem Staged.write_live {α : Type} (v : α) (x : Staged α) : (x.write v).live = x.live := rfl

@[simp] theorem Staged.write_staged {α : Type} (v : α) (x : Staged α) : (x.write v).staged = v := rfl

@[simp] theorem Staged.write_pending {α : Type} (v : α) (x : Staged α) : (x.write v).pending = true := rfl

/-- An apply event that the set does not name does nothing (R154). -/
@[simp] theorem Staged.applyOn_false {α : Type} (x : Staged α) : x.applyOn false = x := rfl

/-- With nothing pending an apply event does nothing (R154). -/
theorem Staged.applyOn_idle {α : Type} (event : Bool) (x : Staged α) (h : x.pending = false) : x.applyOn event = x := by
  simp [Staged.applyOn, h]

/-- A pending value takes effect at an apply event that the set names (R154). -/
theorem Staged.applyOn_pending {α : Type} (x : Staged α) (h : x.pending = true) :
    x.applyOn true = { live := x.staged, staged := x.staged, pending := false } := by
  simp [Staged.applyOn, h]

/-! ### Draws -/

theorem drawBelow_lt (draws : Nat) {n : Nat} (h : 0 < n) : drawBelow draws n < n := Nat.mod_lt _ h

end Sys2Proof.Machine
end

