-- ==== Sys2Proof/Laws/Cue.lean ====
section
/-! SUPPORT. What a cue update leaves as it is, and the figures it leaves for QUERY STATUS (R91 to R100, R102). -/

namespace Sys2Proof.Machine

/-- The third part of an update changes neither the meter period nor the live duty, and keeps a cadence boundary that is
due only where the cadence goes on (R97 to R99). -/
theorem Cue.work_frame (st : Settings) (next : ToneState) (used : Option Level) (c : Cue) :
    let x := c.work st next used
    x.source = c.source ∧ x.updateTimer = c.updateTimer ∧ x.updateDue = false ∧ x.tone = next ∧ x.used = used ∧
      x.liveDuty = c.liveDuty ∧ x.periodCounter = c.periodCounter ∧ x.periodDue = c.periodDue ∧ x.shown = c.shown ∧
      x.cadenceDue = if next = c.tone ∧ (next = .stale ∨ next = .foreign) then c.cadenceDue else false := by
  cases next <;>
    simp only [Cue.work, Cue.workOff, Cue.workTone, Cue.workStale, Cue.workForeign, Cue.restartCadence, Cue.silence,
      Cue.resume] <;>
    (repeat' split) <;> simp_all

/-- The figures QUERY STATUS shows after an update are those standing after it (R102; log 13). -/
theorem State.updateCue_shown (s : State) :
    s.updateCue.cue.shown =
      { source := s.cue.source, tone := s.updateCue.cue.tone, cadence := s.updateCue.cue.cadence
        stagedHalf := s.updateCue.cue.stagedHalf, modulus := s.settings.modulus
        stagedDuty := s.updateCue.cue.stagedDuty, used := s.updateCue.cue.used
        reference := if s.cue.source = .relative then s.cueReference else none, age := s.partnerLevelAge } := by
  have source : s.updateCue.cue.source = s.cue.source := (s.cue.work_frame s.settings s.cueTone s.cueLevel).1
  rw [← source]
  rfl

end Sys2Proof.Machine
end

