-- ==== Sys2Proof/Laws/PerInstr.lean ====
section
/-! SUPPORT. One lemma a command: a row that names the arrival of a frame is well-formed exactly when its frame is, and
no request of the site port is such a row (R106, R111, R191). -/

namespace Sys2Proof.Laws.Operands

open Sys2Proof Sys2Proof.Machine

/-- A frame's row is well-formed exactly when the frame is, and a request is no frame's row. -/
def Statement (i : Instr) : Prop :=
  (∀ f : Frame, receiveRow f = i → i.wellFormed = f.wellFormed) ∧
    (isRequest i = true → ∀ f : Frame, receiveRow f ≠ i)

/-- The nine rows of the frame kinds carry the frame's own header and body. -/
theorem receiveRow_wellFormed (f : Frame) : (receiveRow f).wellFormed = f.wellFormed := by
  rcases f with ⟨h, b⟩
  rcases b with b | b | b | b | b | b | ⟨e, b⟩
  case mtest => cases e <;> rfl
  all_goals rfl

theorem receiveRow_no_request (f : Frame) : isRequest (receiveRow f) = false := by
  rcases f with ⟨h, b⟩
  rcases b with b | b | b | b | b | b | ⟨e, b⟩
  case mtest => cases e <;> rfl
  all_goals rfl

theorem every (i : Instr) : Statement i :=
  ⟨fun f e => e ▸ receiveRow_wellFormed f,
    fun h f e => by rw [← e, receiveRow_no_request] at h; exact absurd h (by decide)⟩

theorem hardReset : Statement .hardReset := every _
theorem sampleEvent (codes : ByInput Nat) : Statement (.sampleEvent codes) := every _
theorem rangeWarningClear (i : Input) : Statement (.rangeWarningClear i) := every _
theorem fadeStart (r : Role) (level : Level) : Statement (.fadeStart r level) := every _
theorem fadeEnd (r : Role) (level : Level) : Statement (.fadeEnd r level) := every _
theorem blockClose (level : Level) : Statement (.blockClose level) := every _
theorem encoderTransition (x : Axis) : Statement (.encoderTransition x) := every _
theorem analysisComplete : Statement .analysisComplete := every _
theorem verdictRepeat : Statement .verdictRepeat := every _
theorem cueUpdate : Statement .cueUpdate := every _
theorem staleCadence : Statement .staleCadence := every _
theorem foreignCadence : Statement .foreignCadence := every _
theorem toneToggle : Statement .toneToggle := every _
theorem meterPeriodStart : Statement .meterPeriodStart := every _
theorem setup (record : SetupRecord) : Statement (.setup record) := every _
theorem queryStatus : Statement .queryStatus := every _
theorem queryLevels : Statement .queryLevels := every _
theorem queryPosition : Statement .queryPosition := every _
theorem queryMapCell (column row : Byte) : Statement (.queryMapCell column row) := every _
theorem queryMapSummary : Statement .queryMapSummary := every _
theorem queryLobes : Statement .queryLobes := every _
theorem queryVerdict : Statement .queryVerdict := every _
theorem queryRoster : Statement .queryRoster := every _
theorem querySoak : Statement .querySoak := every _
theorem queryFades : Statement .queryFades := every _
theorem queryMargin : Statement .queryMargin := every _
theorem queryHandover : Statement .queryHandover := every _
theorem advance (target role : Byte) : Statement (.advance target role) := every _
theorem abort : Statement .abort := every _
theorem restart : Statement .restart := every _
theorem zero : Statement .zero := every _
theorem cue (source : Byte) : Statement (.cue source) := every _
theorem reports (mask : BitVec 24) : Statement (.reports mask) := every _
theorem unknownRequest (type : Byte) (body : List Byte) : Statement (.unknownRequest type body) := every _
theorem siteFramingError (length : Nat) : Statement (.siteFramingError length) := every _
theorem siteGapTimeout (cut : LineCut) : Statement (.siteGapTimeout cut) := every _
theorem siteChecksumError (characters : List Byte) : Statement (.siteChecksumError characters) := every _
theorem siteMessageTransmit : Statement .siteMessageTransmit := every _
theorem routeFrameDiscarded (bytes : List Byte) : Statement (.routeFrameDiscarded bytes) := every _
theorem routeGapTimeout (cut : LineCut) : Statement (.routeGapTimeout cut) := every _
theorem receiveStatus (h : Header) (b : StatusBody) : Statement (.receiveStatus h b) := every _
theorem receiveLevel (h : Header) (b : LevelBody) : Statement (.receiveLevel h b) := every _
theorem receivePropose (h : Header) (b : ProposeBody) : Statement (.receivePropose h b) := every _
theorem receiveAnswer (h : Header) (b : AnswerBody) : Statement (.receiveAnswer h b) := every _
theorem receiveVerdict (h : Header) (b : VerdictRecord) : Statement (.receiveVerdict h b) := every _
theorem receiveDigest (h : Header) (b : DigestBody) : Statement (.receiveDigest h b) := every _
theorem mtestStep (h : Header) (b : MtestBody) : Statement (.mtestStep h b) := every _
theorem mtestLimit (h : Header) (b : MtestBody) : Statement (.mtestLimit h b) := every _
theorem mtestDone (h : Header) (b : MtestBody) : Statement (.mtestDone h b) := every _
theorem carrierBusyHigh : Statement .carrierBusyHigh := every _
theorem carrierBusyLow : Statement .carrierBusyLow := every _
theorem guardComplete : Statement .guardComplete := every _
theorem backoffSlotEnd : Statement .backoffSlotEnd := every _
theorem transmissionComplete : Statement .transmissionComplete := every _
theorem statusTimerExpiry : Statement .statusTimerExpiry := every _
theorem levelTimerExpiry : Statement .levelTimerExpiry := every _
theorem answerTimeout : Statement .answerTimeout := every _
theorem entryHoldExpiry : Statement .entryHoldExpiry := every _
theorem automaticTimerExpiry : Statement .automaticTimerExpiry := every _
theorem secondEvent : Statement .secondEvent := every _
theorem keyingEdge : Statement .keyingEdge := every _
theorem syncPin : Statement .syncPin := every _
theorem syncWordFound : Statement .syncWordFound := every _
theorem patternWordComplete : Statement .patternWordComplete := every _
theorem wordIntervalEnd : Statement .wordIntervalEnd := every _
theorem digestTimerExpiry : Statement .digestTimerExpiry := every _
theorem dwellExpiry : Statement .dwellExpiry := every _
theorem marginStepWrite : Statement .marginStepWrite := every _
theorem stepAnnounce : Statement .stepAnnounce := every _
theorem doneRepeat : Statement .doneRepeat := every _
theorem silenceAbort : Statement .silenceAbort := every _
theorem supplyCrossing (millivolts : Nat) : Statement (.supplyCrossing millivolts) := every _
theorem supplyDebounceExpiry : Statement .supplyDebounceExpiry := every _
theorem encoderLineChange (x : Axis) (l : Line) (high : Bool) : Statement (.encoderLineChange x l high) := every _
theorem syncInputChange (high : Bool) : Statement (.syncInputChange high) := every _
theorem syncFilteredFall : Statement .syncFilteredFall := every _
theorem patternClockEdge (bit : Bool) : Statement (.patternClockEdge bit) := every _

end Sys2Proof.Laws.Operands
end

