-- ==== Sys2Proof/Laws/Roster.lean ====
section
/-! SUPPORT. The roster as a list in ascending station order: what a frame, an aging and a removal do to it (R113,
R114). -/

namespace Sys2Proof.Machine

/-- Every station's entry stands before those of the higher numbers. -/
abbrev Ascending (es : List RosterEntry) : Prop := es.Pairwise fun a b => a.station < b.station

theorem mem_insertEntry (e x : RosterEntry) (es : List RosterEntry) : x ∈ insertEntry e es ↔ x = e ∨ x ∈ es := by
  induction es with
  | nil => simp [insertEntry]
  | cons y ys ih =>
    unfold insertEntry; split
    · simp
    · simp only [List.mem_cons, ih]
      constructor
      · rintro (h | h | h) <;> simp [h]
      · rintro (h | h | h) <;> simp [h]

@[simp] theorem insertEntry_length (e : RosterEntry) (es : List RosterEntry) :
    (insertEntry e es).length = es.length + 1 := by
  induction es with
  | nil => rfl
  | cons y ys ih => unfold insertEntry; split <;> simp [ih]

/-- A station new to the roster keeps its order. -/
theorem insertEntry_ascending (e : RosterEntry) (es : List RosterEntry) (h : Ascending es)
    (hn : ∀ x ∈ es, x.station ≠ e.station) : Ascending (insertEntry e es) := by
  induction es with
  | nil => simp [insertEntry, Ascending]
  | cons y ys ih =>
    rw [Ascending, List.pairwise_cons] at h
    have hy : y.station ≠ e.station := hn y (List.mem_cons_self ..)
    unfold insertEntry; split
    · rename_i hlt
      refine List.pairwise_cons.mpr ⟨?_, List.pairwise_cons.mpr h⟩
      intro x hx
      rcases List.mem_cons.mp hx with rfl | hx
      · exact hlt
      · have := h.1 x hx; omega
    · refine List.pairwise_cons.mpr ⟨?_, ih h.2 fun x hx => hn x (List.mem_cons_of_mem _ hx)⟩
      intro x hx
      rcases (mem_insertEntry e x ys).mp hx with rfl | hx
      · omega
      · exact h.1 x hx

theorem oldestEntry_mem {es : List RosterEntry} {x : RosterEntry} (h : oldestEntry es = some x) : x ∈ es := by
  induction es generalizing x with
  | nil => simp [oldestEntry] at h
  | cons y ys ih =>
    unfold oldestEntry at h; split at h
    · simp_all
    · rename_i z hz
      split at h <;> simp at h <;> subst h
      · simp
      · exact List.mem_cons_of_mem _ (ih hz)

theorem oldestEntry_isSome {es : List RosterEntry} (h : es ≠ []) : ∃ x, oldestEntry es = some x := by
  cases es with
  | nil => exact absurd rfl h
  | cons y ys => unfold oldestEntry; split <;> (try split) <;> exact ⟨_, rfl⟩

/-- Removing a station that has an entry shortens the roster. -/
theorem filter_station_length {es : List RosterEntry} {x : RosterEntry} (h : x ∈ es) :
    (es.filter fun e => e.station != x.station).length < es.length :=
  List.length_filter_lt_length_iff_exists.mpr ⟨x, h, by simp⟩

/-- There is room for a new entry, in the same order (R113). -/
theorem Route.makeRoom_sound (r : Route) (h : r.roster.length ≤ 14) (ha : Ascending r.roster) :
    r.makeRoom.roster.length < 14 ∧ Ascending r.makeRoom.roster ∧ ∀ x ∈ r.makeRoom.roster, x ∈ r.roster := by
  unfold Route.makeRoom; split
  · exact ⟨‹_›, ha, fun _ h => h⟩
  · rename_i hl
    have hne : r.roster ≠ [] := by intro e; simp [e, rosterLimit] at hl
    obtain ⟨x, hx⟩ := oldestEntry_isSome hne
    rw [hx]
    refine ⟨?_, ha.filter _, fun y hy => (List.mem_filter.mp hy).1⟩
    have := filter_station_length (oldestEntry_mem hx)
    show (r.roster.filter fun e => e.station != x.station).length < 14
    omega

@[simp] theorem RosterEntry.take_station (now : SampleTime) (f : Frame) (e : RosterEntry) :
    (e.take now f).station = e.station := by
  unfold RosterEntry.take RosterEntry.takeBody RosterEntry.hear; split <;> rfl

@[simp] theorem RosterEntry.grow_station (e : RosterEntry) : e.grow.station = e.station := rfl

/-- A change of entries that keeps their stations keeps their order. -/
theorem ascending_map {f : RosterEntry → RosterEntry} (hf : ∀ e, (f e).station = e.station) {es : List RosterEntry}
    (h : Ascending es) : Ascending (es.map f) := by
  rw [Ascending, List.pairwise_map]
  exact h.imp fun hab => by simpa [hf] using hab

theorem entryOf_none {r : Route} {n : Nat} (h : (r.entryOf n).isSome = false) : ∀ x ∈ r.roster, x.station ≠ n := by
  intro x hx e
  have : r.entryOf n = none := by simpa using h
  rw [Route.entryOf, List.find?_eq_none] at this
  exact this x hx (by simp [e])

/-- A good frame leaves the roster within its limit and in its order, with no other station than before but the
frame's source (R110, R113). -/
theorem Route.updateRoster_sound (now : SampleTime) (f : Frame) (r : Route) (h : r.roster.length ≤ 14)
    (ha : Ascending r.roster) :
    (r.updateRoster now f).roster.length ≤ 14 ∧ Ascending (r.updateRoster now f).roster ∧
      ∀ x ∈ (r.updateRoster now f).roster, x.station = f.header.source ∨ ∃ y ∈ r.roster, y.station = x.station := by
  unfold Route.updateRoster; split
  · refine ⟨by simpa using h, ascending_map (fun e => by split <;> simp) ha, ?_⟩
    intro x hx
    obtain ⟨y, hy, rfl⟩ := List.mem_map.mp hx
    exact Or.inr ⟨y, hy, by split <;> simp⟩
  · rename_i hn
    have hn' := entryOf_none (Bool.eq_false_iff.mpr hn)
    obtain ⟨h1, h2, h3⟩ := r.makeRoom_sound h ha
    have hst : ((RosterEntry.fresh f.header).take now f).station = f.header.source := by
      rw [RosterEntry.take_station]; rfl
    refine ⟨by simp; omega, insertEntry_ascending _ _ h2 fun x hx => ?_, ?_⟩
    · rw [hst]; exact hn' x (h3 x hx)
    · intro x hx
      rcases (mem_insertEntry _ _ _).mp hx with rfl | hx
      · exact Or.inl hst
      · exact Or.inr ⟨x, h3 x hx, rfl⟩

/-- Aging leaves the roster within its limit and in its order, with no new station (R114). -/
theorem Route.ageRoster_sound (r : Route) (h : r.roster.length ≤ 14) (ha : Ascending r.roster) :
    r.ageRoster.roster.length ≤ 14 ∧ Ascending r.ageRoster.roster ∧
      ∀ x ∈ r.ageRoster.roster, ∃ y ∈ r.roster, y.station = x.station := by
  refine ⟨?_, (ascending_map (fun e => e.grow_station) ha).filter _, ?_⟩
  · refine Nat.le_trans (List.length_filter_le _ _) ?_
    simpa using h
  · intro x hx
    obtain ⟨y, hy, rfl⟩ := List.mem_map.mp ((List.mem_filter.mp hx).1)
    exact ⟨y, hy, rfl⟩

end Sys2Proof.Machine
end

