-- ==== Sys2Proof/Laws/Route.lean ====
section
/-! SUPPORT. The waiting queue and the contention: what joining the queue, feeding the slot and a step of the
contention can do (R117 to R120). -/

namespace Sys2Proof.Machine

/-! ### Insertion by class -/

theorem mem_insertByClass (q w : QFrame) (ws : List QFrame) : w ∈ insertByClass q ws ↔ w = q ∨ w ∈ ws := by
  induction ws with
  | nil => simp [insertByClass]
  | cons x xs ih =>
    unfold insertByClass; split
    · simp only [List.mem_cons, ih]
      constructor
      · rintro (h | h | h) <;> simp [h]
      · rintro (h | h | h) <;> simp [h]
    · simp

@[simp] theorem insertByClass_length (q : QFrame) (ws : List QFrame) :
    (insertByClass q ws).length = ws.length + 1 := by
  induction ws with
  | nil => rfl
  | cons x xs ih => unfold insertByClass; split <;> simp [ih]

/-- A frame's place in an ordered queue: behind every frame of its own or a higher class, ahead of the rest (R117). -/
theorem insertByClass_place (q : QFrame) (ws : List QFrame)
    (h : ws.Pairwise fun a b => a.classNumber ≤ b.classNumber) :
    ∃ before after, ws = before ++ after ∧ insertByClass q ws = before ++ q :: after ∧
      (∀ w ∈ before, w.classNumber ≤ q.classNumber) ∧ ∀ w ∈ after, q.classNumber < w.classNumber := by
  induction ws with
  | nil => exact ⟨[], [], rfl, rfl, by simp, by simp⟩
  | cons x xs ih =>
    rw [List.pairwise_cons] at h
    unfold insertByClass; split
    · obtain ⟨b, a, e1, e2, h1, h2⟩ := ih h.2
      refine ⟨x :: b, a, by simp [e1], by simp [e2], ?_, h2⟩
      intro w hw
      rcases List.mem_cons.mp hw with rfl | hw
      · assumption
      · exact h1 w hw
    · refine ⟨[], x :: xs, rfl, rfl, by simp, ?_⟩
      intro w hw
      rcases List.mem_cons.mp hw with rfl | hw
      · omega
      · have := h.1 w hw; omega

theorem insertByClass_ordered (q : QFrame) (ws : List QFrame)
    (h : ws.Pairwise fun a b => a.classNumber ≤ b.classNumber) :
    (insertByClass q ws).Pairwise fun a b => a.classNumber ≤ b.classNumber := by
  obtain ⟨b, a, e1, e2, h1, h2⟩ := insertByClass_place q ws h
  rw [e1, List.pairwise_append] at h
  rw [e2, List.pairwise_append]
  refine ⟨h.1, List.pairwise_cons.mpr ⟨fun w hw => by have := h2 w hw; omega, h.2.1⟩, ?_⟩
  intro x hx y hy
  rcases List.mem_cons.mp hy with rfl | hy
  · exact h1 x hx
  · exact h.2.2 x hx y hy

/-- The number of waiting frames of a kind. -/
theorem insertByClass_kind_count (k : FrameKind) (q : QFrame) (ws : List QFrame) :
    ((insertByClass q ws).filter fun w => w.kind == k).length =
      (ws.filter fun w => w.kind == k).length + if q.kind = k then 1 else 0 := by
  induction ws with
  | nil => by_cases hk : q.kind = k <;> simp [insertByClass, hk]
  | cons x xs ih =>
    unfold insertByClass; split
    · by_cases hx : x.kind = k <;> simp [hx, ih]; omega
    · by_cases hx : x.kind = k <;> by_cases hq : q.kind = k <;> simp [hx, hq]

/-! ### Joining the queue -/

/-- A waiting STATUS or LEVEL gives its place to a new one (R118). -/
theorem Route.joinQueue_replaces (q : QFrame) (r : Route) (hk : replacesKind q.kind = true)
    (hw : r.waiting.any (fun w => w.kind == q.kind) = true) :
    r.joinQueue q = { r with waiting := r.waiting.map fun w => if w.kind = q.kind then q else w } := by
  simp [Route.joinQueue, hk, hw]

/-- A frame with no frame of its kind to replace joins a queue with room in its class (R117). -/
theorem Route.joinQueue_room (q : QFrame) (r : Route)
    (hn : ¬ (replacesKind q.kind = true ∧ r.waiting.any (fun w => w.kind == q.kind) = true))
    (hr : r.waiting.length < 6) : r.joinQueue q = { r with waiting := insertByClass q r.waiting } := by
  have : (replacesKind q.kind && r.waiting.any (fun w => w.kind == q.kind)) = false := by
    rw [Bool.eq_false_iff]; simpa using hn
  simp [Route.joinQueue, this, waitingLimit, hr]

/-- A frame with no frame of its kind to replace finds six waiting (R118). -/
theorem Route.joinQueue_full (q : QFrame) (r : Route)
    (hn : ¬ (replacesKind q.kind = true ∧ r.waiting.any (fun w => w.kind == q.kind) = true))
    (hr : ¬ r.waiting.length < 6) : r.joinQueue q = r.joinFull q := by
  have : (replacesKind q.kind && r.waiting.any (fun w => w.kind == q.kind)) = false := by
    rw [Bool.eq_false_iff]; simpa using hn
  simp [Route.joinQueue, this, waitingLimit, hr]

/-- Joining the queue changes the waiting frames and the count of dropped frames alone. -/
theorem Route.joinQueue_frame (q : QFrame) (r : Route) :
    r.joinQueue q = { r with waiting := (r.joinQueue q).waiting, counters := (r.joinQueue q).counters } := by
  unfold Route.joinQueue; repeat' split
  · rfl
  · rfl
  · unfold Route.joinFull; dsimp only; repeat' split
    all_goals rfl

/-- The queue never grows beyond 6 (R117). -/
theorem Route.joinQueue_length (q : QFrame) (r : Route) (h : r.waiting.length ≤ 6) :
    (r.joinQueue q).waiting.length ≤ 6 := by
  unfold Route.joinQueue; repeat' split
  · simpa using h
  · simp_all [waitingLimit] <;> omega
  · unfold Route.joinFull; dsimp only; repeat' split
    · exact h
    · simp; omega
    · exact h

/-! ### The slot -/

@[simp] theorem Route.startTransmission_kept (r : Route) :
    r.startTransmission.waiting = r.waiting ∧ r.startTransmission.roster = r.roster ∧
      r.startTransmission.partner = r.partner ∧ r.startTransmission.conflict = r.conflict ∧
      r.startTransmission.inFlight = r.inFlight ∧ r.startTransmission.counters = r.counters ∧
      r.startTransmission.statusTimer = r.statusTimer ∧ r.startTransmission.levelTimer = r.levelTimer ∧
      r.startTransmission.clash = r.clash ∧ r.startTransmission.carrierBusy = r.carrierBusy :=
  ⟨rfl, rfl, rfl, rfl, rfl, rfl, rfl, rfl, rfl, rfl⟩

@[simp] theorem Route.backOff_kept (n : Nat) (r : Route) :
    (r.backOff n).waiting = r.waiting ∧ (r.backOff n).roster = r.roster ∧ (r.backOff n).partner = r.partner ∧
      (r.backOff n).conflict = r.conflict ∧ (r.backOff n).inFlight = r.inFlight ∧
      (r.backOff n).counters = r.counters ∧ (r.backOff n).statusTimer = r.statusTimer ∧
      (r.backOff n).levelTimer = r.levelTimer ∧ (r.backOff n).clash = r.clash ∧
      (r.backOff n).carrierBusy = r.carrierBusy := by
  unfold Route.backOff; dsimp only; split <;> exact ⟨rfl, rfl, rfl, rfl, rfl, rfl, rfl, rfl, rfl, rfl⟩

@[simp] theorem Route.takeGuard_kept (draws : Nat) (r : Route) :
    (r.takeGuard draws).2.waiting = r.waiting ∧ (r.takeGuard draws).2.roster = r.roster ∧
      (r.takeGuard draws).2.partner = r.partner ∧ (r.takeGuard draws).2.conflict = r.conflict ∧
      (r.takeGuard draws).2.inFlight = r.inFlight ∧ (r.takeGuard draws).2.counters = r.counters ∧
      (r.takeGuard draws).2.statusTimer = r.statusTimer ∧ (r.takeGuard draws).2.levelTimer = r.levelTimer ∧
      (r.takeGuard draws).2.clash = r.clash ∧ (r.takeGuard draws).2.carrierBusy = r.carrierBusy := by
  unfold Route.takeGuard; split <;> simp

@[simp] theorem Route.enterSlot_kept (draws : Nat) (q : QFrame) (rest : List QFrame) (r : Route) :
    (r.enterSlot draws q rest).2.waiting = rest ∧ (r.enterSlot draws q rest).2.roster = r.roster ∧
      (r.enterSlot draws q rest).2.partner = r.partner ∧ (r.enterSlot draws q rest).2.conflict = r.conflict ∧
      (r.enterSlot draws q rest).2.inFlight = some q ∧ (r.enterSlot draws q rest).2.counters = r.counters ∧
      (r.enterSlot draws q rest).2.statusTimer = r.statusTimer ∧
      (r.enterSlot draws q rest).2.levelTimer = r.levelTimer ∧ (r.enterSlot draws q rest).2.clash = r.clash ∧
      (r.enterSlot draws q rest).2.carrierBusy = r.carrierBusy := by
  unfold Route.enterSlot; dsimp only; repeat' split
  all_goals simp

/-- Feeding the slot takes the head of the queue, or nothing (R117). -/
theorem Route.feedSlot_waiting (draws : Nat) (r : Route) :
    (r.feedSlot draws).2.waiting = r.waiting ∨
      ∃ q rest, r.waiting = q :: rest ∧ r.inFlight = none ∧ (r.feedSlot draws).2.waiting = rest ∧
        (r.feedSlot draws).2.inFlight = some q := by
  unfold Route.feedSlot; split
  · rename_i q rest h1 h2
    exact Or.inr ⟨q, rest, h2, h1, by simp, by simp⟩
  · exact Or.inl rfl

@[simp] theorem Route.feedSlot_kept (draws : Nat) (r : Route) :
    (r.feedSlot draws).2.roster = r.roster ∧ (r.feedSlot draws).2.partner = r.partner ∧
      (r.feedSlot draws).2.conflict = r.conflict ∧ (r.feedSlot draws).2.counters = r.counters ∧
      (r.feedSlot draws).2.statusTimer = r.statusTimer ∧ (r.feedSlot draws).2.levelTimer = r.levelTimer ∧
      (r.feedSlot draws).2.clash = r.clash ∧ (r.feedSlot draws).2.carrierBusy = r.carrierBusy := by
  unfold Route.feedSlot; split <;> simp

/-- Queueing a frame leaves the roster, the liveness, the conflict, the timers, the clash flag and the carrier as they
are (R117). -/
@[simp] theorem Route.enqueue_kept (draws : Nat) (q : QFrame) (r : Route) :
    (r.enqueue draws q).2.roster = r.roster ∧ (r.enqueue draws q).2.partner = r.partner ∧
      (r.enqueue draws q).2.conflict = r.conflict ∧ (r.enqueue draws q).2.statusTimer = r.statusTimer ∧
      (r.enqueue draws q).2.levelTimer = r.levelTimer ∧ (r.enqueue draws q).2.clash = r.clash ∧
      (r.enqueue draws q).2.carrierBusy = r.carrierBusy := by
  unfold Route.enqueue; rw [Route.joinQueue_frame]; simp

/-- With the slot taken a queued frame waits. -/
theorem Route.enqueue_behind (draws : Nat) (q f : QFrame) (r : Route) (h : r.inFlight = some f) :
    r.enqueue draws q = (draws, r.joinQueue q) := by
  have : (r.joinQueue q).inFlight = some f := by rw [Route.joinQueue_frame]; exact h
  simp [Route.enqueue, Route.feedSlot, this]

/-! ### Sending a body -/

/-- A configured station queues the frame it builds of a body (R117). -/
theorem State.queueBody_configured (resend : Bool) (body : FrameBody) (st : Station) (s : State)
    (h : s.station = some st) :
    s.queueBody resend body =
      { s with
        draws := (s.route.enqueue s.draws { frame := buildFrame st body, resend := resend }).1
        route := (s.route.enqueue s.draws { frame := buildFrame st body, resend := resend }).2 } := by
  simp [State.queueBody, h, State.liftRoute]

/-- An unconfigured station queues nothing (R123). -/
theorem State.queueBody_unconfigured (resend : Bool) (body : FrameBody) (s : State) (h : s.station = none) :
    s.queueBody resend body = s := by
  simp [State.queueBody, h]

theorem State.send_configured (body : FrameBody) (st : Station) (s : State) (h : s.station = some st) :
    s.send body =
      { s with
        draws := (s.route.enqueue s.draws { frame := buildFrame st body, resend := false }).1
        route := (s.route.enqueue s.draws { frame := buildFrame st body, resend := false }).2 } :=
  State.queueBody_configured false body st s h

theorem State.send_unconfigured (body : FrameBody) (s : State) (h : s.station = none) : s.send body = s :=
  State.queueBody_unconfigured false body s h

/-! ### Characters on the receive line (R105, R108) -/

@[simp] theorem State.takeCharacters_nil (s : State) : s.takeCharacters [] = s := rfl

@[simp] theorem State.takeCharacters_cons (b : Byte) (bs : List Byte) (s : State) :
    s.takeCharacters (b :: bs) = (s.takeCharacter b).takeCharacters bs := rfl

theorem State.takeCharacters_append (xs ys : List Byte) (s : State) :
    s.takeCharacters (xs ++ ys) = (s.takeCharacters xs).takeCharacters ys := List.foldl_append ..

/-- While transmitting the part hears no character (R105). -/
theorem State.takeCharacters_sending (bytes : List Byte) (s : State) (h : s.route.contention = .sending) :
    s.takeCharacters bytes = s := by
  induction bytes with
  | nil => rfl
  | cons b bs ih =>
    have hb : s.takeCharacter b = s := by simp [State.takeCharacter, h]
    rw [State.takeCharacters_cons, hb, ih]

/-- A character in HUNT moves the framer alone (R108). -/
theorem State.takeCharacter_hunt (b : Byte) (s : State) (h : s.route.contention ≠ .sending)
    (hs : s.route.framer.state = .hunt) :
    s.takeCharacter b = { s with route := { s.route with framer := s.route.framer.huntByte b } } := by
  simp [State.takeCharacter, h, Framer.take, hs]

/-- The delimiter brings the framer from HUNT to HEADER (R108). -/
theorem State.takeCharacters_delimiter (s : State) (h : s.route.contention ≠ .sending)
    (hs : s.route.framer.state = .hunt) :
    s.takeCharacters [0x9E, 0x35] = { s with route := { s.route with framer := .holding .header [] } } := by
  simp [State.takeCharacter, h, Framer.take, Framer.huntByte, Framer.holding, hs]

/-- A character after the delimiter ends the frame, or is held (R108). -/
theorem Framer.take_held (held : List Byte) (gap : Timer) (b : Byte) :
    ({ state := framerStateOf held, bytes := held, gap := gap } : Framer).take b =
      if frameEnds (held ++ [b]) then (Framer.hunting, some (judge (held ++ [b])))
      else (.holding (framerStateOf (held ++ [b])) (held ++ [b]), none) := by
  have hs : framerStateOf held = .header ∨ framerStateOf held = .body ∨ framerStateOf held = .check := by
    unfold framerStateOf; repeat' split
    all_goals simp
  unfold Framer.take
  rcases hs with hs | hs | hs <;> simp only [hs]

/-- Characters that do not end the frame in progress are held, the last of them with 5 ms for the next (R108). -/
theorem State.takeCharacters_held (held new : List Byte) (gap : Timer) (s : State)
    (h : s.route.contention ≠ .sending) (hs : s.route.framer = { state := framerStateOf held, bytes := held, gap := gap })
    (hne : new ≠ []) (hn : ∀ n, n ≤ new.length → frameEnds (held ++ new.take n) = false) :
    s.takeCharacters new =
      { s with route := { s.route with framer := .holding (framerStateOf (held ++ new)) (held ++ new) } } := by
  induction new generalizing held gap s with
  | nil => exact absurd rfl hne
  | cons b bs ih =>
    have h1 : frameEnds (held ++ [b]) = false := by simpa using hn 1 (by simp)
    have hb : s.takeCharacter b =
        { s with route := { s.route with framer := .holding (framerStateOf (held ++ [b])) (held ++ [b]) } } := by
      simp [State.takeCharacter, h, hs, Framer.take_held, h1]
    rw [State.takeCharacters_cons, hb]
    by_cases hb : bs = []
    · subst hb; simp
    · refine (ih (held ++ [b]) (some longestGap) _ ?_ rfl hb ?_).trans ?_
      · exact h
      · intro n hle
        simpa using hn (n + 1) (by simpa using hle)
      · simp

/-- The character that ends a frame brings the framer back to HUNT, and the frame is judged (R108, R109). -/
theorem State.takeCharacter_ends (held : List Byte) (b : Byte) (s : State) (h : s.route.contention ≠ .sending)
    (gap : Timer) (hs : s.route.framer = { state := framerStateOf held, bytes := held, gap := gap })
    (he : frameEnds (held ++ [b]) = true) :
    s.takeCharacter b =
      { s with route := { s.route with framer := Framer.hunting } }.takeJudged (judge (held ++ [b])) := by
  simp [State.takeCharacter, h, hs, Framer.take_held, he]

/-- What a cut leaves: the framer hunting, and a frame in progress counted as truncated (R108). -/
theorem State.takeGap_eq (s : State) (h : s.route.contention ≠ .sending) :
    s.takeGap =
      { s with
        route :=
          { s.route with
            framer := Framer.hunting
            counters :=
              { s.route.counters with
                truncated :=
                  if s.route.framer.state = .hunt then s.route.counters.truncated
                  else satInc 65535 s.route.counters.truncated } } } := by
  simp [State.takeGap, h, Route.gap]

/-- A gap row before its time has no effect (R108; log 3, 5). -/
theorem execRouteGapTimeout_early (next : Option Byte) (n : Nat) (s : State) (h : s.route.framer.gap = some (n + 1)) :
    execRouteGapTimeout { cause := .gap, next := next } s = .next s := by
  simp [execRouteGapTimeout, Framer.cutBy, h, Timer.due]

end Sys2Proof.Machine
end

