-- ==== Sys2Proof/Laws/Site.lean ====
section
/-! SUPPORT. The output queue and the event flags: what an event and a reply do to the site port (R193, R194). -/

namespace Sys2Proof.Machine

theorem mem_setFlag (f g : EventFlag) (fs : List EventFlag) : g ∈ setFlag f fs ↔ g = f ∨ g ∈ fs := by
  unfold setFlag; split
  · exact ⟨Or.inr, fun h => h.elim (fun e => e ▸ ‹_›) id⟩
  · simp [or_comm]

theorem setFlag_nodup (f : EventFlag) (fs : List EventFlag) (h : fs.Nodup) : (setFlag f fs).Nodup := by
  unfold setFlag; split
  · exact h
  · rename_i hn
    rw [List.nodup_append]
    exact ⟨h, by simp, by intro a ha b hb; simp at hb; subst hb; intro e; exact hn (e ▸ ha)⟩

@[simp] theorem Site.raiseFlag_length (f : EventFlag) (p : Site) : (p.raiseFlag f).out.length = p.out.length := by
  simp [Site.raiseFlag]

@[simp] theorem Site.raiseFlag_fields (f : EventFlag) (p : Site) :
    (p.raiseFlag f).framer = p.framer ∧ (p.raiseFlag f).sending = p.sending ∧ (p.raiseFlag f).mask = p.mask ∧
      (p.raiseFlag f).counters = p.counters := ⟨rfl, rfl, rfl, rfl⟩

@[simp] theorem Site.queueReport_fields (r : Report) (p : Site) :
    (p.queueReport r).framer = p.framer ∧ (p.queueReport r).sending = p.sending ∧
      (p.queueReport r).mask = p.mask ∧ (p.queueReport r).flags = p.flags := by
  unfold Site.queueReport; split <;> exact ⟨rfl, rfl, rfl, rfl⟩

/-- A report never lengthens the queue beyond 8 (R193). -/
theorem Site.queueReport_length (r : Report) (p : Site) :
    p.out.length ≤ (p.queueReport r).out.length ∧
      (p.queueReport r).out.length ≤ max p.out.length outLimit := by
  unfold Site.queueReport; split <;> simp_all [outLimit] <;> omega

/-- The messages that stood in the queue stay where they are. -/
theorem Site.queueReport_prefix (r : Report) (p : Site) : p.out <+: (p.queueReport r).out := by
  unfold Site.queueReport; split <;> simp

@[simp] theorem Site.signal_fields (r : Report) (p : Site) :
    (p.signal r).framer = p.framer ∧ (p.signal r).sending = p.sending ∧ (p.signal r).mask = p.mask := by
  unfold Site.signal; dsimp only; split <;> simp

/-- An event sets its flag and no other (R194). -/
theorem Site.signal_flags (r : Report) (p : Site) : (p.signal r).flags = setFlag r.event p.flags := by
  unfold Site.signal; dsimp only; split <;> simp [Site.raiseFlag]

theorem Site.mem_signal_flags (r : Report) (f : EventFlag) (p : Site) :
    f ∈ (p.signal r).flags ↔ f = r.event ∨ f ∈ p.flags := by
  rw [Site.signal_flags, mem_setFlag]

/-- An event never lengthens the queue beyond 8, and never shortens it (R193). -/
theorem Site.signal_length (r : Report) (p : Site) :
    p.out.length ≤ (p.signal r).out.length ∧ (p.signal r).out.length ≤ max p.out.length outLimit := by
  unfold Site.signal; dsimp only; split
  · have h := Site.queueReport_length r (p.raiseFlag r.event)
    rw [Site.raiseFlag_length] at h; exact h
  · simp only [Site.raiseFlag_length]; omega

/-- The messages that stood in the queue stay where they are; a waiting QUERY STATUS reply no longer clears the flag
that the event sets (R194). -/
theorem Site.signal_prefix (r : Report) (p : Site) :
    (p.out.map (SiteMessage.keepFlag r.event)) <+: (p.signal r).out := by
  unfold Site.signal; dsimp only; split
  · exact Site.queueReport_prefix r (p.raiseFlag r.event)
  · exact List.prefix_rfl

@[simp] theorem State.signal_site (r : Report) (s : State) : (s.signal r).site = s.site.signal r := rfl

@[simp] theorem State.accept_site (r : Reply) (s : State) :
    (s.accept r).site = { s.site with out := s.site.out ++ [.accepted r []] } := rfl

@[simp] theorem State.refuse_site (t : Byte) (reason : RefuseReason) (s : State) :
    (s.refuse t reason).site = { s.site with out := s.site.out ++ [.refused t reason none] } := rfl

/-- A request with room in the output queue goes to its handler, the framer hunting again (R192). -/
theorem State.request_taken (handle : State → State) (s : State) (h : s.site.out.length < 8) :
    s.request handle = handle { s with site := { s.site with framer := .hunting } } := by
  simp [State.request, Site.hunt, outLimit, h]

/-- A request that finds the queue full is discarded and counted (R193). -/
theorem State.request_full (handle : State → State) (s : State) (h : ¬ s.site.out.length < 8) :
    s.request handle =
      { s with
        site :=
          { s.site with
            framer := .hunting
            counters := { s.site.counters with overruns := satInc 65535 s.site.counters.overruns } } } := by
  simp [State.request, Site.hunt, outLimit, h]

/-- A flag cleared by the head's transmission was shown by it, and one left was not (R194). -/
theorem Site.mem_transmit_flags (f : EventFlag) (m : SiteMessage) (rest : List SiteMessage) (p : Site)
    (h : p.out = m :: rest) : f ∈ p.transmit.flags ↔ f ∈ p.flags ∧ f ∉ m.cleared := by
  simp [Site.transmit, h]

/-! ### Characters on the site port's line (R191) -/

@[simp] theorem State.takeSiteCharacters_nil (s : State) : s.takeSiteCharacters [] = s := rfl

@[simp] theorem State.takeSiteCharacters_cons (b : Byte) (bs : List Byte) (s : State) :
    s.takeSiteCharacters (b :: bs) = (s.takeSiteCharacter b).takeSiteCharacters bs := rfl

theorem State.takeSiteCharacters_append (xs ys : List Byte) (s : State) :
    s.takeSiteCharacters (xs ++ ys) = (s.takeSiteCharacters xs).takeSiteCharacters ys := List.foldl_append ..

/-- The start byte begins a message (R191). -/
theorem State.takeSiteCharacter_start (s : State) (h : s.site.framer = .hunting) :
    s.takeSiteCharacter 0xA7 = { s with site := { s.site with framer := .taking [] 5 } } := by
  simp [State.takeSiteCharacter, h, longestGap]

/-- Characters that neither end the message nor spell a bad length are held, the last of them with 5 ms for the next
(R191). -/
theorem State.takeSiteCharacters_held (held new : List Byte) (gap : Nat) (s : State)
    (hs : s.site.framer = .taking held gap) (hne : new ≠ [])
    (hn : ∀ n, n < new.length →
      lengthBad (held ++ new.take (n + 1)) = false ∧ messageWhole (held ++ new.take (n + 1)) = false) :
    s.takeSiteCharacters new = { s with site := { s.site with framer := .taking (held ++ new) 5 } } := by
  induction new generalizing held gap s with
  | nil => exact absurd rfl hne
  | cons b bs ih =>
    have h1 : lengthBad (held ++ [b]) = false ∧ messageWhole (held ++ [b]) = false := by simpa using hn 0 (by simp)
    have hb : s.takeSiteCharacter b = { s with site := { s.site with framer := .taking (held ++ [b]) 5 } } := by
      simp [State.takeSiteCharacter, hs, State.takeMessageByte, h1, longestGap]
    rw [State.takeSiteCharacters_cons, hb]
    by_cases hb : bs = []
    · subst hb; simp
    · refine (ih (held ++ [b]) 5 _ rfl hb ?_).trans ?_
      · intro n hlt
        simpa using hn (n + 1) (by simpa using hlt)
      · simp

/-- What a cut leaves: the framer hunting, and a message in progress counted (R191). -/
theorem Site.gap_taking (bytes : List Byte) (gap : Nat) (p : Site) (h : p.framer = .taking bytes gap) :
    p.gap =
      { p with
        framer := .hunting
        counters := { p.counters with malformed := satInc 65535 p.counters.malformed } } := by
  simp [Site.gap, h, Site.hunt, Site.countMalformed]

/-- A gap row before its time has no effect (R191; log 3, 5). -/
theorem execSiteGapTimeout_early (next : Option Byte) (bytes : List Byte) (n : Nat) (s : State)
    (h : s.site.framer = .taking bytes (n + 1)) : execSiteGapTimeout { cause := .gap, next := next } s = .next s := by
  simp [execSiteGapTimeout, SiteFramer.cutBy, SiteFramer.gapDue, h]

/-! ### A SETUP body that does not fit (R192, R195) -/

/-- The bytes a field takes (R195). -/
def FieldKind.width : FieldKind → Nat
  | .u8 => 1
  | .u16 => 2
  | .s16 => 2

theorem readField_rest {k : FieldKind} {bs : List Byte} {v : Int} {rest : List Byte}
    (h : readField k bs = some (v, rest)) : rest = bs.drop k.width ∧ k.width ≤ bs.length := by
  rcases k with _ | _ | _ <;> rcases bs with _ | ⟨b, _ | ⟨c, bs⟩⟩ <;> simp_all [readField, FieldKind.width]

/-- Fields that are read take the bytes of their kinds and leave the others. -/
theorem readFields_rest {ks : List FieldKind} {bs : List Byte} {vs : List Int} {rest : List Byte}
    (h : readFields ks bs = some (vs, rest)) :
    rest = bs.drop (ks.map FieldKind.width).sum ∧ (ks.map FieldKind.width).sum ≤ bs.length := by
  induction ks generalizing bs vs rest with
  | nil => simp_all [readFields]
  | cons k ks ih =>
    simp only [readFields] at h
    split at h
    · cases h
    · rename_i v r hr
      simp only [Option.map_eq_some_iff] at h
      obtain ⟨p, hp, e⟩ := h
      cases e
      obtain ⟨rfl, hk⟩ := readField_rest hr
      obtain ⟨hd, hl⟩ := ih hp
      simp only [List.length_drop] at hl
      simp only [List.map_cons, List.sum_cons]
      exact ⟨by rw [hd, List.drop_drop], by omega⟩

/-- A word list that is read: its count is 0, or 8 with sixteen bytes of words after it (R195). -/
theorem readWordList_rest {bs : List Byte} {ws : Option (List (BitVec 16))} {rest : List Byte}
    (h : readWordList bs = some (ws, rest)) :
    (bs[0]? = some 0 ∧ bs.length = rest.length + 1) ∨ (bs[0]? = some 8 ∧ bs.length = rest.length + 17) := by
  cases bs with
  | nil => cases h
  | cons c r =>
    simp only [readWordList] at h
    split at h
    · rename_i hc; cases h; exact .inl ⟨by simp [hc], rfl⟩
    · split at h
      · rename_i hc
        simp only [readWords, Option.map_eq_some_iff] at h
        obtain ⟨_, ⟨p, hp, rfl⟩, e⟩ := h
        obtain ⟨hd, hl⟩ := readFields_rest (vs := p.1) (rest := p.2) hp
        have hw : ((List.replicate 8 FieldKind.u16).map FieldKind.width).sum = 16 := by decide
        rw [hw] at hd hl
        cases e
        refine .inr ⟨by simp [hc], ?_⟩
        simp only [hd, List.length_drop, List.length_cons]; omega
      · cases h

/-- A SETUP body is 86 bytes with a word count of 0 in byte 71, or 102 bytes with one of 8; any other spells no record
(R192, R195). -/
theorem readRecord_eq_none {body : List Byte} (none86 : ¬ (body.length = 86 ∧ body[71]? = some 0))
    (none102 : ¬ (body.length = 102 ∧ body[71]? = some 8)) : readRecord body = none := by
  unfold readRecord
  cases h : readFields headKinds body with
  | none => rfl
  | some p =>
    obtain ⟨hd, hl⟩ := readFields_rest (vs := p.1) (rest := p.2) h
    have hw : (headKinds.map FieldKind.width).sum = 71 := by decide
    rw [hw] at hd hl
    dsimp only
    cases hq : readWordList p.2 with
    | none => rfl
    | some q =>
      dsimp only
      split
      · rename_i tail ht
        obtain ⟨td, tl⟩ := readFields_rest ht
        have tw : (tailKinds.map FieldKind.width).sum = 14 := by decide
        rw [tw] at td tl
        have rest14 : q.2.length = 14 := by
          have := congrArg List.length td
          simp only [List.length_nil, List.length_drop] at this; omega
        have head0 : p.2[0]? = body[71]? := by rw [hd]; simp
        have whole : p.2.length = body.length - 71 := by rw [hd]; simp
        rcases readWordList_rest (ws := q.1) (rest := q.2) hq with ⟨hc, hn⟩ | ⟨hc, hn⟩
        · exact absurd ⟨by omega, head0 ▸ hc⟩ none86
        · exact absurd ⟨by omega, head0 ▸ hc⟩ none102
      · rfl

/-! ### The clamped fields (R195) -/

/-- The places that hold true, by their numbers. -/
theorem numbersFrom_eq (n : Nat) (bs : List Bool) :
    numbersFrom n bs = (((List.range' n bs.length).zip bs).filter Prod.snd).map Prod.fst := by
  induction bs generalizing n with
  | nil => rfl
  | cons b bs ih => cases b <;> simp [numbersFrom, ih, List.range'_succ]

end Sys2Proof.Machine
end

