-- ==== Sys2Proof/Laws/Shown.lean ====
section
/-! SUPPORT. The words of Safety.lean and the functions of the model: one equation for each pair. -/

namespace Sys2Proof.Machine

/-- A body queued by a configured station (R117). -/
theorem State.send_queuedFor (body : FrameBody) (st : Station) (x : State) (h : x.station = some st) :
    x.send body =
      { x with draws := (queuedFor st body x.draws x.route).1, route := (queuedFor st body x.draws x.route).2 } := by
  simp [State.send, State.queueBody, h, State.liftRoute, queuedFor]

/-- The STATUS body of a configured station (R107, R181). -/
theorem State.statusBody_shown (st : Station) (x : State) (h : x.station = some st) :
    x.statusBody = statusShown st x := by
  unfold State.statusBody statusShown State.marginProgress Margin.doneAt directionDone
  congr 1
  cases hm : x.margin.current with
  | none => rfl
  | some d => cases d <;> (simp only [State.roleOf, h]; rfl)

/-- A STATUS queued, with its timer drawn from 2000 to 2499 ms (R121). -/
theorem State.sendStatus_queuedFor (st : Station) (x : State) (h : x.station = some st) :
    ∃ n, 2000 ≤ n ∧ n ≤ 2499 ∧
      x.sendStatus =
        { x with
          draws := (queuedFor st (.status (statusShown st x)) x.draws x.route).1 + 1
          route :=
            { (queuedFor st (.status (statusShown st x)) x.draws x.route).2 with statusTimer := some n } } := by
  have hn := drawBelow_lt (queuedFor st (.status (statusShown st x)) x.draws x.route).1 (n := 500) (by omega)
  refine ⟨2000 + drawBelow (queuedFor st (.status (statusShown st x)) x.draws x.route).1 500, by omega, by omega, ?_⟩
  simp only [State.sendStatus, State.configured, h, State.statusBody_shown st x h]
  simp [State.send, State.queueBody, h, State.liftRoute, queuedFor, State.startStatusTimer]

/-- A LEVEL shows the steering channel (R107). -/
theorem State.levelBody_shown (x : State) : x.levelBody = levelShown x := rfl

/-- A DIGEST shows the recorder (R175). -/
theorem Soak.digest_shown (final : Bool) (k : Soak) : k.digest final = digestShown final k := rfl

/-- A direction begins at a configured station (R181). -/
theorem State.beginDirection_begun (st : Station) (d : Direction) (x : State) (h : x.station = some st) :
    x.beginDirection d = begun st d x := by
  unfold State.beginDirection begun
  simp only [State.roleOf, h]
  split
  · simp [State.restoreAtten, State.send, State.queueBody, h, State.liftRoute, queuedFor, firstStep, stepBody,
      stepAtten, Margin.beginTransmit, Margin.beginDirection, Source.restore, Staged.restore]
  · simp [Margin.beginJudge, Margin.beginDirection]

/-- The beacon's mode is written (R150, R151). -/
theorem Source.writeBeacon_set (m : BeaconMode) (x : Source) : x.writeBeacon m = beaconSet m x := rfl

/-- A sample's keying work changes the counter and the due edge alone (R151). -/
@[simp] theorem Source.tickKeying_kept (hop : Nat) (x : Source) :
    (x.tickKeying hop).keyOut = x.keyOut ∧ (x.tickKeying hop).beacon = x.beacon ∧
      (x.tickKeying hop).atten = x.atten ∧ (x.tickKeying hop).pattern = x.pattern ∧
      (x.tickKeying hop).sync = x.sync := by
  unfold Source.tickKeying
  split
  · split <;> exact ⟨rfl, rfl, rfl, rfl, rfl⟩
  · exact ⟨rfl, rfl, rfl, rfl, rfl⟩

/-- The keying edge changes the output, the counter and the due edge alone (R151). -/
@[simp] theorem Source.takeEdge_kept (x : Source) :
    x.takeEdge.beacon = x.beacon ∧ x.takeEdge.atten = x.atten ∧ x.takeEdge.pattern = x.pattern ∧
      x.takeEdge.sync = x.sync := ⟨rfl, rfl, rfl, rfl⟩

/-- The pin has the level of a due edge before the edge is taken, and keeps it after (R151; log 3). -/
theorem Source.beaconPin_takeEdge (x : Source) (h : x.edgeDue = true) : x.takeEdge.beaconPin = x.beaconPin := by
  unfold Source.beaconPin Source.takeEdge
  cases x.beacon.live <;> simp [h]

/-! ### The blocks after a reset -/

theorem Identifier.cleared_shown : Identifier.cleared = identCleared := rfl

theorem AlignMap.empty_shown : AlignMap.empty = mapCleared := rfl

theorem Analyser.reset_shown : Analyser.reset = analyserCleared := rfl

theorem Cue.reset_shown (modulus : Nat) : Cue.reset modulus = cueCleared modulus := rfl

theorem Coordinator.reset_shown : Coordinator.reset = coordinatorCleared := rfl

theorem Source.reset_shown : Source.reset = sourceCleared LineState.reset := rfl

theorem Totals.zero_shown : Totals.zero = totalsCleared := rfl

theorem Checker.reset_shown : Checker.reset = checkerCleared := rfl

theorem Soak.reset_shown : Soak.reset = soakCleared := rfl

theorem Margin.reset_shown : Margin.reset = marginCleared := rfl

/-! ### The map's geometry (R49) -/

/-- A count lies in a band of w counts when its floored quotient is the band's number (R49). -/
theorem ediv_eq_iff_band (w : Nat) (hw : 1 ≤ w) (x k : Int) : x / w = k ↔ k * w ≤ x ∧ x ≤ (k + 1) * w - 1 := by
  have hw' : (0 : Int) < w := by exact_mod_cast hw
  rw [← Int.le_ediv_iff_mul_le hw', Int.le_sub_one_iff, ← Int.ediv_lt_iff_lt_mul hw']
  omega

/-- n/2 bands of w counts on either side of 0 (R49). -/
theorem band_covers (w n : Nat) (hw : 1 ≤ w) (hn : n % 2 = 0) (x : Int) :
    0 ≤ x / w + (n : Int) / 2 ∧ x / w + (n : Int) / 2 < n ↔
      x ≤ ((n / 2 * w : Nat) : Int) - 1 ∧ -((n / 2 * w : Nat) : Int) ≤ x := by
  have hw' : (0 : Int) < w := by exact_mod_cast hw
  have h1 := Int.le_ediv_iff_mul_le (a := -((n / 2 : Nat) : Int)) (b := x) hw'
  have h2 := Int.ediv_lt_iff_lt_mul (a := x) (b := ((n / 2 : Nat) : Int)) hw'
  rw [Int.le_sub_one_iff]
  push_cast at *
  rw [← h2, ← Int.neg_mul, ← h1]
  omega

/-- A geometry that R48 allows places snapshots as R49 says. -/
theorem Geometry.places_by_rule (g : Geometry) (h : GeometrySound g) : PlacesByRule g := by
  obtain ⟨hc, -, -, hr, -, -, hw, -, hh, -⟩ := h
  intro az el
  constructor
  · intro p
    have e1 := ediv_eq_iff_band g.cellWidth hw az ((p.column : Int) - (g.columns / 2 : Nat))
    have e2 := ediv_eq_iff_band g.cellHeight hh el ((p.row : Int) - (g.rows / 2 : Nat))
    unfold Geometry.place CellCovers Geometry.columnAt Geometry.rowAt
    simp only
    rw [← and_assoc (a := _ * _ ≤ az), ← e1, ← e2]
    obtain ⟨pc, pr⟩ := p
    constructor
    · split
      · rename_i hin
        intro hp
        simp only [Option.some.injEq, CellPos.mk.injEq] at hp
        simp only
        omega
      · simp
    · rintro ⟨a, b, c, d⟩
      simp only at *
      rw [if_pos (by omega)]
      simp only [Option.some.injEq, CellPos.mk.injEq]
      omega
  · have b1 := band_covers g.cellWidth g.columns hw (by omega) az
    have b2 := band_covers g.cellHeight g.rows hh (by omega) el
    unfold Geometry.place MapCovers Geometry.columnAt Geometry.rowAt
    simp only
    rw [← and_assoc (a := az ≤ _), ← b1, ← b2, and_assoc]
    split <;> rename_i hin <;> simp [hin]
end Sys2Proof.Machine
end

