-- ==== Sys2Proof/Laws/Soak.lean ====
section
/-! SUPPORT. The soak recorder's counts: how many seconds each operation releases, and what placing a second leaves as it
is (R169 to R173). -/

namespace Sys2Proof.Machine

/-- The seconds counted under some class. -/
def Soak.released (k : Soak) : Nat := k.clean + k.errored + k.bad + k.outage

@[simp] theorem Soak.release_released (c : SecondClass) (k : Soak) : (k.release c).released = k.released + 1 := by
  cases c <;> simp [Soak.release, Soak.released] <;> omega

@[simp] theorem Soak.release_kept (c : SecondClass) (k : Soak) :
    (k.release c).pending = k.pending ∧ (k.release c).elapsed = k.elapsed ∧
      (k.release c).availability = k.availability ∧ (k.release c).state = k.state ∧
      (k.release c).fades = k.fades ∧ (k.release c).list = k.list ∧ (k.release c).verdict = k.verdict := by
  cases c <;> exact ⟨rfl, rfl, rfl, rfl, rfl, rfl, rfl⟩

theorem Soak.foldl_release (ps : List PendingSecond) (k : Soak) :
    (ps.foldl (fun k p => k.release p.provisional) k).released = k.released + ps.length ∧
      (ps.foldl (fun k p => k.release p.provisional) k).elapsed = k.elapsed ∧
      (ps.foldl (fun k p => k.release p.provisional) k).availability = k.availability := by
  induction ps generalizing k with
  | nil => simp
  | cons p ps ih =>
    obtain ⟨h1, h2, h3⟩ := ih (k.release p.provisional)
    simp only [List.foldl_cons, List.length_cons, h1, h2, h3, Soak.release_released, Soak.release_kept, and_true]
    omega

/-- Every pending second is released, and none is left. -/
theorem Soak.releasePending_counts (k : Soak) :
    k.releasePending.released = k.released + k.pending.length ∧ k.releasePending.pending = [] ∧
      k.releasePending.elapsed = k.elapsed :=
  ⟨(Soak.foldl_release k.pending k).1, rfl, (Soak.foldl_release k.pending k).2.1⟩

theorem Soak.pendingAsBad_counts (k : Soak) :
    k.pendingAsBad.released = k.released + k.pending.length ∧ k.pendingAsBad.pending = [] ∧
      k.pendingAsBad.elapsed = k.elapsed ∧ k.pendingAsBad.availability = k.availability := by
  refine ⟨?_, rfl, rfl, rfl⟩
  simp [Soak.pendingAsBad, Soak.released]; omega

theorem Soak.pendingAsOutage_counts (k : Soak) :
    k.pendingAsOutage.released = k.released + k.pending.length ∧ k.pendingAsOutage.pending = [] ∧
      k.pendingAsOutage.elapsed = k.elapsed ∧ k.pendingAsOutage.availability = k.availability := by
  refine ⟨?_, rfl, rfl, rfl⟩
  simp [Soak.pendingAsOutage, Soak.released]; omega

theorem Soak.hold_counts (c : SecondClass) (k : Soak) :
    (k.hold c).released = k.released ∧ (k.hold c).pending.length = k.pending.length + 1 ∧
      (k.hold c).elapsed = k.elapsed ∧ (k.hold c).availability = k.availability := by
  refine ⟨rfl, ?_, rfl, rfl⟩
  simp [Soak.hold]

/-- A class placed by the availability rule counts one second, released or pending (R170, R171). -/
theorem Soak.place_counts (c : SecondClass) (k : Soak) :
    (k.place c).1.released + (k.place c).1.pending.length = k.released + k.pending.length + 1 ∧
      (k.place c).1.elapsed = k.elapsed := by
  unfold Soak.place; split
  · unfold Soak.placeAvailable; split
    · dsimp only; split
      · refine ⟨?_, rfl⟩
        simp [Soak.startOutage, Soak.released, Soak.hold]; omega
      · have := k.hold_counts c; exact ⟨by simp [this]; omega, this.2.2.1⟩
    · have := k.pendingAsBad_counts
      exact ⟨by simp [this], by simp [this]⟩
  · unfold Soak.placeOutage; split
    · have h := k.hold_counts c
      have := (k.hold c).pendingAsOutage_counts
      exact ⟨by simp [this, h]; omega, by simp [this, h]⟩
    · have h := k.hold_counts c
      dsimp only; split
      · have := (k.hold c).releasePending_counts
        refine ⟨?_, ?_⟩
        · show (k.hold c).releasePending.released + (k.hold c).releasePending.pending.length = _
          simp [this, h]; omega
        · show (k.hold c).releasePending.elapsed = _
          simp [this, h]
      · exact ⟨by simp [h]; omega, h.2.2.1⟩

/-- Releasing the pending seconds under their classes adds the BAD ones to BAD, and touches no outage figure (R171). -/
theorem Soak.foldl_release_kept (ps : List PendingSecond) (k : Soak) :
    let f := ps.foldl (fun k p => k.release p.provisional) k
    f.periods = k.periods ∧ f.settling = k.settling ∧ f.outage = k.outage ∧
      f.bad = k.bad + (ps.filter fun x => x.provisional == .bad).length := by
  induction ps generalizing k with
  | nil => simp
  | cons p ps ih =>
    obtain ⟨h1, h2, h3, h4⟩ := ih (k.release p.provisional)
    simp only [List.foldl_cons, List.filter_cons]
    rcases hx : p.provisional <;> simp_all [Soak.release] <;> omega

/-- An outage begins at the tenth pending BAD second, and ends at the tenth that is not BAD; every other second leaves
the number of periods and the longest outage as they are, and in AVAILABLE the current one too (R170 to R172). -/
theorem Soak.place_outage_figures (c : SecondClass) (k : Soak) :
    let starts := k.availability = .available ∧ c = .bad ∧ 9 ≤ k.pending.length
    let ends := k.availability = .outage ∧ c ≠ .bad ∧ 9 ≤ k.pending.length
    let m := (k.place c).1
    m.settling = k.settling ∧ (¬ starts → m.periods = k.periods) ∧
      (¬ ends → m.longestOutage = k.longestOutage) ∧
      (k.availability = .available → ¬ starts → m.currentOutage = k.currentOutage) := by
  have held : 10 ≤ (k.hold c).pending.length → 9 ≤ k.pending.length := by
    rw [(k.hold_counts c).2.1]; omega
  unfold Soak.place; split
  · rename_i hA
    unfold Soak.placeAvailable; split
    · rename_i hc
      dsimp only; split
      · rename_i full
        exact ⟨rfl, fun h => absurd ⟨hA, hc, held full⟩ h, fun _ => rfl, fun _ h => absurd ⟨hA, hc, held full⟩ h⟩
      · exact ⟨rfl, fun _ => rfl, fun _ => rfl, fun _ _ => rfl⟩
    · cases c <;> exact ⟨rfl, fun _ => rfl, fun _ => rfl, fun _ _ => rfl⟩
  · rename_i hA
    have away : k.availability ≠ .available := by rw [hA]; decide
    unfold Soak.placeOutage; split
    · exact ⟨rfl, fun _ => rfl, fun _ => rfl, fun h => absurd h away⟩
    · rename_i hc
      dsimp only; split
      · rename_i full
        have kept := Soak.foldl_release_kept (k.hold c).pending (k.hold c)
        exact ⟨kept.2.1, fun _ => kept.1, fun h => absurd ⟨hA, hc, held full⟩ h, fun h => absurd h away⟩
      · exact ⟨rfl, fun _ => rfl, fun _ => rfl, fun h => absurd h away⟩

end Sys2Proof.Machine
end

