-- ==== Sys2Proof/Laws/State.lean ====
section
/-! SUPPORT. What each function of the state leaves as it is: one lemma a function, one equation a field. -/

namespace Sys2Proof.Machine

@[simp] theorem State.signal_frame (r : Report) (s : State) :
    (s.signal r).pending = s.pending ∧ (s.signal r).draws = s.draws ∧ (s.signal r).time = s.time ∧
    (s.signal r).station = s.station ∧ (s.signal r).settings = s.settings ∧ (s.signal r).level = s.level ∧
    (s.signal r).ident = s.ident ∧ (s.signal r).pos = s.pos ∧ (s.signal r).map = s.map ∧ (s.signal r).lobe = s.lobe ∧
    (s.signal r).cue = s.cue ∧ (s.signal r).route = s.route ∧ (s.signal r).hop = s.hop ∧ (s.signal r).src = s.src ∧
    (s.signal r).chk = s.chk ∧ (s.signal r).soak = s.soak ∧ (s.signal r).margin = s.margin ∧
    (s.signal r).handover = s.handover ∧ (s.signal r).supply = s.supply := by
  dsimp only [State.signal]
  all_goals (first | done | simp)

@[simp] theorem State.accept_frame (r : Reply) (s : State) :
    (s.accept r).pending = s.pending ∧ (s.accept r).draws = s.draws ∧ (s.accept r).time = s.time ∧
    (s.accept r).station = s.station ∧ (s.accept r).settings = s.settings ∧ (s.accept r).level = s.level ∧
    (s.accept r).ident = s.ident ∧ (s.accept r).pos = s.pos ∧ (s.accept r).map = s.map ∧ (s.accept r).lobe = s.lobe ∧
    (s.accept r).cue = s.cue ∧ (s.accept r).route = s.route ∧ (s.accept r).hop = s.hop ∧ (s.accept r).src = s.src ∧
    (s.accept r).chk = s.chk ∧ (s.accept r).soak = s.soak ∧ (s.accept r).margin = s.margin ∧
    (s.accept r).handover = s.handover ∧ (s.accept r).supply = s.supply := by
  dsimp only [State.accept]
  all_goals (first | done | simp)

@[simp] theorem State.refuse_frame (requestType : Byte) (reason : RefuseReason) (s : State) :
    (s.refuse requestType reason).pending = s.pending ∧ (s.refuse requestType reason).draws = s.draws ∧
    (s.refuse requestType reason).time = s.time ∧ (s.refuse requestType reason).station = s.station ∧
    (s.refuse requestType reason).settings = s.settings ∧ (s.refuse requestType reason).level = s.level ∧
    (s.refuse requestType reason).ident = s.ident ∧ (s.refuse requestType reason).pos = s.pos ∧
    (s.refuse requestType reason).map = s.map ∧ (s.refuse requestType reason).lobe = s.lobe ∧
    (s.refuse requestType reason).cue = s.cue ∧ (s.refuse requestType reason).route = s.route ∧
    (s.refuse requestType reason).hop = s.hop ∧ (s.refuse requestType reason).src = s.src ∧
    (s.refuse requestType reason).chk = s.chk ∧ (s.refuse requestType reason).soak = s.soak ∧
    (s.refuse requestType reason).margin = s.margin ∧ (s.refuse requestType reason).handover = s.handover ∧
    (s.refuse requestType reason).supply = s.supply := by
  dsimp only [State.refuse]
  all_goals (first | done | simp)

@[simp] theorem State.signalIdent_frame (before : IdentState) (s : State) :
    (s.signalIdent before).pending = s.pending ∧ (s.signalIdent before).draws = s.draws ∧
    (s.signalIdent before).time = s.time ∧ (s.signalIdent before).station = s.station ∧
    (s.signalIdent before).settings = s.settings ∧ (s.signalIdent before).level = s.level ∧
    (s.signalIdent before).ident = s.ident ∧ (s.signalIdent before).pos = s.pos ∧
    (s.signalIdent before).map = s.map ∧ (s.signalIdent before).lobe = s.lobe ∧ (s.signalIdent before).cue = s.cue ∧
    (s.signalIdent before).route = s.route ∧ (s.signalIdent before).hop = s.hop ∧
    (s.signalIdent before).src = s.src ∧ (s.signalIdent before).chk = s.chk ∧ (s.signalIdent before).soak = s.soak ∧
    (s.signalIdent before).margin = s.margin ∧ (s.signalIdent before).handover = s.handover ∧
    (s.signalIdent before).supply = s.supply := by
  dsimp only [State.signalIdent]; repeat' split
  all_goals (first | done | simp)

@[simp] theorem State.identSample_frame (level : Level) (s : State) :
    (s.identSample level).pending = s.pending ∧ (s.identSample level).draws = s.draws ∧
    (s.identSample level).time = s.time ∧ (s.identSample level).station = s.station ∧
    (s.identSample level).settings = s.settings ∧ (s.identSample level).level = s.level ∧
    (s.identSample level).pos = s.pos ∧ (s.identSample level).map = s.map ∧ (s.identSample level).lobe = s.lobe ∧
    (s.identSample level).cue = s.cue ∧ (s.identSample level).route = s.route ∧ (s.identSample level).hop = s.hop ∧
    (s.identSample level).src = s.src ∧ (s.identSample level).chk = s.chk ∧ (s.identSample level).soak = s.soak ∧
    (s.identSample level).margin = s.margin ∧ (s.identSample level).handover = s.handover ∧
    (s.identSample level).supply = s.supply := by
  dsimp only [State.identSample]
  all_goals (first | done | simp)

@[simp] theorem State.identEntry_frame (running : Bool) (s : State) :
    (s.identEntry running).pending = s.pending ∧ (s.identEntry running).draws = s.draws ∧
    (s.identEntry running).time = s.time ∧ (s.identEntry running).station = s.station ∧
    (s.identEntry running).settings = s.settings ∧ (s.identEntry running).level = s.level ∧
    (s.identEntry running).pos = s.pos ∧ (s.identEntry running).map = s.map ∧ (s.identEntry running).lobe = s.lobe ∧
    (s.identEntry running).cue = s.cue ∧ (s.identEntry running).route = s.route ∧
    (s.identEntry running).hop = s.hop ∧ (s.identEntry running).src = s.src ∧ (s.identEntry running).chk = s.chk ∧
    (s.identEntry running).soak = s.soak ∧ (s.identEntry running).margin = s.margin ∧
    (s.identEntry running).handover = s.handover ∧ (s.identEntry running).supply = s.supply := by
  dsimp only [State.identEntry]
  all_goals (first | done | simp)

@[simp] theorem State.mapSample_frame (admitted : Bool) (s : State) :
    (s.mapSample admitted).pending = s.pending ∧ (s.mapSample admitted).draws = s.draws ∧
    (s.mapSample admitted).time = s.time ∧ (s.mapSample admitted).station = s.station ∧
    (s.mapSample admitted).settings = s.settings ∧ (s.mapSample admitted).level = s.level ∧
    (s.mapSample admitted).ident = s.ident ∧ (s.mapSample admitted).pos = s.pos ∧
    (s.mapSample admitted).lobe = s.lobe ∧ (s.mapSample admitted).cue = s.cue ∧
    (s.mapSample admitted).route = s.route ∧ (s.mapSample admitted).hop = s.hop ∧
    (s.mapSample admitted).src = s.src ∧ (s.mapSample admitted).chk = s.chk ∧ (s.mapSample admitted).soak = s.soak ∧
    (s.mapSample admitted).margin = s.margin ∧ (s.mapSample admitted).handover = s.handover ∧
    (s.mapSample admitted).site = s.site ∧ (s.mapSample admitted).supply = s.supply := by
  dsimp only [State.mapSample]; repeat' split
  all_goals (first | done | simp)

@[simp] theorem State.runCrossCheck_frame (s : State) :
    s.runCrossCheck.pending = s.pending ∧ s.runCrossCheck.draws = s.draws ∧ s.runCrossCheck.time = s.time ∧
    s.runCrossCheck.station = s.station ∧ s.runCrossCheck.settings = s.settings ∧ s.runCrossCheck.level = s.level ∧
    s.runCrossCheck.ident = s.ident ∧ s.runCrossCheck.pos = s.pos ∧ s.runCrossCheck.map = s.map ∧
    s.runCrossCheck.cue = s.cue ∧ s.runCrossCheck.route = s.route ∧ s.runCrossCheck.hop = s.hop ∧
    s.runCrossCheck.src = s.src ∧ s.runCrossCheck.chk = s.chk ∧ s.runCrossCheck.soak = s.soak ∧
    s.runCrossCheck.margin = s.margin ∧ s.runCrossCheck.handover = s.handover ∧ s.runCrossCheck.supply = s.supply := by
  dsimp only [State.runCrossCheck]; repeat' split
  all_goals (first | done | simp)

@[simp] theorem State.takeVerdict_frame (r : VerdictRecord) (s : State) :
    (s.takeVerdict r).pending = s.pending ∧ (s.takeVerdict r).draws = s.draws ∧ (s.takeVerdict r).time = s.time ∧
    (s.takeVerdict r).station = s.station ∧ (s.takeVerdict r).settings = s.settings ∧
    (s.takeVerdict r).level = s.level ∧ (s.takeVerdict r).ident = s.ident ∧ (s.takeVerdict r).pos = s.pos ∧
    (s.takeVerdict r).map = s.map ∧ (s.takeVerdict r).cue = s.cue ∧ (s.takeVerdict r).route = s.route ∧
    (s.takeVerdict r).hop = s.hop ∧ (s.takeVerdict r).src = s.src ∧ (s.takeVerdict r).chk = s.chk ∧
    (s.takeVerdict r).soak = s.soak ∧ (s.takeVerdict r).margin = s.margin ∧ (s.takeVerdict r).handover = s.handover ∧
    (s.takeVerdict r).supply = s.supply := by
  dsimp only [State.takeVerdict]; repeat' split
  all_goals (first | done | simp)

@[simp] theorem State.updateCue_frame (s : State) :
    s.updateCue.pending = s.pending ∧ s.updateCue.draws = s.draws ∧ s.updateCue.time = s.time ∧
    s.updateCue.station = s.station ∧ s.updateCue.settings = s.settings ∧ s.updateCue.level = s.level ∧
    s.updateCue.ident = s.ident ∧ s.updateCue.pos = s.pos ∧ s.updateCue.map = s.map ∧ s.updateCue.lobe = s.lobe ∧
    s.updateCue.route = s.route ∧ s.updateCue.hop = s.hop ∧ s.updateCue.src = s.src ∧ s.updateCue.chk = s.chk ∧
    s.updateCue.soak = s.soak ∧ s.updateCue.margin = s.margin ∧ s.updateCue.handover = s.handover ∧
    s.updateCue.site = s.site ∧ s.updateCue.supply = s.supply := by
  dsimp only [State.updateCue]
  all_goals (first | done | simp)

@[simp] theorem State.liftRoute_frame (f : Nat → Route → Nat × Route) (s : State) :
    (s.liftRoute f).pending = s.pending ∧ (s.liftRoute f).time = s.time ∧ (s.liftRoute f).station = s.station ∧
    (s.liftRoute f).settings = s.settings ∧ (s.liftRoute f).level = s.level ∧ (s.liftRoute f).ident = s.ident ∧
    (s.liftRoute f).pos = s.pos ∧ (s.liftRoute f).map = s.map ∧ (s.liftRoute f).lobe = s.lobe ∧
    (s.liftRoute f).cue = s.cue ∧ (s.liftRoute f).hop = s.hop ∧ (s.liftRoute f).src = s.src ∧
    (s.liftRoute f).chk = s.chk ∧ (s.liftRoute f).soak = s.soak ∧ (s.liftRoute f).margin = s.margin ∧
    (s.liftRoute f).handover = s.handover ∧ (s.liftRoute f).site = s.site ∧ (s.liftRoute f).supply = s.supply := by
  simp [State.liftRoute]

@[simp] theorem State.queueBody_frame (resend : Bool) (body : FrameBody) (s : State) :
    (s.queueBody resend body).pending = s.pending ∧ (s.queueBody resend body).time = s.time ∧
    (s.queueBody resend body).station = s.station ∧ (s.queueBody resend body).settings = s.settings ∧
    (s.queueBody resend body).level = s.level ∧ (s.queueBody resend body).ident = s.ident ∧
    (s.queueBody resend body).pos = s.pos ∧ (s.queueBody resend body).map = s.map ∧
    (s.queueBody resend body).lobe = s.lobe ∧ (s.queueBody resend body).cue = s.cue ∧
    (s.queueBody resend body).hop = s.hop ∧ (s.queueBody resend body).src = s.src ∧
    (s.queueBody resend body).chk = s.chk ∧ (s.queueBody resend body).soak = s.soak ∧
    (s.queueBody resend body).margin = s.margin ∧ (s.queueBody resend body).handover = s.handover ∧
    (s.queueBody resend body).site = s.site ∧ (s.queueBody resend body).supply = s.supply := by
  dsimp only [State.queueBody]; repeat' split
  all_goals (first | done | simp)

@[simp] theorem State.send_frame (body : FrameBody) (s : State) :
    (s.send body).pending = s.pending ∧ (s.send body).time = s.time ∧ (s.send body).station = s.station ∧
    (s.send body).settings = s.settings ∧ (s.send body).level = s.level ∧ (s.send body).ident = s.ident ∧
    (s.send body).pos = s.pos ∧ (s.send body).map = s.map ∧ (s.send body).lobe = s.lobe ∧ (s.send body).cue = s.cue ∧
    (s.send body).hop = s.hop ∧ (s.send body).src = s.src ∧ (s.send body).chk = s.chk ∧ (s.send body).soak = s.soak ∧
    (s.send body).margin = s.margin ∧ (s.send body).handover = s.handover ∧ (s.send body).site = s.site ∧
    (s.send body).supply = s.supply := by
  dsimp only [State.send]
  all_goals (first | done | simp)

@[simp] theorem State.startStatusTimer_frame (s : State) :
    s.startStatusTimer.pending = s.pending ∧ s.startStatusTimer.time = s.time ∧
    s.startStatusTimer.station = s.station ∧ s.startStatusTimer.settings = s.settings ∧
    s.startStatusTimer.level = s.level ∧ s.startStatusTimer.ident = s.ident ∧ s.startStatusTimer.pos = s.pos ∧
    s.startStatusTimer.map = s.map ∧ s.startStatusTimer.lobe = s.lobe ∧ s.startStatusTimer.cue = s.cue ∧
    s.startStatusTimer.hop = s.hop ∧ s.startStatusTimer.src = s.src ∧ s.startStatusTimer.chk = s.chk ∧
    s.startStatusTimer.soak = s.soak ∧ s.startStatusTimer.margin = s.margin ∧
    s.startStatusTimer.handover = s.handover ∧ s.startStatusTimer.site = s.site ∧ s.startStatusTimer.supply = s.supply := by
  dsimp only [State.startStatusTimer]
  all_goals (first | done | simp)

@[simp] theorem State.sendStatus_frame (s : State) :
    s.sendStatus.pending = s.pending ∧ s.sendStatus.time = s.time ∧ s.sendStatus.station = s.station ∧
    s.sendStatus.settings = s.settings ∧ s.sendStatus.level = s.level ∧ s.sendStatus.ident = s.ident ∧
    s.sendStatus.pos = s.pos ∧ s.sendStatus.map = s.map ∧ s.sendStatus.lobe = s.lobe ∧ s.sendStatus.cue = s.cue ∧
    s.sendStatus.hop = s.hop ∧ s.sendStatus.src = s.src ∧ s.sendStatus.chk = s.chk ∧ s.sendStatus.soak = s.soak ∧
    s.sendStatus.margin = s.margin ∧ s.sendStatus.handover = s.handover ∧ s.sendStatus.site = s.site ∧
    s.sendStatus.supply = s.supply := by
  dsimp only [State.sendStatus]; repeat' split
  all_goals (first | done | simp)

@[simp] theorem State.sendLevel_frame (s : State) :
    s.sendLevel.pending = s.pending ∧ s.sendLevel.time = s.time ∧ s.sendLevel.station = s.station ∧
    s.sendLevel.settings = s.settings ∧ s.sendLevel.level = s.level ∧ s.sendLevel.ident = s.ident ∧
    s.sendLevel.pos = s.pos ∧ s.sendLevel.map = s.map ∧ s.sendLevel.lobe = s.lobe ∧ s.sendLevel.cue = s.cue ∧
    s.sendLevel.hop = s.hop ∧ s.sendLevel.src = s.src ∧ s.sendLevel.chk = s.chk ∧ s.sendLevel.soak = s.soak ∧
    s.sendLevel.margin = s.margin ∧ s.sendLevel.handover = s.handover ∧ s.sendLevel.site = s.site ∧
    s.sendLevel.supply = s.supply := by
  dsimp only [State.sendLevel]
  all_goals (first | done | simp)

@[simp] theorem State.updateLevelCondition_frame (s : State) :
    s.updateLevelCondition.pending = s.pending ∧ s.updateLevelCondition.time = s.time ∧
    s.updateLevelCondition.station = s.station ∧ s.updateLevelCondition.settings = s.settings ∧
    s.updateLevelCondition.level = s.level ∧ s.updateLevelCondition.ident = s.ident ∧
    s.updateLevelCondition.pos = s.pos ∧ s.updateLevelCondition.map = s.map ∧ s.updateLevelCondition.lobe = s.lobe ∧
    s.updateLevelCondition.cue = s.cue ∧ s.updateLevelCondition.hop = s.hop ∧ s.updateLevelCondition.src = s.src ∧
    s.updateLevelCondition.chk = s.chk ∧ s.updateLevelCondition.soak = s.soak ∧
    s.updateLevelCondition.margin = s.margin ∧ s.updateLevelCondition.handover = s.handover ∧
    s.updateLevelCondition.site = s.site ∧ s.updateLevelCondition.supply = s.supply := by
  dsimp only [State.updateLevelCondition]; repeat' split
  all_goals (first | done | simp)

@[simp] theorem State.restoreAtten_frame (s : State) :
    s.restoreAtten.pending = s.pending ∧ s.restoreAtten.draws = s.draws ∧ s.restoreAtten.time = s.time ∧
    s.restoreAtten.station = s.station ∧ s.restoreAtten.settings = s.settings ∧ s.restoreAtten.level = s.level ∧
    s.restoreAtten.ident = s.ident ∧ s.restoreAtten.pos = s.pos ∧ s.restoreAtten.map = s.map ∧
    s.restoreAtten.lobe = s.lobe ∧ s.restoreAtten.cue = s.cue ∧ s.restoreAtten.route = s.route ∧
    s.restoreAtten.hop = s.hop ∧ s.restoreAtten.chk = s.chk ∧ s.restoreAtten.soak = s.soak ∧
    s.restoreAtten.margin = s.margin ∧ s.restoreAtten.handover = s.handover ∧ s.restoreAtten.site = s.site ∧
    s.restoreAtten.supply = s.supply := by
  dsimp only [State.restoreAtten]
  all_goals (first | done | simp)

@[simp] theorem State.completeWord_frame (s : State) :
    s.completeWord.pending = s.pending ∧ s.completeWord.draws = s.draws ∧ s.completeWord.time = s.time ∧
    s.completeWord.station = s.station ∧ s.completeWord.settings = s.settings ∧ s.completeWord.level = s.level ∧
    s.completeWord.ident = s.ident ∧ s.completeWord.pos = s.pos ∧ s.completeWord.map = s.map ∧
    s.completeWord.lobe = s.lobe ∧ s.completeWord.cue = s.cue ∧ s.completeWord.route = s.route ∧
    s.completeWord.hop = s.hop ∧ s.completeWord.src = s.src ∧ s.completeWord.soak = s.soak ∧
    s.completeWord.margin = s.margin ∧ s.completeWord.handover = s.handover ∧ s.completeWord.supply = s.supply := by
  dsimp only [State.completeWord]; repeat' split
  all_goals (first | done | simp)

@[simp] theorem State.sendDigest_frame (final : Bool) (s : State) :
    (s.sendDigest final).pending = s.pending ∧ (s.sendDigest final).time = s.time ∧
    (s.sendDigest final).station = s.station ∧ (s.sendDigest final).settings = s.settings ∧
    (s.sendDigest final).level = s.level ∧ (s.sendDigest final).ident = s.ident ∧ (s.sendDigest final).pos = s.pos ∧
    (s.sendDigest final).map = s.map ∧ (s.sendDigest final).lobe = s.lobe ∧ (s.sendDigest final).cue = s.cue ∧
    (s.sendDigest final).hop = s.hop ∧ (s.sendDigest final).src = s.src ∧ (s.sendDigest final).chk = s.chk ∧
    (s.sendDigest final).soak = s.soak ∧ (s.sendDigest final).margin = s.margin ∧
    (s.sendDigest final).handover = s.handover ∧ (s.sendDigest final).site = s.site ∧
    (s.sendDigest final).supply = s.supply := by
  dsimp only [State.sendDigest]
  all_goals (first | done | simp)

@[simp] theorem State.closeSoak_frame (halted : Bool) (s : State) :
    (s.closeSoak halted).pending = s.pending ∧ (s.closeSoak halted).time = s.time ∧
    (s.closeSoak halted).station = s.station ∧ (s.closeSoak halted).settings = s.settings ∧
    (s.closeSoak halted).level = s.level ∧ (s.closeSoak halted).ident = s.ident ∧ (s.closeSoak halted).pos = s.pos ∧
    (s.closeSoak halted).map = s.map ∧ (s.closeSoak halted).lobe = s.lobe ∧ (s.closeSoak halted).cue = s.cue ∧
    (s.closeSoak halted).hop = s.hop ∧ (s.closeSoak halted).src = s.src ∧ (s.closeSoak halted).chk = s.chk ∧
    (s.closeSoak halted).margin = s.margin ∧ (s.closeSoak halted).handover = s.handover ∧
    (s.closeSoak halted).supply = s.supply := by
  dsimp only [State.closeSoak]
  all_goals (first | done | simp)

@[simp] theorem State.closeRunningSoak_frame (halted : Bool) (s : State) :
    (s.closeRunningSoak halted).pending = s.pending ∧ (s.closeRunningSoak halted).time = s.time ∧
    (s.closeRunningSoak halted).station = s.station ∧ (s.closeRunningSoak halted).settings = s.settings ∧
    (s.closeRunningSoak halted).level = s.level ∧ (s.closeRunningSoak halted).ident = s.ident ∧
    (s.closeRunningSoak halted).pos = s.pos ∧ (s.closeRunningSoak halted).map = s.map ∧
    (s.closeRunningSoak halted).lobe = s.lobe ∧ (s.closeRunningSoak halted).cue = s.cue ∧
    (s.closeRunningSoak halted).hop = s.hop ∧ (s.closeRunningSoak halted).src = s.src ∧
    (s.closeRunningSoak halted).chk = s.chk ∧ (s.closeRunningSoak halted).margin = s.margin ∧
    (s.closeRunningSoak halted).handover = s.handover ∧ (s.closeRunningSoak halted).supply = s.supply := by
  dsimp only [State.closeRunningSoak]; repeat' split
  all_goals (first | done | simp)

@[simp] theorem State.afterSoakSecond_frame (s : State) :
    s.afterSoakSecond.pending = s.pending ∧ s.afterSoakSecond.time = s.time ∧ s.afterSoakSecond.station = s.station ∧
    s.afterSoakSecond.settings = s.settings ∧ s.afterSoakSecond.level = s.level ∧ s.afterSoakSecond.ident = s.ident ∧
    s.afterSoakSecond.pos = s.pos ∧ s.afterSoakSecond.map = s.map ∧ s.afterSoakSecond.lobe = s.lobe ∧
    s.afterSoakSecond.cue = s.cue ∧ s.afterSoakSecond.hop = s.hop ∧ s.afterSoakSecond.src = s.src ∧
    s.afterSoakSecond.chk = s.chk ∧ s.afterSoakSecond.margin = s.margin ∧ s.afterSoakSecond.handover = s.handover ∧
    s.afterSoakSecond.supply = s.supply := by
  dsimp only [State.afterSoakSecond]; repeat' split
  all_goals (first | done | simp)

@[simp] theorem State.soakSecond_frame (t : Totals) (s : State) :
    (s.soakSecond t).pending = s.pending ∧ (s.soakSecond t).time = s.time ∧ (s.soakSecond t).station = s.station ∧
    (s.soakSecond t).settings = s.settings ∧ (s.soakSecond t).level = s.level ∧ (s.soakSecond t).ident = s.ident ∧
    (s.soakSecond t).pos = s.pos ∧ (s.soakSecond t).map = s.map ∧ (s.soakSecond t).lobe = s.lobe ∧
    (s.soakSecond t).cue = s.cue ∧ (s.soakSecond t).hop = s.hop ∧ (s.soakSecond t).src = s.src ∧
    (s.soakSecond t).chk = s.chk ∧ (s.soakSecond t).margin = s.margin ∧ (s.soakSecond t).handover = s.handover ∧
    (s.soakSecond t).supply = s.supply := by
  dsimp only [State.soakSecond]; repeat' split
  all_goals (first | done | simp)

@[simp] theorem State.deliverToSoak_frame (d : Delivery) (s : State) :
    (s.deliverToSoak d).pending = s.pending ∧ (s.deliverToSoak d).time = s.time ∧
    (s.deliverToSoak d).station = s.station ∧ (s.deliverToSoak d).settings = s.settings ∧
    (s.deliverToSoak d).level = s.level ∧ (s.deliverToSoak d).ident = s.ident ∧ (s.deliverToSoak d).pos = s.pos ∧
    (s.deliverToSoak d).map = s.map ∧ (s.deliverToSoak d).lobe = s.lobe ∧ (s.deliverToSoak d).cue = s.cue ∧
    (s.deliverToSoak d).hop = s.hop ∧ (s.deliverToSoak d).src = s.src ∧ (s.deliverToSoak d).chk = s.chk ∧
    (s.deliverToSoak d).margin = s.margin ∧ (s.deliverToSoak d).handover = s.handover ∧
    (s.deliverToSoak d).supply = s.supply := by
  dsimp only [State.deliverToSoak]; repeat' split
  all_goals (first | done | simp)

@[simp] theorem State.deliverFade_frame (r : Role) (e : FadeEvent) (s : State) :
    (s.deliverFade r e).pending = s.pending ∧ (s.deliverFade r e).draws = s.draws ∧
    (s.deliverFade r e).time = s.time ∧ (s.deliverFade r e).station = s.station ∧
    (s.deliverFade r e).settings = s.settings ∧ (s.deliverFade r e).level = s.level ∧
    (s.deliverFade r e).ident = s.ident ∧ (s.deliverFade r e).pos = s.pos ∧ (s.deliverFade r e).map = s.map ∧
    (s.deliverFade r e).lobe = s.lobe ∧ (s.deliverFade r e).cue = s.cue ∧ (s.deliverFade r e).route = s.route ∧
    (s.deliverFade r e).hop = s.hop ∧ (s.deliverFade r e).src = s.src ∧ (s.deliverFade r e).chk = s.chk ∧
    (s.deliverFade r e).margin = s.margin ∧ (s.deliverFade r e).handover = s.handover ∧
    (s.deliverFade r e).supply = s.supply := by
  dsimp only [State.deliverFade]
  all_goals (first | done | simp)

@[simp] theorem State.deliverFades_frame (r : Role) (e : Option FadeEvent) (s : State) :
    (s.deliverFades r e).pending = s.pending ∧ (s.deliverFades r e).draws = s.draws ∧
    (s.deliverFades r e).time = s.time ∧ (s.deliverFades r e).station = s.station ∧
    (s.deliverFades r e).settings = s.settings ∧ (s.deliverFades r e).level = s.level ∧
    (s.deliverFades r e).ident = s.ident ∧ (s.deliverFades r e).pos = s.pos ∧ (s.deliverFades r e).map = s.map ∧
    (s.deliverFades r e).lobe = s.lobe ∧ (s.deliverFades r e).cue = s.cue ∧ (s.deliverFades r e).route = s.route ∧
    (s.deliverFades r e).hop = s.hop ∧ (s.deliverFades r e).src = s.src ∧ (s.deliverFades r e).chk = s.chk ∧
    (s.deliverFades r e).margin = s.margin ∧ (s.deliverFades r e).handover = s.handover ∧
    (s.deliverFades r e).supply = s.supply := by
  dsimp only [State.deliverFades]; repeat' split
  all_goals (first | done | simp)

@[simp] theorem State.beginDirection_frame (d : Direction) (s : State) :
    (s.beginDirection d).pending = s.pending ∧ (s.beginDirection d).time = s.time ∧
    (s.beginDirection d).station = s.station ∧ (s.beginDirection d).settings = s.settings ∧
    (s.beginDirection d).level = s.level ∧ (s.beginDirection d).ident = s.ident ∧ (s.beginDirection d).pos = s.pos ∧
    (s.beginDirection d).map = s.map ∧ (s.beginDirection d).lobe = s.lobe ∧ (s.beginDirection d).cue = s.cue ∧
    (s.beginDirection d).hop = s.hop ∧ (s.beginDirection d).chk = s.chk ∧ (s.beginDirection d).soak = s.soak ∧
    (s.beginDirection d).handover = s.handover ∧ (s.beginDirection d).site = s.site ∧
    (s.beginDirection d).supply = s.supply := by
  dsimp only [State.beginDirection]; repeat' split
  all_goals (first | done | simp)

@[simp] theorem State.signalMargin_frame (d : Direction) (r : MarginResult) (s : State) :
    (s.signalMargin d r).pending = s.pending ∧ (s.signalMargin d r).draws = s.draws ∧
    (s.signalMargin d r).time = s.time ∧ (s.signalMargin d r).station = s.station ∧
    (s.signalMargin d r).settings = s.settings ∧ (s.signalMargin d r).level = s.level ∧
    (s.signalMargin d r).ident = s.ident ∧ (s.signalMargin d r).pos = s.pos ∧ (s.signalMargin d r).map = s.map ∧
    (s.signalMargin d r).lobe = s.lobe ∧ (s.signalMargin d r).cue = s.cue ∧ (s.signalMargin d r).route = s.route ∧
    (s.signalMargin d r).hop = s.hop ∧ (s.signalMargin d r).src = s.src ∧ (s.signalMargin d r).chk = s.chk ∧
    (s.signalMargin d r).soak = s.soak ∧ (s.signalMargin d r).margin = s.margin ∧
    (s.signalMargin d r).handover = s.handover ∧ (s.signalMargin d r).supply = s.supply := by
  dsimp only [State.signalMargin]
  all_goals (first | done | simp)

@[simp] theorem State.transmitDone_frame (body : MtestBody) (s : State) :
    (s.transmitDone body).pending = s.pending ∧ (s.transmitDone body).time = s.time ∧
    (s.transmitDone body).station = s.station ∧ (s.transmitDone body).settings = s.settings ∧
    (s.transmitDone body).level = s.level ∧ (s.transmitDone body).ident = s.ident ∧
    (s.transmitDone body).pos = s.pos ∧ (s.transmitDone body).map = s.map ∧ (s.transmitDone body).lobe = s.lobe ∧
    (s.transmitDone body).cue = s.cue ∧ (s.transmitDone body).hop = s.hop ∧ (s.transmitDone body).chk = s.chk ∧
    (s.transmitDone body).soak = s.soak ∧ (s.transmitDone body).handover = s.handover ∧
    (s.transmitDone body).supply = s.supply := by
  dsimp only [State.transmitDone]; repeat' split
  all_goals (first | done | simp)

@[simp] theorem State.takeLimit_frame (b : MtestBody) (s : State) :
    (s.takeLimit b).pending = s.pending ∧ (s.takeLimit b).time = s.time ∧ (s.takeLimit b).station = s.station ∧
    (s.takeLimit b).settings = s.settings ∧ (s.takeLimit b).level = s.level ∧ (s.takeLimit b).ident = s.ident ∧
    (s.takeLimit b).pos = s.pos ∧ (s.takeLimit b).map = s.map ∧ (s.takeLimit b).lobe = s.lobe ∧
    (s.takeLimit b).cue = s.cue ∧ (s.takeLimit b).hop = s.hop ∧ (s.takeLimit b).chk = s.chk ∧
    (s.takeLimit b).soak = s.soak ∧ (s.takeLimit b).handover = s.handover ∧ (s.takeLimit b).supply = s.supply := by
  dsimp only [State.takeLimit]; repeat' split
  all_goals (first | done | simp)

@[simp] theorem State.secondMargin_frame (s : State) :
    s.secondMargin.pending = s.pending ∧ s.secondMargin.draws = s.draws ∧ s.secondMargin.time = s.time ∧
    s.secondMargin.station = s.station ∧ s.secondMargin.settings = s.settings ∧ s.secondMargin.level = s.level ∧
    s.secondMargin.ident = s.ident ∧ s.secondMargin.pos = s.pos ∧ s.secondMargin.map = s.map ∧
    s.secondMargin.lobe = s.lobe ∧ s.secondMargin.cue = s.cue ∧ s.secondMargin.route = s.route ∧
    s.secondMargin.hop = s.hop ∧ s.secondMargin.src = s.src ∧ s.secondMargin.chk = s.chk ∧
    s.secondMargin.soak = s.soak ∧ s.secondMargin.handover = s.handover ∧ s.secondMargin.site = s.site ∧
    s.secondMargin.supply = s.supply := by
  dsimp only [State.secondMargin]; repeat' split
  all_goals (first | done | simp)

@[simp] theorem State.writeStep_frame (s : State) :
    s.writeStep.pending = s.pending ∧ s.writeStep.time = s.time ∧ s.writeStep.station = s.station ∧
    s.writeStep.settings = s.settings ∧ s.writeStep.level = s.level ∧ s.writeStep.ident = s.ident ∧
    s.writeStep.pos = s.pos ∧ s.writeStep.map = s.map ∧ s.writeStep.lobe = s.lobe ∧ s.writeStep.cue = s.cue ∧
    s.writeStep.hop = s.hop ∧ s.writeStep.chk = s.chk ∧ s.writeStep.soak = s.soak ∧
    s.writeStep.handover = s.handover ∧ s.writeStep.supply = s.supply := by
  dsimp only [State.writeStep]; repeat' split
  all_goals (first | done | simp)

@[simp] theorem State.announceStep_frame (s : State) :
    s.announceStep.pending = s.pending ∧ s.announceStep.time = s.time ∧ s.announceStep.station = s.station ∧
    s.announceStep.settings = s.settings ∧ s.announceStep.level = s.level ∧ s.announceStep.ident = s.ident ∧
    s.announceStep.pos = s.pos ∧ s.announceStep.map = s.map ∧ s.announceStep.lobe = s.lobe ∧
    s.announceStep.cue = s.cue ∧ s.announceStep.hop = s.hop ∧ s.announceStep.src = s.src ∧
    s.announceStep.chk = s.chk ∧ s.announceStep.soak = s.soak ∧ s.announceStep.handover = s.handover ∧
    s.announceStep.site = s.site ∧ s.announceStep.supply = s.supply := by
  dsimp only [State.announceStep]; repeat' split
  all_goals (first | done | simp)

@[simp] theorem State.repeatDone_frame (s : State) :
    s.repeatDone.pending = s.pending ∧ s.repeatDone.time = s.time ∧ s.repeatDone.station = s.station ∧
    s.repeatDone.settings = s.settings ∧ s.repeatDone.level = s.level ∧ s.repeatDone.ident = s.ident ∧
    s.repeatDone.pos = s.pos ∧ s.repeatDone.map = s.map ∧ s.repeatDone.lobe = s.lobe ∧ s.repeatDone.cue = s.cue ∧
    s.repeatDone.hop = s.hop ∧ s.repeatDone.src = s.src ∧ s.repeatDone.chk = s.chk ∧ s.repeatDone.soak = s.soak ∧
    s.repeatDone.handover = s.handover ∧ s.repeatDone.site = s.site ∧ s.repeatDone.supply = s.supply := by
  dsimp only [State.repeatDone]; repeat' split
  all_goals (first | done | simp)

@[simp] theorem State.takeStep_frame (b : MtestBody) (s : State) :
    (s.takeStep b).pending = s.pending ∧ (s.takeStep b).draws = s.draws ∧ (s.takeStep b).time = s.time ∧
    (s.takeStep b).station = s.station ∧ (s.takeStep b).settings = s.settings ∧ (s.takeStep b).level = s.level ∧
    (s.takeStep b).ident = s.ident ∧ (s.takeStep b).pos = s.pos ∧ (s.takeStep b).map = s.map ∧
    (s.takeStep b).lobe = s.lobe ∧ (s.takeStep b).cue = s.cue ∧ (s.takeStep b).route = s.route ∧
    (s.takeStep b).hop = s.hop ∧ (s.takeStep b).src = s.src ∧ (s.takeStep b).chk = s.chk ∧
    (s.takeStep b).soak = s.soak ∧ (s.takeStep b).handover = s.handover ∧ (s.takeStep b).site = s.site ∧
    (s.takeStep b).supply = s.supply := by
  dsimp only [State.takeStep]; repeat' split
  all_goals (first | done | simp)

@[simp] theorem State.judgeResult_frame (b : MtestBody) (s : State) :
    (s.judgeResult b).pending = s.pending ∧ (s.judgeResult b).draws = s.draws ∧ (s.judgeResult b).time = s.time ∧
    (s.judgeResult b).station = s.station ∧ (s.judgeResult b).settings = s.settings ∧
    (s.judgeResult b).level = s.level ∧ (s.judgeResult b).ident = s.ident ∧ (s.judgeResult b).pos = s.pos ∧
    (s.judgeResult b).map = s.map ∧ (s.judgeResult b).lobe = s.lobe ∧ (s.judgeResult b).cue = s.cue ∧
    (s.judgeResult b).route = s.route ∧ (s.judgeResult b).hop = s.hop ∧ (s.judgeResult b).src = s.src ∧
    (s.judgeResult b).chk = s.chk ∧ (s.judgeResult b).soak = s.soak ∧ (s.judgeResult b).handover = s.handover ∧
    (s.judgeResult b).supply = s.supply := by
  dsimp only [State.judgeResult]
  all_goals (first | done | simp)

@[simp] theorem State.afterJudge_frame (d : Direction) (s : State) :
    (s.afterJudge d).pending = s.pending ∧ (s.afterJudge d).time = s.time ∧ (s.afterJudge d).station = s.station ∧
    (s.afterJudge d).settings = s.settings ∧ (s.afterJudge d).level = s.level ∧ (s.afterJudge d).ident = s.ident ∧
    (s.afterJudge d).pos = s.pos ∧ (s.afterJudge d).map = s.map ∧ (s.afterJudge d).lobe = s.lobe ∧
    (s.afterJudge d).cue = s.cue ∧ (s.afterJudge d).hop = s.hop ∧ (s.afterJudge d).chk = s.chk ∧
    (s.afterJudge d).soak = s.soak ∧ (s.afterJudge d).handover = s.handover ∧ (s.afterJudge d).site = s.site ∧
    (s.afterJudge d).supply = s.supply := by
  dsimp only [State.afterJudge]; repeat' split
  all_goals (first | done | simp)

@[simp] theorem State.takeDone_frame (b : MtestBody) (s : State) :
    (s.takeDone b).pending = s.pending ∧ (s.takeDone b).time = s.time ∧ (s.takeDone b).station = s.station ∧
    (s.takeDone b).settings = s.settings ∧ (s.takeDone b).level = s.level ∧ (s.takeDone b).ident = s.ident ∧
    (s.takeDone b).pos = s.pos ∧ (s.takeDone b).map = s.map ∧ (s.takeDone b).lobe = s.lobe ∧
    (s.takeDone b).cue = s.cue ∧ (s.takeDone b).hop = s.hop ∧ (s.takeDone b).chk = s.chk ∧
    (s.takeDone b).soak = s.soak ∧ (s.takeDone b).handover = s.handover ∧ (s.takeDone b).supply = s.supply := by
  dsimp only [State.takeDone]; repeat' split
  all_goals (first | done | simp)

@[simp] theorem State.judgeBad_frame (d : Direction) (s : State) :
    (s.judgeBad d).pending = s.pending ∧ (s.judgeBad d).time = s.time ∧ (s.judgeBad d).station = s.station ∧
    (s.judgeBad d).settings = s.settings ∧ (s.judgeBad d).level = s.level ∧ (s.judgeBad d).ident = s.ident ∧
    (s.judgeBad d).pos = s.pos ∧ (s.judgeBad d).map = s.map ∧ (s.judgeBad d).lobe = s.lobe ∧
    (s.judgeBad d).cue = s.cue ∧ (s.judgeBad d).hop = s.hop ∧ (s.judgeBad d).src = s.src ∧
    (s.judgeBad d).chk = s.chk ∧ (s.judgeBad d).soak = s.soak ∧ (s.judgeBad d).handover = s.handover ∧
    (s.judgeBad d).site = s.site ∧ (s.judgeBad d).supply = s.supply := by
  dsimp only [State.judgeBad]
  all_goals (first | done | simp)

@[simp] theorem State.deliverToJudge_frame (dl : Delivery) (s : State) :
    (s.deliverToJudge dl).pending = s.pending ∧ (s.deliverToJudge dl).time = s.time ∧
    (s.deliverToJudge dl).station = s.station ∧ (s.deliverToJudge dl).settings = s.settings ∧
    (s.deliverToJudge dl).level = s.level ∧ (s.deliverToJudge dl).ident = s.ident ∧
    (s.deliverToJudge dl).pos = s.pos ∧ (s.deliverToJudge dl).map = s.map ∧ (s.deliverToJudge dl).lobe = s.lobe ∧
    (s.deliverToJudge dl).cue = s.cue ∧ (s.deliverToJudge dl).hop = s.hop ∧ (s.deliverToJudge dl).src = s.src ∧
    (s.deliverToJudge dl).chk = s.chk ∧ (s.deliverToJudge dl).soak = s.soak ∧
    (s.deliverToJudge dl).handover = s.handover ∧ (s.deliverToJudge dl).site = s.site ∧
    (s.deliverToJudge dl).supply = s.supply := by
  dsimp only [State.deliverToJudge]; repeat' split
  all_goals (first | done | simp)

@[simp] theorem State.statusToJudge_frame (d : Direction) (p : MarginProgress) (s : State) :
    (s.statusToJudge d p).pending = s.pending ∧ (s.statusToJudge d p).time = s.time ∧
    (s.statusToJudge d p).station = s.station ∧ (s.statusToJudge d p).settings = s.settings ∧
    (s.statusToJudge d p).level = s.level ∧ (s.statusToJudge d p).ident = s.ident ∧
    (s.statusToJudge d p).pos = s.pos ∧ (s.statusToJudge d p).map = s.map ∧ (s.statusToJudge d p).lobe = s.lobe ∧
    (s.statusToJudge d p).cue = s.cue ∧ (s.statusToJudge d p).hop = s.hop ∧ (s.statusToJudge d p).chk = s.chk ∧
    (s.statusToJudge d p).soak = s.soak ∧ (s.statusToJudge d p).handover = s.handover ∧
    (s.statusToJudge d p).site = s.site ∧ (s.statusToJudge d p).supply = s.supply := by
  dsimp only [State.statusToJudge]; repeat' split
  all_goals (first | done | simp)

@[simp] theorem State.statusToTransmitter_frame (d : Direction) (p : MarginProgress) (s : State) :
    (s.statusToTransmitter d p).pending = s.pending ∧ (s.statusToTransmitter d p).draws = s.draws ∧
    (s.statusToTransmitter d p).time = s.time ∧ (s.statusToTransmitter d p).station = s.station ∧
    (s.statusToTransmitter d p).settings = s.settings ∧ (s.statusToTransmitter d p).level = s.level ∧
    (s.statusToTransmitter d p).ident = s.ident ∧ (s.statusToTransmitter d p).pos = s.pos ∧
    (s.statusToTransmitter d p).map = s.map ∧ (s.statusToTransmitter d p).lobe = s.lobe ∧
    (s.statusToTransmitter d p).cue = s.cue ∧ (s.statusToTransmitter d p).route = s.route ∧
    (s.statusToTransmitter d p).hop = s.hop ∧ (s.statusToTransmitter d p).src = s.src ∧
    (s.statusToTransmitter d p).chk = s.chk ∧ (s.statusToTransmitter d p).soak = s.soak ∧
    (s.statusToTransmitter d p).handover = s.handover ∧ (s.statusToTransmitter d p).site = s.site ∧
    (s.statusToTransmitter d p).supply = s.supply := by
  dsimp only [State.statusToTransmitter]; repeat' split
  all_goals (first | done | simp)

@[simp] theorem State.marginStatus_frame (p : MarginProgress) (s : State) :
    (s.marginStatus p).pending = s.pending ∧ (s.marginStatus p).time = s.time ∧
    (s.marginStatus p).station = s.station ∧ (s.marginStatus p).settings = s.settings ∧
    (s.marginStatus p).level = s.level ∧ (s.marginStatus p).ident = s.ident ∧ (s.marginStatus p).pos = s.pos ∧
    (s.marginStatus p).map = s.map ∧ (s.marginStatus p).lobe = s.lobe ∧ (s.marginStatus p).cue = s.cue ∧
    (s.marginStatus p).hop = s.hop ∧ (s.marginStatus p).chk = s.chk ∧ (s.marginStatus p).soak = s.soak ∧
    (s.marginStatus p).handover = s.handover ∧ (s.marginStatus p).site = s.site ∧ (s.marginStatus p).supply = s.supply := by
  dsimp only [State.marginStatus]; repeat' split
  all_goals (first | done | simp)

@[simp] theorem State.silenceAbort_frame (d : Direction) (s : State) :
    (s.silenceAbort d).pending = s.pending ∧ (s.silenceAbort d).draws = s.draws ∧ (s.silenceAbort d).time = s.time ∧
    (s.silenceAbort d).station = s.station ∧ (s.silenceAbort d).settings = s.settings ∧
    (s.silenceAbort d).level = s.level ∧ (s.silenceAbort d).ident = s.ident ∧ (s.silenceAbort d).pos = s.pos ∧
    (s.silenceAbort d).map = s.map ∧ (s.silenceAbort d).lobe = s.lobe ∧ (s.silenceAbort d).cue = s.cue ∧
    (s.silenceAbort d).route = s.route ∧ (s.silenceAbort d).hop = s.hop ∧ (s.silenceAbort d).chk = s.chk ∧
    (s.silenceAbort d).soak = s.soak ∧ (s.silenceAbort d).handover = s.handover ∧ (s.silenceAbort d).supply = s.supply := by
  dsimp only [State.silenceAbort]; repeat' split
  all_goals (first | done | simp)

@[simp] theorem State.abortCurrent_frame (s : State) :
    s.abortCurrent.pending = s.pending ∧ s.abortCurrent.draws = s.draws ∧ s.abortCurrent.time = s.time ∧
    s.abortCurrent.station = s.station ∧ s.abortCurrent.settings = s.settings ∧ s.abortCurrent.level = s.level ∧
    s.abortCurrent.ident = s.ident ∧ s.abortCurrent.pos = s.pos ∧ s.abortCurrent.map = s.map ∧
    s.abortCurrent.lobe = s.lobe ∧ s.abortCurrent.cue = s.cue ∧ s.abortCurrent.route = s.route ∧
    s.abortCurrent.hop = s.hop ∧ s.abortCurrent.chk = s.chk ∧ s.abortCurrent.soak = s.soak ∧
    s.abortCurrent.handover = s.handover ∧ s.abortCurrent.supply = s.supply := by
  dsimp only [State.abortCurrent]; repeat' split
  all_goals (first | done | simp)

@[simp] theorem State.exitMargin_frame (s : State) :
    s.exitMargin.pending = s.pending ∧ s.exitMargin.draws = s.draws ∧ s.exitMargin.time = s.time ∧
    s.exitMargin.station = s.station ∧ s.exitMargin.settings = s.settings ∧ s.exitMargin.level = s.level ∧
    s.exitMargin.ident = s.ident ∧ s.exitMargin.pos = s.pos ∧ s.exitMargin.map = s.map ∧ s.exitMargin.lobe = s.lobe ∧
    s.exitMargin.cue = s.cue ∧ s.exitMargin.route = s.route ∧ s.exitMargin.hop = s.hop ∧ s.exitMargin.chk = s.chk ∧
    s.exitMargin.soak = s.soak ∧ s.exitMargin.handover = s.handover ∧ s.exitMargin.supply = s.supply := by
  dsimp only [State.exitMargin]; repeat' split
  all_goals (first | done | simp)

@[simp] theorem State.rerun_frame (s : State) :
    s.rerun.pending = s.pending ∧ s.rerun.time = s.time ∧ s.rerun.station = s.station ∧
    s.rerun.settings = s.settings ∧ s.rerun.level = s.level ∧ s.rerun.ident = s.ident ∧ s.rerun.pos = s.pos ∧
    s.rerun.map = s.map ∧ s.rerun.lobe = s.lobe ∧ s.rerun.cue = s.cue ∧ s.rerun.hop = s.hop ∧ s.rerun.chk = s.chk ∧
    s.rerun.soak = s.soak ∧ s.rerun.handover = s.handover ∧ s.rerun.site = s.site ∧ s.rerun.supply = s.supply := by
  dsimp only [State.rerun]; repeat' split
  all_goals (first | done | simp)

@[simp] theorem State.setOverall_frame (h : HandoverRecord) (v : Overall) (s : State) :
    (s.setOverall h v).pending = s.pending ∧ (s.setOverall h v).draws = s.draws ∧ (s.setOverall h v).time = s.time ∧
    (s.setOverall h v).station = s.station ∧ (s.setOverall h v).settings = s.settings ∧
    (s.setOverall h v).level = s.level ∧ (s.setOverall h v).ident = s.ident ∧ (s.setOverall h v).pos = s.pos ∧
    (s.setOverall h v).map = s.map ∧ (s.setOverall h v).lobe = s.lobe ∧ (s.setOverall h v).cue = s.cue ∧
    (s.setOverall h v).route = s.route ∧ (s.setOverall h v).hop = s.hop ∧ (s.setOverall h v).src = s.src ∧
    (s.setOverall h v).chk = s.chk ∧ (s.setOverall h v).soak = s.soak ∧ (s.setOverall h v).margin = s.margin ∧
    (s.setOverall h v).supply = s.supply := by
  dsimp only [State.setOverall]
  all_goals (first | done | simp)

@[simp] theorem State.decideHandover_frame (h : HandoverRecord) (s : State) :
    (s.decideHandover h).pending = s.pending ∧ (s.decideHandover h).draws = s.draws ∧
    (s.decideHandover h).time = s.time ∧ (s.decideHandover h).station = s.station ∧
    (s.decideHandover h).settings = s.settings ∧ (s.decideHandover h).level = s.level ∧
    (s.decideHandover h).ident = s.ident ∧ (s.decideHandover h).pos = s.pos ∧ (s.decideHandover h).map = s.map ∧
    (s.decideHandover h).lobe = s.lobe ∧ (s.decideHandover h).cue = s.cue ∧ (s.decideHandover h).route = s.route ∧
    (s.decideHandover h).hop = s.hop ∧ (s.decideHandover h).src = s.src ∧ (s.decideHandover h).chk = s.chk ∧
    (s.decideHandover h).soak = s.soak ∧ (s.decideHandover h).margin = s.margin ∧
    (s.decideHandover h).supply = s.supply := by
  dsimp only [State.decideHandover]; repeat' split
  all_goals (first | done | simp)

@[simp] theorem State.openHandover_frame (s : State) :
    s.openHandover.pending = s.pending ∧ s.openHandover.draws = s.draws ∧ s.openHandover.time = s.time ∧
    s.openHandover.station = s.station ∧ s.openHandover.settings = s.settings ∧ s.openHandover.level = s.level ∧
    s.openHandover.ident = s.ident ∧ s.openHandover.pos = s.pos ∧ s.openHandover.map = s.map ∧
    s.openHandover.lobe = s.lobe ∧ s.openHandover.cue = s.cue ∧ s.openHandover.route = s.route ∧
    s.openHandover.hop = s.hop ∧ s.openHandover.src = s.src ∧ s.openHandover.chk = s.chk ∧
    s.openHandover.soak = s.soak ∧ s.openHandover.margin = s.margin ∧ s.openHandover.supply = s.supply := by
  dsimp only [State.openHandover]; repeat' split
  all_goals (first | done | simp)

@[simp] theorem State.handoverIncomplete_frame (s : State) :
    s.handoverIncomplete.pending = s.pending ∧ s.handoverIncomplete.draws = s.draws ∧
    s.handoverIncomplete.time = s.time ∧ s.handoverIncomplete.station = s.station ∧
    s.handoverIncomplete.settings = s.settings ∧ s.handoverIncomplete.level = s.level ∧
    s.handoverIncomplete.ident = s.ident ∧ s.handoverIncomplete.pos = s.pos ∧ s.handoverIncomplete.map = s.map ∧
    s.handoverIncomplete.lobe = s.lobe ∧ s.handoverIncomplete.cue = s.cue ∧ s.handoverIncomplete.route = s.route ∧
    s.handoverIncomplete.hop = s.hop ∧ s.handoverIncomplete.src = s.src ∧ s.handoverIncomplete.chk = s.chk ∧
    s.handoverIncomplete.soak = s.soak ∧ s.handoverIncomplete.margin = s.margin ∧
    s.handoverIncomplete.supply = s.supply := by
  dsimp only [State.handoverIncomplete]; repeat' split
  all_goals (first | done | simp)

@[simp] theorem State.digestToRecord_frame (d : HeldDigest) (s : State) :
    (s.digestToRecord d).pending = s.pending ∧ (s.digestToRecord d).draws = s.draws ∧
    (s.digestToRecord d).time = s.time ∧ (s.digestToRecord d).station = s.station ∧
    (s.digestToRecord d).settings = s.settings ∧ (s.digestToRecord d).level = s.level ∧
    (s.digestToRecord d).ident = s.ident ∧ (s.digestToRecord d).pos = s.pos ∧ (s.digestToRecord d).map = s.map ∧
    (s.digestToRecord d).lobe = s.lobe ∧ (s.digestToRecord d).cue = s.cue ∧ (s.digestToRecord d).route = s.route ∧
    (s.digestToRecord d).hop = s.hop ∧ (s.digestToRecord d).src = s.src ∧ (s.digestToRecord d).chk = s.chk ∧
    (s.digestToRecord d).soak = s.soak ∧ (s.digestToRecord d).margin = s.margin ∧
    (s.digestToRecord d).supply = s.supply := by
  dsimp only [State.digestToRecord]; repeat' split
  all_goals (first | done | simp)

@[simp] theorem State.takeDigest_frame (b : DigestBody) (s : State) :
    (s.takeDigest b).pending = s.pending ∧ (s.takeDigest b).draws = s.draws ∧ (s.takeDigest b).time = s.time ∧
    (s.takeDigest b).station = s.station ∧ (s.takeDigest b).settings = s.settings ∧
    (s.takeDigest b).level = s.level ∧ (s.takeDigest b).ident = s.ident ∧ (s.takeDigest b).pos = s.pos ∧
    (s.takeDigest b).map = s.map ∧ (s.takeDigest b).lobe = s.lobe ∧ (s.takeDigest b).cue = s.cue ∧
    (s.takeDigest b).route = s.route ∧ (s.takeDigest b).hop = s.hop ∧ (s.takeDigest b).src = s.src ∧
    (s.takeDigest b).chk = s.chk ∧ (s.takeDigest b).margin = s.margin ∧ (s.takeDigest b).supply = s.supply := by
  dsimp only [State.takeDigest]; repeat' split
  all_goals (first | done | simp)

@[simp] theorem State.refreshPartner_frame (s : State) :
    s.refreshPartner.pending = s.pending ∧ s.refreshPartner.draws = s.draws ∧ s.refreshPartner.time = s.time ∧
    s.refreshPartner.station = s.station ∧ s.refreshPartner.settings = s.settings ∧
    s.refreshPartner.level = s.level ∧ s.refreshPartner.ident = s.ident ∧ s.refreshPartner.pos = s.pos ∧
    s.refreshPartner.map = s.map ∧ s.refreshPartner.lobe = s.lobe ∧ s.refreshPartner.cue = s.cue ∧
    s.refreshPartner.hop = s.hop ∧ s.refreshPartner.src = s.src ∧ s.refreshPartner.chk = s.chk ∧
    s.refreshPartner.soak = s.soak ∧ s.refreshPartner.margin = s.margin ∧ s.refreshPartner.supply = s.supply := by
  dsimp only [State.refreshPartner]; repeat' split
  all_goals (first | done | simp)

@[simp] theorem State.decideConflict_frame (s : State) :
    s.decideConflict.pending = s.pending ∧ s.decideConflict.draws = s.draws ∧ s.decideConflict.time = s.time ∧
    s.decideConflict.station = s.station ∧ s.decideConflict.settings = s.settings ∧
    s.decideConflict.level = s.level ∧ s.decideConflict.ident = s.ident ∧ s.decideConflict.pos = s.pos ∧
    s.decideConflict.map = s.map ∧ s.decideConflict.lobe = s.lobe ∧ s.decideConflict.cue = s.cue ∧
    s.decideConflict.hop = s.hop ∧ s.decideConflict.src = s.src ∧ s.decideConflict.chk = s.chk ∧
    s.decideConflict.soak = s.soak ∧ s.decideConflict.margin = s.margin ∧ s.decideConflict.handover = s.handover ∧
    s.decideConflict.supply = s.supply := by
  dsimp only [State.decideConflict]; repeat' split
  all_goals (first | done | simp)

@[simp] theorem State.partnerEntryChanged_frame (s : State) :
    s.partnerEntryChanged.pending = s.pending ∧ s.partnerEntryChanged.time = s.time ∧
    s.partnerEntryChanged.station = s.station ∧ s.partnerEntryChanged.settings = s.settings ∧
    s.partnerEntryChanged.level = s.level ∧ s.partnerEntryChanged.ident = s.ident ∧
    s.partnerEntryChanged.pos = s.pos ∧ s.partnerEntryChanged.map = s.map ∧ s.partnerEntryChanged.lobe = s.lobe ∧
    s.partnerEntryChanged.cue = s.cue ∧ s.partnerEntryChanged.hop = s.hop ∧ s.partnerEntryChanged.src = s.src ∧
    s.partnerEntryChanged.chk = s.chk ∧ s.partnerEntryChanged.soak = s.soak ∧
    s.partnerEntryChanged.margin = s.margin ∧ s.partnerEntryChanged.supply = s.supply := by
  dsimp only [State.partnerEntryChanged]
  all_goals (first | done | simp)

@[simp] theorem State.noteClash_frame (kind : Option FrameKind) (hop : Nat) (e : HopEnd) (s : State) :
    (s.noteClash kind hop e).pending = s.pending ∧ (s.noteClash kind hop e).draws = s.draws ∧
    (s.noteClash kind hop e).time = s.time ∧ (s.noteClash kind hop e).station = s.station ∧
    (s.noteClash kind hop e).settings = s.settings ∧ (s.noteClash kind hop e).level = s.level ∧
    (s.noteClash kind hop e).ident = s.ident ∧ (s.noteClash kind hop e).pos = s.pos ∧
    (s.noteClash kind hop e).map = s.map ∧ (s.noteClash kind hop e).lobe = s.lobe ∧
    (s.noteClash kind hop e).cue = s.cue ∧ (s.noteClash kind hop e).hop = s.hop ∧
    (s.noteClash kind hop e).src = s.src ∧ (s.noteClash kind hop e).chk = s.chk ∧
    (s.noteClash kind hop e).soak = s.soak ∧ (s.noteClash kind hop e).margin = s.margin ∧
    (s.noteClash kind hop e).handover = s.handover ∧ (s.noteClash kind hop e).supply = s.supply := by
  dsimp only [State.noteClash]; repeat' split
  all_goals (first | done | simp)

@[simp] theorem State.settleRoster_frame (st : Station) (s : State) :
    (s.settleRoster st).pending = s.pending ∧ (s.settleRoster st).time = s.time ∧
    (s.settleRoster st).station = s.station ∧ (s.settleRoster st).settings = s.settings ∧
    (s.settleRoster st).level = s.level ∧ (s.settleRoster st).ident = s.ident ∧ (s.settleRoster st).pos = s.pos ∧
    (s.settleRoster st).map = s.map ∧ (s.settleRoster st).lobe = s.lobe ∧ (s.settleRoster st).cue = s.cue ∧
    (s.settleRoster st).hop = s.hop ∧ (s.settleRoster st).src = s.src ∧ (s.settleRoster st).chk = s.chk ∧
    (s.settleRoster st).soak = s.soak ∧ (s.settleRoster st).margin = s.margin ∧ (s.settleRoster st).supply = s.supply := by
  dsimp only [State.settleRoster]; repeat' split
  all_goals (first | done | simp)

@[simp] theorem State.leaveBlocks_frame (left : Phase) (s : State) :
    (s.leaveBlocks left).pending = s.pending ∧ (s.leaveBlocks left).draws = s.draws ∧
    (s.leaveBlocks left).time = s.time ∧ (s.leaveBlocks left).station = s.station ∧
    (s.leaveBlocks left).settings = s.settings ∧ (s.leaveBlocks left).level = s.level ∧
    (s.leaveBlocks left).ident = s.ident ∧ (s.leaveBlocks left).pos = s.pos ∧ (s.leaveBlocks left).map = s.map ∧
    (s.leaveBlocks left).cue = s.cue ∧ (s.leaveBlocks left).route = s.route ∧ (s.leaveBlocks left).hop = s.hop ∧
    (s.leaveBlocks left).src = s.src ∧ (s.leaveBlocks left).chk = s.chk ∧ (s.leaveBlocks left).margin = s.margin ∧
    (s.leaveBlocks left).supply = s.supply := by
  dsimp only [State.leaveBlocks]; repeat' split
  all_goals (first | done | simp)

@[simp] theorem State.enterBeacon_frame (s : State) :
    s.enterBeacon.pending = s.pending ∧ s.enterBeacon.draws = s.draws ∧ s.enterBeacon.time = s.time ∧
    s.enterBeacon.station = s.station ∧ s.enterBeacon.settings = s.settings ∧ s.enterBeacon.level = s.level ∧
    s.enterBeacon.pos = s.pos ∧ s.enterBeacon.map = s.map ∧ s.enterBeacon.lobe = s.lobe ∧ s.enterBeacon.cue = s.cue ∧
    s.enterBeacon.route = s.route ∧ s.enterBeacon.hop = s.hop ∧ s.enterBeacon.chk = s.chk ∧
    s.enterBeacon.soak = s.soak ∧ s.enterBeacon.margin = s.margin ∧ s.enterBeacon.handover = s.handover ∧
    s.enterBeacon.supply = s.supply := by
  dsimp only [State.enterBeacon]
  all_goals (first | done | simp)

@[simp] theorem State.enterSweep_frame (role : Antenna) (s : State) :
    (s.enterSweep role).pending = s.pending ∧ (s.enterSweep role).draws = s.draws ∧
    (s.enterSweep role).time = s.time ∧ (s.enterSweep role).station = s.station ∧
    (s.enterSweep role).settings = s.settings ∧ (s.enterSweep role).cue = s.cue ∧
    (s.enterSweep role).route = s.route ∧ (s.enterSweep role).hop = s.hop ∧ (s.enterSweep role).chk = s.chk ∧
    (s.enterSweep role).soak = s.soak ∧ (s.enterSweep role).margin = s.margin ∧
    (s.enterSweep role).handover = s.handover ∧ (s.enterSweep role).supply = s.supply := by
  dsimp only [State.enterSweep]
  all_goals (first | done | simp)

@[simp] theorem State.enterConfirm_frame (id : ProposalId) (s : State) :
    (s.enterConfirm id).pending = s.pending ∧ (s.enterConfirm id).draws = s.draws ∧
    (s.enterConfirm id).time = s.time ∧ (s.enterConfirm id).station = s.station ∧
    (s.enterConfirm id).settings = s.settings ∧ (s.enterConfirm id).level = s.level ∧
    (s.enterConfirm id).pos = s.pos ∧ (s.enterConfirm id).cue = s.cue ∧ (s.enterConfirm id).route = s.route ∧
    (s.enterConfirm id).hop = s.hop ∧ (s.enterConfirm id).chk = s.chk ∧ (s.enterConfirm id).soak = s.soak ∧
    (s.enterConfirm id).margin = s.margin ∧ (s.enterConfirm id).handover = s.handover ∧
    (s.enterConfirm id).supply = s.supply := by
  dsimp only [State.enterConfirm]
  all_goals (first | done | simp)

@[simp] theorem State.enterSoak_frame (s : State) :
    s.enterSoak.pending = s.pending ∧ s.enterSoak.draws = s.draws ∧ s.enterSoak.time = s.time ∧
    s.enterSoak.station = s.station ∧ s.enterSoak.settings = s.settings ∧ s.enterSoak.level = s.level ∧
    s.enterSoak.pos = s.pos ∧ s.enterSoak.map = s.map ∧ s.enterSoak.lobe = s.lobe ∧ s.enterSoak.cue = s.cue ∧
    s.enterSoak.route = s.route ∧ s.enterSoak.hop = s.hop ∧ s.enterSoak.chk = s.chk ∧ s.enterSoak.margin = s.margin ∧
    s.enterSoak.handover = s.handover ∧ s.enterSoak.supply = s.supply := by
  dsimp only [State.enterSoak]
  all_goals (first | done | simp)

@[simp] theorem State.enterMargin_frame (s : State) :
    s.enterMargin.pending = s.pending ∧ s.enterMargin.time = s.time ∧ s.enterMargin.station = s.station ∧
    s.enterMargin.settings = s.settings ∧ s.enterMargin.level = s.level ∧ s.enterMargin.pos = s.pos ∧
    s.enterMargin.map = s.map ∧ s.enterMargin.lobe = s.lobe ∧ s.enterMargin.cue = s.cue ∧ s.enterMargin.hop = s.hop ∧
    s.enterMargin.chk = s.chk ∧ s.enterMargin.handover = s.handover ∧ s.enterMargin.supply = s.supply := by
  dsimp only [State.enterMargin]
  all_goals (first | done | simp)

@[simp] theorem State.enterHandover_frame (s : State) :
    s.enterHandover.pending = s.pending ∧ s.enterHandover.time = s.time ∧ s.enterHandover.station = s.station ∧
    s.enterHandover.settings = s.settings ∧ s.enterHandover.level = s.level ∧ s.enterHandover.pos = s.pos ∧
    s.enterHandover.map = s.map ∧ s.enterHandover.lobe = s.lobe ∧ s.enterHandover.cue = s.cue ∧
    s.enterHandover.hop = s.hop ∧ s.enterHandover.chk = s.chk ∧ s.enterHandover.supply = s.supply := by
  dsimp only [State.enterHandover]
  all_goals (first | done | simp)

@[simp] theorem State.enterHalted_frame (s : State) :
    s.enterHalted.pending = s.pending ∧ s.enterHalted.time = s.time ∧ s.enterHalted.station = s.station ∧
    s.enterHalted.settings = s.settings ∧ s.enterHalted.level = s.level ∧ s.enterHalted.pos = s.pos ∧
    s.enterHalted.lobe = s.lobe ∧ s.enterHalted.cue = s.cue ∧ s.enterHalted.hop = s.hop ∧ s.enterHalted.chk = s.chk ∧
    s.enterHalted.handover = s.handover ∧ s.enterHalted.supply = s.supply := by
  dsimp only [State.enterHalted]
  all_goals (first | done | simp)

@[simp] theorem State.enterBlocks_frame (target : Phase) (id : Option ProposalId) (role : Antenna) (s : State) :
    (s.enterBlocks target id role).pending = s.pending ∧ (s.enterBlocks target id role).time = s.time ∧
    (s.enterBlocks target id role).station = s.station ∧ (s.enterBlocks target id role).settings = s.settings ∧
    (s.enterBlocks target id role).cue = s.cue ∧ (s.enterBlocks target id role).hop = s.hop ∧
    (s.enterBlocks target id role).chk = s.chk ∧ (s.enterBlocks target id role).supply = s.supply := by
  dsimp only [State.enterBlocks]; repeat' split
  all_goals (first | done | simp)

@[simp] theorem State.switchProfile_frame (was : Profile) (s : State) :
    (s.switchProfile was).pending = s.pending ∧ (s.switchProfile was).draws = s.draws ∧
    (s.switchProfile was).time = s.time ∧ (s.switchProfile was).station = s.station ∧
    (s.switchProfile was).settings = s.settings ∧ (s.switchProfile was).ident = s.ident ∧
    (s.switchProfile was).pos = s.pos ∧ (s.switchProfile was).map = s.map ∧ (s.switchProfile was).lobe = s.lobe ∧
    (s.switchProfile was).cue = s.cue ∧ (s.switchProfile was).route = s.route ∧ (s.switchProfile was).hop = s.hop ∧
    (s.switchProfile was).src = s.src ∧ (s.switchProfile was).chk = s.chk ∧ (s.switchProfile was).soak = s.soak ∧
    (s.switchProfile was).margin = s.margin ∧ (s.switchProfile was).handover = s.handover ∧
    (s.switchProfile was).site = s.site ∧ (s.switchProfile was).supply = s.supply := by
  dsimp only [State.switchProfile]; repeat' split
  all_goals (first | done | simp)

@[simp] theorem State.signalProposal_frame (number : Nat) (target : Phase) (o : ProposalOutcome) (r : Option DeclineReason) (s : State) :
    (s.signalProposal number target o r).pending = s.pending ∧ (s.signalProposal number target o r).draws = s.draws ∧
    (s.signalProposal number target o r).time = s.time ∧ (s.signalProposal number target o r).station = s.station ∧
    (s.signalProposal number target o r).settings = s.settings ∧
    (s.signalProposal number target o r).level = s.level ∧ (s.signalProposal number target o r).ident = s.ident ∧
    (s.signalProposal number target o r).pos = s.pos ∧ (s.signalProposal number target o r).map = s.map ∧
    (s.signalProposal number target o r).lobe = s.lobe ∧ (s.signalProposal number target o r).cue = s.cue ∧
    (s.signalProposal number target o r).route = s.route ∧ (s.signalProposal number target o r).hop = s.hop ∧
    (s.signalProposal number target o r).src = s.src ∧ (s.signalProposal number target o r).chk = s.chk ∧
    (s.signalProposal number target o r).soak = s.soak ∧ (s.signalProposal number target o r).margin = s.margin ∧
    (s.signalProposal number target o r).handover = s.handover ∧
    (s.signalProposal number target o r).supply = s.supply := by
  dsimp only [State.signalProposal]
  all_goals (first | done | simp)

@[simp] theorem State.cancelOutstanding_frame (settled : Bool) (s : State) :
    (s.cancelOutstanding settled).pending = s.pending ∧ (s.cancelOutstanding settled).draws = s.draws ∧
    (s.cancelOutstanding settled).time = s.time ∧ (s.cancelOutstanding settled).station = s.station ∧
    (s.cancelOutstanding settled).settings = s.settings ∧ (s.cancelOutstanding settled).level = s.level ∧
    (s.cancelOutstanding settled).ident = s.ident ∧ (s.cancelOutstanding settled).pos = s.pos ∧
    (s.cancelOutstanding settled).map = s.map ∧ (s.cancelOutstanding settled).lobe = s.lobe ∧
    (s.cancelOutstanding settled).cue = s.cue ∧ (s.cancelOutstanding settled).route = s.route ∧
    (s.cancelOutstanding settled).hop = s.hop ∧ (s.cancelOutstanding settled).src = s.src ∧
    (s.cancelOutstanding settled).chk = s.chk ∧ (s.cancelOutstanding settled).soak = s.soak ∧
    (s.cancelOutstanding settled).margin = s.margin ∧ (s.cancelOutstanding settled).handover = s.handover ∧
    (s.cancelOutstanding settled).supply = s.supply := by
  dsimp only [State.cancelOutstanding]; repeat' split
  all_goals (first | done | simp)

@[simp] theorem State.enterPhase_frame (target : Phase) (cause : EntryCause) (id : Option ProposalId) (role : Antenna) (settled : Bool) (s : State) :
    (s.enterPhase target cause id role settled).pending = s.pending ∧
    (s.enterPhase target cause id role settled).time = s.time ∧
    (s.enterPhase target cause id role settled).station = s.station ∧
    (s.enterPhase target cause id role settled).settings = s.settings ∧
    (s.enterPhase target cause id role settled).cue = s.cue ∧
    (s.enterPhase target cause id role settled).chk = s.chk ∧
    (s.enterPhase target cause id role settled).supply = s.supply := by
  dsimp only [State.enterPhase]
  all_goals (first | done | simp)

@[simp] theorem State.halt_frame (c : HaltCause) (s : State) :
    (s.halt c).pending = s.pending ∧ (s.halt c).time = s.time ∧ (s.halt c).station = s.station ∧
    (s.halt c).settings = s.settings ∧ (s.halt c).cue = s.cue ∧ (s.halt c).chk = s.chk ∧ (s.halt c).supply = s.supply := by
  dsimp only [State.halt]
  all_goals (first | done | simp)

@[simp] theorem State.propose_frame (target : Phase) (role : Antenna) (automatic : Bool) (s : State) :
    (s.propose target role automatic).pending = s.pending ∧ (s.propose target role automatic).time = s.time ∧
    (s.propose target role automatic).station = s.station ∧ (s.propose target role automatic).settings = s.settings ∧
    (s.propose target role automatic).level = s.level ∧ (s.propose target role automatic).ident = s.ident ∧
    (s.propose target role automatic).pos = s.pos ∧ (s.propose target role automatic).map = s.map ∧
    (s.propose target role automatic).lobe = s.lobe ∧ (s.propose target role automatic).cue = s.cue ∧
    (s.propose target role automatic).src = s.src ∧ (s.propose target role automatic).chk = s.chk ∧
    (s.propose target role automatic).soak = s.soak ∧ (s.propose target role automatic).margin = s.margin ∧
    (s.propose target role automatic).handover = s.handover ∧ (s.propose target role automatic).site = s.site ∧
    (s.propose target role automatic).supply = s.supply := by
  dsimp only [State.propose]
  all_goals (first | done | simp)

@[simp] theorem State.endProposal_frame (s : State) :
    s.endProposal.pending = s.pending ∧ s.endProposal.draws = s.draws ∧ s.endProposal.time = s.time ∧
    s.endProposal.station = s.station ∧ s.endProposal.settings = s.settings ∧ s.endProposal.level = s.level ∧
    s.endProposal.ident = s.ident ∧ s.endProposal.pos = s.pos ∧ s.endProposal.map = s.map ∧
    s.endProposal.lobe = s.lobe ∧ s.endProposal.cue = s.cue ∧ s.endProposal.src = s.src ∧ s.endProposal.chk = s.chk ∧
    s.endProposal.soak = s.soak ∧ s.endProposal.margin = s.margin ∧ s.endProposal.handover = s.handover ∧
    s.endProposal.site = s.site ∧ s.endProposal.supply = s.supply := by
  dsimp only [State.endProposal]
  all_goals (first | done | simp)

@[simp] theorem State.startAutoTimer_frame (p : Proposal) (s : State) :
    (s.startAutoTimer p).pending = s.pending ∧ (s.startAutoTimer p).draws = s.draws ∧
    (s.startAutoTimer p).time = s.time ∧ (s.startAutoTimer p).station = s.station ∧
    (s.startAutoTimer p).settings = s.settings ∧ (s.startAutoTimer p).level = s.level ∧
    (s.startAutoTimer p).ident = s.ident ∧ (s.startAutoTimer p).pos = s.pos ∧ (s.startAutoTimer p).map = s.map ∧
    (s.startAutoTimer p).lobe = s.lobe ∧ (s.startAutoTimer p).cue = s.cue ∧ (s.startAutoTimer p).route = s.route ∧
    (s.startAutoTimer p).src = s.src ∧ (s.startAutoTimer p).chk = s.chk ∧ (s.startAutoTimer p).soak = s.soak ∧
    (s.startAutoTimer p).margin = s.margin ∧ (s.startAutoTimer p).handover = s.handover ∧
    (s.startAutoTimer p).site = s.site ∧ (s.startAutoTimer p).supply = s.supply := by
  dsimp only [State.startAutoTimer]; repeat' split
  all_goals (first | done | simp)

@[simp] theorem State.closeProposal_frame (p : Proposal) (o : ProposalOutcome) (r : Option DeclineReason) (s : State) :
    (s.closeProposal p o r).pending = s.pending ∧ (s.closeProposal p o r).draws = s.draws ∧
    (s.closeProposal p o r).time = s.time ∧ (s.closeProposal p o r).station = s.station ∧
    (s.closeProposal p o r).settings = s.settings ∧ (s.closeProposal p o r).level = s.level ∧
    (s.closeProposal p o r).ident = s.ident ∧ (s.closeProposal p o r).pos = s.pos ∧
    (s.closeProposal p o r).map = s.map ∧ (s.closeProposal p o r).lobe = s.lobe ∧
    (s.closeProposal p o r).cue = s.cue ∧ (s.closeProposal p o r).src = s.src ∧ (s.closeProposal p o r).chk = s.chk ∧
    (s.closeProposal p o r).soak = s.soak ∧ (s.closeProposal p o r).margin = s.margin ∧
    (s.closeProposal p o r).handover = s.handover ∧ (s.closeProposal p o r).supply = s.supply := by
  dsimp only [State.closeProposal]
  all_goals (first | done | simp)

@[simp] theorem State.resend_frame (p : Proposal) (s : State) :
    (s.resend p).pending = s.pending ∧ (s.resend p).time = s.time ∧ (s.resend p).station = s.station ∧
    (s.resend p).settings = s.settings ∧ (s.resend p).level = s.level ∧ (s.resend p).ident = s.ident ∧
    (s.resend p).pos = s.pos ∧ (s.resend p).map = s.map ∧ (s.resend p).lobe = s.lobe ∧ (s.resend p).cue = s.cue ∧
    (s.resend p).src = s.src ∧ (s.resend p).chk = s.chk ∧ (s.resend p).soak = s.soak ∧
    (s.resend p).margin = s.margin ∧ (s.resend p).handover = s.handover ∧ (s.resend p).site = s.site ∧
    (s.resend p).supply = s.supply := by
  dsimp only [State.resend]
  all_goals (first | done | simp)

@[simp] theorem State.failProposal_frame (p : Proposal) (s : State) :
    (s.failProposal p).pending = s.pending ∧ (s.failProposal p).draws = s.draws ∧ (s.failProposal p).time = s.time ∧
    (s.failProposal p).station = s.station ∧ (s.failProposal p).settings = s.settings ∧
    (s.failProposal p).level = s.level ∧ (s.failProposal p).ident = s.ident ∧ (s.failProposal p).pos = s.pos ∧
    (s.failProposal p).map = s.map ∧ (s.failProposal p).lobe = s.lobe ∧ (s.failProposal p).cue = s.cue ∧
    (s.failProposal p).src = s.src ∧ (s.failProposal p).chk = s.chk ∧ (s.failProposal p).soak = s.soak ∧
    (s.failProposal p).margin = s.margin ∧ (s.failProposal p).handover = s.handover ∧
    (s.failProposal p).supply = s.supply := by
  dsimp only [State.failProposal]
  all_goals (first | done | simp)

@[simp] theorem State.answerTimedOut_frame (s : State) :
    s.answerTimedOut.pending = s.pending ∧ s.answerTimedOut.time = s.time ∧ s.answerTimedOut.station = s.station ∧
    s.answerTimedOut.settings = s.settings ∧ s.answerTimedOut.level = s.level ∧ s.answerTimedOut.ident = s.ident ∧
    s.answerTimedOut.pos = s.pos ∧ s.answerTimedOut.map = s.map ∧ s.answerTimedOut.lobe = s.lobe ∧
    s.answerTimedOut.cue = s.cue ∧ s.answerTimedOut.src = s.src ∧ s.answerTimedOut.chk = s.chk ∧
    s.answerTimedOut.soak = s.soak ∧ s.answerTimedOut.margin = s.margin ∧ s.answerTimedOut.handover = s.handover ∧
    s.answerTimedOut.supply = s.supply := by
  dsimp only [State.answerTimedOut]; repeat' split
  all_goals (first | done | simp)

@[simp] theorem State.autoTry_frame (s : State) :
    s.autoTry.pending = s.pending ∧ s.autoTry.time = s.time ∧ s.autoTry.station = s.station ∧
    s.autoTry.settings = s.settings ∧ s.autoTry.level = s.level ∧ s.autoTry.ident = s.ident ∧ s.autoTry.pos = s.pos ∧
    s.autoTry.map = s.map ∧ s.autoTry.lobe = s.lobe ∧ s.autoTry.cue = s.cue ∧ s.autoTry.src = s.src ∧
    s.autoTry.chk = s.chk ∧ s.autoTry.soak = s.soak ∧ s.autoTry.margin = s.margin ∧ s.autoTry.handover = s.handover ∧
    s.autoTry.site = s.site ∧ s.autoTry.supply = s.supply := by
  dsimp only [State.autoTry]; repeat' split
  all_goals (first | done | simp)

@[simp] theorem State.autoOnset_frame (before after : State) :
    (State.autoOnset before after).pending = after.pending ∧ (State.autoOnset before after).time = after.time ∧
    (State.autoOnset before after).station = after.station ∧
    (State.autoOnset before after).settings = after.settings ∧ (State.autoOnset before after).level = after.level ∧
    (State.autoOnset before after).ident = after.ident ∧ (State.autoOnset before after).pos = after.pos ∧
    (State.autoOnset before after).map = after.map ∧ (State.autoOnset before after).lobe = after.lobe ∧
    (State.autoOnset before after).cue = after.cue ∧ (State.autoOnset before after).src = after.src ∧
    (State.autoOnset before after).chk = after.chk ∧ (State.autoOnset before after).soak = after.soak ∧
    (State.autoOnset before after).margin = after.margin ∧ (State.autoOnset before after).handover = after.handover ∧
    (State.autoOnset before after).site = after.site ∧ (State.autoOnset before after).supply = after.supply := by
  dsimp only [State.autoOnset]; split
  all_goals simp

@[simp] theorem State.autoExpired_frame (s : State) :
    s.autoExpired.pending = s.pending ∧ s.autoExpired.time = s.time ∧ s.autoExpired.station = s.station ∧
    s.autoExpired.settings = s.settings ∧ s.autoExpired.level = s.level ∧ s.autoExpired.ident = s.ident ∧
    s.autoExpired.pos = s.pos ∧ s.autoExpired.map = s.map ∧ s.autoExpired.lobe = s.lobe ∧ s.autoExpired.cue = s.cue ∧
    s.autoExpired.src = s.src ∧ s.autoExpired.chk = s.chk ∧ s.autoExpired.soak = s.soak ∧
    s.autoExpired.margin = s.margin ∧ s.autoExpired.handover = s.handover ∧ s.autoExpired.site = s.site ∧
    s.autoExpired.supply = s.supply := by
  dsimp only [State.autoExpired]
  all_goals (first | done | simp)

@[simp] theorem State.sendAnswer_frame (a : AnsweredRecord) (s : State) :
    (s.sendAnswer a).pending = s.pending ∧ (s.sendAnswer a).time = s.time ∧ (s.sendAnswer a).station = s.station ∧
    (s.sendAnswer a).settings = s.settings ∧ (s.sendAnswer a).level = s.level ∧ (s.sendAnswer a).ident = s.ident ∧
    (s.sendAnswer a).pos = s.pos ∧ (s.sendAnswer a).map = s.map ∧ (s.sendAnswer a).lobe = s.lobe ∧
    (s.sendAnswer a).cue = s.cue ∧ (s.sendAnswer a).hop = s.hop ∧ (s.sendAnswer a).src = s.src ∧
    (s.sendAnswer a).chk = s.chk ∧ (s.sendAnswer a).soak = s.soak ∧ (s.sendAnswer a).margin = s.margin ∧
    (s.sendAnswer a).handover = s.handover ∧ (s.sendAnswer a).site = s.site ∧ (s.sendAnswer a).supply = s.supply := by
  dsimp only [State.sendAnswer]
  all_goals (first | done | simp)

@[simp] theorem State.answer_frame (a : AnsweredRecord) (s : State) :
    (s.answer a).pending = s.pending ∧ (s.answer a).time = s.time ∧ (s.answer a).station = s.station ∧
    (s.answer a).settings = s.settings ∧ (s.answer a).level = s.level ∧ (s.answer a).ident = s.ident ∧
    (s.answer a).pos = s.pos ∧ (s.answer a).map = s.map ∧ (s.answer a).lobe = s.lobe ∧ (s.answer a).cue = s.cue ∧
    (s.answer a).src = s.src ∧ (s.answer a).chk = s.chk ∧ (s.answer a).soak = s.soak ∧
    (s.answer a).margin = s.margin ∧ (s.answer a).handover = s.handover ∧ (s.answer a).site = s.site ∧
    (s.answer a).supply = s.supply := by
  dsimp only [State.answer]
  all_goals (first | done | simp)

@[simp] theorem State.acceptProposal_frame (proposer : Nat) (b : ProposeBody) (settled : Bool) (s : State) :
    (s.acceptProposal proposer b settled).pending = s.pending ∧ (s.acceptProposal proposer b settled).time = s.time ∧
    (s.acceptProposal proposer b settled).station = s.station ∧
    (s.acceptProposal proposer b settled).settings = s.settings ∧ (s.acceptProposal proposer b settled).cue = s.cue ∧
    (s.acceptProposal proposer b settled).chk = s.chk ∧ (s.acceptProposal proposer b settled).supply = s.supply := by
  dsimp only [State.acceptProposal]
  all_goals (first | done | simp)

@[simp] theorem State.evaluateAndAnswer_frame (proposer : Nat) (b : ProposeBody) (s : State) :
    (s.evaluateAndAnswer proposer b).pending = s.pending ∧ (s.evaluateAndAnswer proposer b).time = s.time ∧
    (s.evaluateAndAnswer proposer b).station = s.station ∧ (s.evaluateAndAnswer proposer b).settings = s.settings ∧
    (s.evaluateAndAnswer proposer b).cue = s.cue ∧ (s.evaluateAndAnswer proposer b).chk = s.chk ∧
    (s.evaluateAndAnswer proposer b).supply = s.supply := by
  dsimp only [State.evaluateAndAnswer]; repeat' split
  all_goals (first | done | simp)

@[simp] theorem State.joinAlike_frame (proposer : Nat) (b : ProposeBody) (p : Proposal) (s : State) :
    (s.joinAlike proposer b p).pending = s.pending ∧ (s.joinAlike proposer b p).time = s.time ∧
    (s.joinAlike proposer b p).station = s.station ∧ (s.joinAlike proposer b p).settings = s.settings ∧
    (s.joinAlike proposer b p).cue = s.cue ∧ (s.joinAlike proposer b p).chk = s.chk ∧
    (s.joinAlike proposer b p).supply = s.supply := by
  dsimp only [State.joinAlike]; repeat' split
  all_goals (first | done | simp)

@[simp] theorem State.cross_frame (proposer : Nat) (b : ProposeBody) (p : Proposal) (s : State) :
    (s.cross proposer b p).pending = s.pending ∧ (s.cross proposer b p).time = s.time ∧
    (s.cross proposer b p).station = s.station ∧ (s.cross proposer b p).settings = s.settings ∧
    (s.cross proposer b p).cue = s.cue ∧ (s.cross proposer b p).chk = s.chk ∧ (s.cross proposer b p).supply = s.supply := by
  dsimp only [State.cross]; repeat' split
  all_goals (first | done | simp)

@[simp] theorem State.takePropose_frame (proposer : Nat) (b : ProposeBody) (s : State) :
    (s.takePropose proposer b).pending = s.pending ∧ (s.takePropose proposer b).time = s.time ∧
    (s.takePropose proposer b).station = s.station ∧ (s.takePropose proposer b).settings = s.settings ∧
    (s.takePropose proposer b).cue = s.cue ∧ (s.takePropose proposer b).chk = s.chk ∧
    (s.takePropose proposer b).supply = s.supply := by
  dsimp only [State.takePropose]; repeat' split
  all_goals (first | done | simp)

@[simp] theorem State.enterOwn_frame (number : Nat) (target : Phase) (role : Antenna) (cause : EntryCause) (settled : Bool) (s : State) :
    (s.enterOwn number target role cause settled).pending = s.pending ∧
    (s.enterOwn number target role cause settled).time = s.time ∧
    (s.enterOwn number target role cause settled).station = s.station ∧
    (s.enterOwn number target role cause settled).settings = s.settings ∧
    (s.enterOwn number target role cause settled).cue = s.cue ∧
    (s.enterOwn number target role cause settled).chk = s.chk ∧
    (s.enterOwn number target role cause settled).supply = s.supply := by
  dsimp only [State.enterOwn]
  all_goals (first | done | simp)

@[simp] theorem State.enterMatched_frame (number : Nat) (target : Phase) (cause : EntryCause) (s : State) :
    (s.enterMatched number target cause).pending = s.pending ∧ (s.enterMatched number target cause).time = s.time ∧
    (s.enterMatched number target cause).station = s.station ∧
    (s.enterMatched number target cause).settings = s.settings ∧ (s.enterMatched number target cause).cue = s.cue ∧
    (s.enterMatched number target cause).chk = s.chk ∧ (s.enterMatched number target cause).supply = s.supply := by
  dsimp only [State.enterMatched]; repeat' split
  all_goals (first | done | simp)

@[simp] theorem State.partnerHalt_frame (s : State) :
    s.partnerHalt.pending = s.pending ∧ s.partnerHalt.time = s.time ∧ s.partnerHalt.station = s.station ∧
    s.partnerHalt.settings = s.settings ∧ s.partnerHalt.cue = s.cue ∧ s.partnerHalt.chk = s.chk ∧
    s.partnerHalt.supply = s.supply := by
  dsimp only [State.partnerHalt]; repeat' split
  all_goals (first | done | simp)

@[simp] theorem State.takeDecline_frame (b : AnswerBody) (s : State) :
    (s.takeDecline b).pending = s.pending ∧ (s.takeDecline b).draws = s.draws ∧ (s.takeDecline b).time = s.time ∧
    (s.takeDecline b).station = s.station ∧ (s.takeDecline b).settings = s.settings ∧
    (s.takeDecline b).level = s.level ∧ (s.takeDecline b).ident = s.ident ∧ (s.takeDecline b).pos = s.pos ∧
    (s.takeDecline b).map = s.map ∧ (s.takeDecline b).lobe = s.lobe ∧ (s.takeDecline b).cue = s.cue ∧
    (s.takeDecline b).src = s.src ∧ (s.takeDecline b).chk = s.chk ∧ (s.takeDecline b).soak = s.soak ∧
    (s.takeDecline b).margin = s.margin ∧ (s.takeDecline b).handover = s.handover ∧
    (s.takeDecline b).supply = s.supply := by
  dsimp only [State.takeDecline]; repeat' split
  all_goals (first | done | simp)

@[simp] theorem State.takeAnswer_frame (b : AnswerBody) (s : State) :
    (s.takeAnswer b).pending = s.pending ∧ (s.takeAnswer b).time = s.time ∧ (s.takeAnswer b).station = s.station ∧
    (s.takeAnswer b).settings = s.settings ∧ (s.takeAnswer b).cue = s.cue ∧ (s.takeAnswer b).chk = s.chk ∧
    (s.takeAnswer b).supply = s.supply := by
  dsimp only [State.takeAnswer]; repeat' split
  all_goals (first | done | simp)

@[simp] theorem State.catchUp_frame (b : StatusBody) (s : State) :
    (s.catchUp b).pending = s.pending ∧ (s.catchUp b).time = s.time ∧ (s.catchUp b).station = s.station ∧
    (s.catchUp b).settings = s.settings ∧ (s.catchUp b).cue = s.cue ∧ (s.catchUp b).chk = s.chk ∧
    (s.catchUp b).supply = s.supply := by
  dsimp only [State.catchUp]; repeat' split
  all_goals (first | done | simp)

@[simp] theorem State.partnerRestarted_frame (s : State) :
    s.partnerRestarted.pending = s.pending ∧ s.partnerRestarted.time = s.time ∧
    s.partnerRestarted.station = s.station ∧ s.partnerRestarted.settings = s.settings ∧
    s.partnerRestarted.cue = s.cue ∧ s.partnerRestarted.chk = s.chk ∧ s.partnerRestarted.supply = s.supply := by
  dsimp only [State.partnerRestarted]; repeat' split
  all_goals (first | done | simp)

@[simp] theorem State.haltsOf_frame (b : StatusBody) (s : State) :
    (s.haltsOf b).pending = s.pending ∧ (s.haltsOf b).time = s.time ∧ (s.haltsOf b).station = s.station ∧
    (s.haltsOf b).settings = s.settings ∧ (s.haltsOf b).cue = s.cue ∧ (s.haltsOf b).chk = s.chk ∧
    (s.haltsOf b).supply = s.supply := by
  dsimp only [State.haltsOf]; repeat' split
  all_goals (first | done | simp)

@[simp] theorem State.countMismatch_frame (b : StatusBody) (s : State) :
    (s.countMismatch b).pending = s.pending ∧ (s.countMismatch b).draws = s.draws ∧
    (s.countMismatch b).time = s.time ∧ (s.countMismatch b).station = s.station ∧
    (s.countMismatch b).settings = s.settings ∧ (s.countMismatch b).level = s.level ∧
    (s.countMismatch b).ident = s.ident ∧ (s.countMismatch b).pos = s.pos ∧ (s.countMismatch b).map = s.map ∧
    (s.countMismatch b).lobe = s.lobe ∧ (s.countMismatch b).cue = s.cue ∧ (s.countMismatch b).route = s.route ∧
    (s.countMismatch b).src = s.src ∧ (s.countMismatch b).chk = s.chk ∧ (s.countMismatch b).soak = s.soak ∧
    (s.countMismatch b).margin = s.margin ∧ (s.countMismatch b).handover = s.handover ∧
    (s.countMismatch b).supply = s.supply := by
  dsimp only [State.countMismatch]; repeat' split
  all_goals (first | done | simp)

@[simp] theorem State.takeStatus_frame (b : StatusBody) (s : State) :
    (s.takeStatus b).pending = s.pending ∧ (s.takeStatus b).time = s.time ∧ (s.takeStatus b).station = s.station ∧
    (s.takeStatus b).settings = s.settings ∧ (s.takeStatus b).cue = s.cue ∧ (s.takeStatus b).chk = s.chk ∧
    (s.takeStatus b).supply = s.supply := by
  dsimp only [State.takeStatus]; repeat' split
  all_goals (first | done | simp)

@[simp] theorem State.countMalformed_frame (s : State) :
    s.countMalformed.pending = s.pending ∧ s.countMalformed.draws = s.draws ∧ s.countMalformed.time = s.time ∧
    s.countMalformed.station = s.station ∧ s.countMalformed.settings = s.settings ∧
    s.countMalformed.level = s.level ∧ s.countMalformed.ident = s.ident ∧ s.countMalformed.pos = s.pos ∧
    s.countMalformed.map = s.map ∧ s.countMalformed.lobe = s.lobe ∧ s.countMalformed.cue = s.cue ∧
    s.countMalformed.hop = s.hop ∧ s.countMalformed.src = s.src ∧ s.countMalformed.chk = s.chk ∧
    s.countMalformed.soak = s.soak ∧ s.countMalformed.margin = s.margin ∧ s.countMalformed.handover = s.handover ∧
    s.countMalformed.site = s.site ∧ s.countMalformed.supply = s.supply := by
  dsimp only [State.countMalformed]
  all_goals (first | done | simp)

@[simp] theorem State.hearFrame_frame (f : Frame) (s : State) :
    (s.hearFrame f).pending = s.pending ∧ (s.hearFrame f).draws = s.draws ∧ (s.hearFrame f).time = s.time ∧
    (s.hearFrame f).station = s.station ∧ (s.hearFrame f).settings = s.settings ∧ (s.hearFrame f).level = s.level ∧
    (s.hearFrame f).ident = s.ident ∧ (s.hearFrame f).pos = s.pos ∧ (s.hearFrame f).map = s.map ∧
    (s.hearFrame f).lobe = s.lobe ∧ (s.hearFrame f).cue = s.cue ∧ (s.hearFrame f).hop = s.hop ∧
    (s.hearFrame f).src = s.src ∧ (s.hearFrame f).chk = s.chk ∧ (s.hearFrame f).soak = s.soak ∧
    (s.hearFrame f).margin = s.margin ∧ (s.hearFrame f).handover = s.handover ∧ (s.hearFrame f).site = s.site ∧
    (s.hearFrame f).supply = s.supply := by
  dsimp only [State.hearFrame]
  all_goals (first | done | simp)

@[simp] theorem State.hearPartner_frame (s : State) :
    s.hearPartner.pending = s.pending ∧ s.hearPartner.time = s.time ∧ s.hearPartner.station = s.station ∧
    s.hearPartner.settings = s.settings ∧ s.hearPartner.level = s.level ∧ s.hearPartner.ident = s.ident ∧
    s.hearPartner.pos = s.pos ∧ s.hearPartner.map = s.map ∧ s.hearPartner.lobe = s.lobe ∧ s.hearPartner.cue = s.cue ∧
    s.hearPartner.hop = s.hop ∧ s.hearPartner.src = s.src ∧ s.hearPartner.chk = s.chk ∧ s.hearPartner.soak = s.soak ∧
    s.hearPartner.supply = s.supply := by
  dsimp only [State.hearPartner]
  all_goals (first | done | simp)

@[simp] theorem State.receive_pending (f : Frame) (deliver : State → State) (h : ∀ x, (deliver x).pending = x.pending)
    (s : State) : (s.receive f deliver).pending = s.pending := by
  simp only [State.receive, State.judged, State.takeGood, State.deliverPartner]
  repeat' split
  all_goals simp [h]

@[simp] theorem State.receive_time (f : Frame) (deliver : State → State) (h : ∀ x, (deliver x).time = x.time)
    (s : State) : (s.receive f deliver).time = s.time := by
  simp only [State.receive, State.judged, State.takeGood, State.deliverPartner]
  repeat' split
  all_goals simp [h]

@[simp] theorem State.receive_station (f : Frame) (deliver : State → State) (h : ∀ x, (deliver x).station = x.station)
    (s : State) : (s.receive f deliver).station = s.station := by
  simp only [State.receive, State.judged, State.takeGood, State.deliverPartner]
  repeat' split
  all_goals simp [h]

@[simp] theorem State.receive_settings (f : Frame) (deliver : State → State) (h : ∀ x, (deliver x).settings = x.settings)
    (s : State) : (s.receive f deliver).settings = s.settings := by
  simp only [State.receive, State.judged, State.takeGood, State.deliverPartner]
  repeat' split
  all_goals simp [h]

@[simp] theorem State.receive_cue (f : Frame) (deliver : State → State) (h : ∀ x, (deliver x).cue = x.cue)
    (s : State) : (s.receive f deliver).cue = s.cue := by
  simp only [State.receive, State.judged, State.takeGood, State.deliverPartner]
  repeat' split
  all_goals simp [h]

@[simp] theorem State.receive_chk (f : Frame) (deliver : State → State) (h : ∀ x, (deliver x).chk = x.chk)
    (s : State) : (s.receive f deliver).chk = s.chk := by
  simp only [State.receive, State.judged, State.takeGood, State.deliverPartner]
  repeat' split
  all_goals simp [h]

@[simp] theorem State.receive_supply (f : Frame) (deliver : State → State) (h : ∀ x, (deliver x).supply = x.supply)
    (s : State) : (s.receive f deliver).supply = s.supply := by
  simp only [State.receive, State.judged, State.takeGood, State.deliverPartner]
  repeat' split
  all_goals simp [h]

@[simp] theorem State.deliverStatus_frame (b : StatusBody) (s : State) :
    (s.deliverStatus b).pending = s.pending ∧ (s.deliverStatus b).time = s.time ∧
    (s.deliverStatus b).station = s.station ∧ (s.deliverStatus b).settings = s.settings ∧
    (s.deliverStatus b).cue = s.cue ∧ (s.deliverStatus b).chk = s.chk ∧ (s.deliverStatus b).supply = s.supply := by
  dsimp only [State.deliverStatus]
  all_goals (first | done | simp)

@[simp] theorem State.deliverLimit_frame (b : MtestBody) (s : State) :
    (s.deliverLimit b).pending = s.pending ∧ (s.deliverLimit b).time = s.time ∧
    (s.deliverLimit b).station = s.station ∧ (s.deliverLimit b).settings = s.settings ∧
    (s.deliverLimit b).level = s.level ∧ (s.deliverLimit b).ident = s.ident ∧ (s.deliverLimit b).pos = s.pos ∧
    (s.deliverLimit b).map = s.map ∧ (s.deliverLimit b).lobe = s.lobe ∧ (s.deliverLimit b).cue = s.cue ∧
    (s.deliverLimit b).chk = s.chk ∧ (s.deliverLimit b).soak = s.soak ∧ (s.deliverLimit b).handover = s.handover ∧
    (s.deliverLimit b).supply = s.supply := by
  dsimp only [State.deliverLimit]
  all_goals (first | done | simp)

@[simp] theorem State.deliverDone_frame (b : MtestBody) (s : State) :
    (s.deliverDone b).pending = s.pending ∧ (s.deliverDone b).time = s.time ∧ (s.deliverDone b).station = s.station ∧
    (s.deliverDone b).settings = s.settings ∧ (s.deliverDone b).level = s.level ∧ (s.deliverDone b).ident = s.ident ∧
    (s.deliverDone b).pos = s.pos ∧ (s.deliverDone b).map = s.map ∧ (s.deliverDone b).lobe = s.lobe ∧
    (s.deliverDone b).cue = s.cue ∧ (s.deliverDone b).chk = s.chk ∧ (s.deliverDone b).soak = s.soak ∧
    (s.deliverDone b).handover = s.handover ∧ (s.deliverDone b).supply = s.supply := by
  dsimp only [State.deliverDone]
  all_goals (first | done | simp)

@[simp] theorem State.takeFrame_frame (f : Frame) (s : State) :
    (s.takeFrame f).pending = s.pending ∧ (s.takeFrame f).time = s.time ∧ (s.takeFrame f).station = s.station ∧
    (s.takeFrame f).settings = s.settings ∧ (s.takeFrame f).cue = s.cue ∧ (s.takeFrame f).chk = s.chk ∧
    (s.takeFrame f).supply = s.supply := by
  dsimp only [State.takeFrame]; repeat' split
  all_goals (first | done | simp)

@[simp] theorem State.takeJudged_frame (j : Judged) (s : State) :
    (s.takeJudged j).pending = s.pending ∧ (s.takeJudged j).time = s.time ∧ (s.takeJudged j).station = s.station ∧
    (s.takeJudged j).settings = s.settings ∧ (s.takeJudged j).cue = s.cue ∧ (s.takeJudged j).chk = s.chk ∧
    (s.takeJudged j).supply = s.supply := by
  dsimp only [State.takeJudged]; repeat' split
  all_goals (first | done | simp)

@[simp] theorem State.takeCharacter_frame (s : State) (b : Byte) :
    (s.takeCharacter b).pending = s.pending ∧ (s.takeCharacter b).time = s.time ∧
    (s.takeCharacter b).station = s.station ∧ (s.takeCharacter b).settings = s.settings ∧
    (s.takeCharacter b).cue = s.cue ∧ (s.takeCharacter b).chk = s.chk ∧ (s.takeCharacter b).supply = s.supply := by
  dsimp only [State.takeCharacter]; repeat' split
  all_goals (first | done | simp)

@[simp] theorem State.takeCharacters_frame (bytes : List Byte) (s : State) :
    (s.takeCharacters bytes).pending = s.pending ∧ (s.takeCharacters bytes).time = s.time ∧
    (s.takeCharacters bytes).station = s.station ∧ (s.takeCharacters bytes).settings = s.settings ∧
    (s.takeCharacters bytes).cue = s.cue ∧ (s.takeCharacters bytes).chk = s.chk ∧
    (s.takeCharacters bytes).supply = s.supply := by
  induction bytes generalizing s with
  | nil => simp [State.takeCharacters]
  | cons b bs ih =>
    have h := ih (s.takeCharacter b)
    simp only [State.takeCharacters, List.foldl_cons] at h ⊢
    simpa using h

@[simp] theorem State.takeGap_frame (s : State) :
    s.takeGap.pending = s.pending ∧ s.takeGap.draws = s.draws ∧ s.takeGap.time = s.time ∧
    s.takeGap.station = s.station ∧ s.takeGap.settings = s.settings ∧ s.takeGap.level = s.level ∧
    s.takeGap.ident = s.ident ∧ s.takeGap.pos = s.pos ∧ s.takeGap.map = s.map ∧ s.takeGap.lobe = s.lobe ∧
    s.takeGap.cue = s.cue ∧ s.takeGap.hop = s.hop ∧ s.takeGap.src = s.src ∧ s.takeGap.chk = s.chk ∧
    s.takeGap.soak = s.soak ∧ s.takeGap.margin = s.margin ∧ s.takeGap.handover = s.handover ∧
    s.takeGap.site = s.site ∧ s.takeGap.supply = s.supply := by
  dsimp only [State.takeGap]; split
  all_goals simp

@[simp] theorem State.takeGuardComplete_frame (s : State) :
    s.takeGuardComplete.pending = s.pending ∧ s.takeGuardComplete.time = s.time ∧
    s.takeGuardComplete.station = s.station ∧ s.takeGuardComplete.settings = s.settings ∧
    s.takeGuardComplete.level = s.level ∧ s.takeGuardComplete.ident = s.ident ∧ s.takeGuardComplete.pos = s.pos ∧
    s.takeGuardComplete.map = s.map ∧ s.takeGuardComplete.lobe = s.lobe ∧ s.takeGuardComplete.cue = s.cue ∧
    s.takeGuardComplete.hop = s.hop ∧ s.takeGuardComplete.src = s.src ∧ s.takeGuardComplete.chk = s.chk ∧
    s.takeGuardComplete.soak = s.soak ∧ s.takeGuardComplete.margin = s.margin ∧
    s.takeGuardComplete.handover = s.handover ∧ s.takeGuardComplete.site = s.site ∧
    s.takeGuardComplete.supply = s.supply := by
  dsimp only [State.takeGuardComplete]; repeat' split
  all_goals (first | done | simp)

@[simp] theorem State.takeSlotEnd_frame (s : State) :
    s.takeSlotEnd.pending = s.pending ∧ s.takeSlotEnd.draws = s.draws ∧ s.takeSlotEnd.time = s.time ∧
    s.takeSlotEnd.station = s.station ∧ s.takeSlotEnd.settings = s.settings ∧ s.takeSlotEnd.level = s.level ∧
    s.takeSlotEnd.ident = s.ident ∧ s.takeSlotEnd.pos = s.pos ∧ s.takeSlotEnd.map = s.map ∧
    s.takeSlotEnd.lobe = s.lobe ∧ s.takeSlotEnd.cue = s.cue ∧ s.takeSlotEnd.hop = s.hop ∧ s.takeSlotEnd.src = s.src ∧
    s.takeSlotEnd.chk = s.chk ∧ s.takeSlotEnd.soak = s.soak ∧ s.takeSlotEnd.margin = s.margin ∧
    s.takeSlotEnd.handover = s.handover ∧ s.takeSlotEnd.site = s.site ∧ s.takeSlotEnd.supply = s.supply := by
  dsimp only [State.takeSlotEnd]; repeat' split
  all_goals (first | done | simp)

@[simp] theorem State.finishTransmission_frame (s : State) :
    s.finishTransmission.pending = s.pending ∧ s.finishTransmission.time = s.time ∧
    s.finishTransmission.station = s.station ∧ s.finishTransmission.settings = s.settings ∧
    s.finishTransmission.level = s.level ∧ s.finishTransmission.ident = s.ident ∧ s.finishTransmission.pos = s.pos ∧
    s.finishTransmission.map = s.map ∧ s.finishTransmission.lobe = s.lobe ∧ s.finishTransmission.cue = s.cue ∧
    s.finishTransmission.hop = s.hop ∧ s.finishTransmission.src = s.src ∧ s.finishTransmission.chk = s.chk ∧
    s.finishTransmission.soak = s.soak ∧ s.finishTransmission.margin = s.margin ∧
    s.finishTransmission.handover = s.handover ∧ s.finishTransmission.site = s.site ∧
    s.finishTransmission.supply = s.supply := by
  dsimp only [State.finishTransmission]
  all_goals (first | done | simp)

@[simp] theorem State.settleTransmission_frame (s : State) :
    s.settleTransmission.pending = s.pending ∧ s.settleTransmission.time = s.time ∧
    s.settleTransmission.station = s.station ∧ s.settleTransmission.settings = s.settings ∧
    s.settleTransmission.level = s.level ∧ s.settleTransmission.ident = s.ident ∧ s.settleTransmission.pos = s.pos ∧
    s.settleTransmission.map = s.map ∧ s.settleTransmission.lobe = s.lobe ∧ s.settleTransmission.cue = s.cue ∧
    s.settleTransmission.hop = s.hop ∧ s.settleTransmission.src = s.src ∧ s.settleTransmission.chk = s.chk ∧
    s.settleTransmission.soak = s.soak ∧ s.settleTransmission.margin = s.margin ∧
    s.settleTransmission.handover = s.handover ∧ s.settleTransmission.site = s.site ∧
    s.settleTransmission.supply = s.supply := by
  dsimp only [State.settleTransmission]; repeat' split
  all_goals (first | done | simp)

@[simp] theorem State.takeStatusTimer_frame (s : State) :
    s.takeStatusTimer.pending = s.pending ∧ s.takeStatusTimer.time = s.time ∧ s.takeStatusTimer.station = s.station ∧
    s.takeStatusTimer.settings = s.settings ∧ s.takeStatusTimer.level = s.level ∧ s.takeStatusTimer.ident = s.ident ∧
    s.takeStatusTimer.pos = s.pos ∧ s.takeStatusTimer.map = s.map ∧ s.takeStatusTimer.lobe = s.lobe ∧
    s.takeStatusTimer.cue = s.cue ∧ s.takeStatusTimer.hop = s.hop ∧ s.takeStatusTimer.src = s.src ∧
    s.takeStatusTimer.chk = s.chk ∧ s.takeStatusTimer.soak = s.soak ∧ s.takeStatusTimer.margin = s.margin ∧
    s.takeStatusTimer.handover = s.handover ∧ s.takeStatusTimer.site = s.site ∧ s.takeStatusTimer.supply = s.supply := by
  dsimp only [State.takeStatusTimer]; repeat' split
  all_goals (first | done | simp)

@[simp] theorem State.takeLevelTimer_frame (s : State) :
    s.takeLevelTimer.pending = s.pending ∧ s.takeLevelTimer.time = s.time ∧ s.takeLevelTimer.station = s.station ∧
    s.takeLevelTimer.settings = s.settings ∧ s.takeLevelTimer.level = s.level ∧ s.takeLevelTimer.ident = s.ident ∧
    s.takeLevelTimer.pos = s.pos ∧ s.takeLevelTimer.map = s.map ∧ s.takeLevelTimer.lobe = s.lobe ∧
    s.takeLevelTimer.cue = s.cue ∧ s.takeLevelTimer.hop = s.hop ∧ s.takeLevelTimer.src = s.src ∧
    s.takeLevelTimer.chk = s.chk ∧ s.takeLevelTimer.soak = s.soak ∧ s.takeLevelTimer.margin = s.margin ∧
    s.takeLevelTimer.handover = s.handover ∧ s.takeLevelTimer.site = s.site ∧ s.takeLevelTimer.supply = s.supply := by
  dsimp only [State.takeLevelTimer]; repeat' split
  all_goals (first | done | simp)

@[simp] theorem State.takeAnswerTimeout_frame (s : State) :
    s.takeAnswerTimeout.pending = s.pending ∧ s.takeAnswerTimeout.time = s.time ∧
    s.takeAnswerTimeout.station = s.station ∧ s.takeAnswerTimeout.settings = s.settings ∧
    s.takeAnswerTimeout.level = s.level ∧ s.takeAnswerTimeout.ident = s.ident ∧ s.takeAnswerTimeout.pos = s.pos ∧
    s.takeAnswerTimeout.map = s.map ∧ s.takeAnswerTimeout.lobe = s.lobe ∧ s.takeAnswerTimeout.cue = s.cue ∧
    s.takeAnswerTimeout.src = s.src ∧ s.takeAnswerTimeout.chk = s.chk ∧ s.takeAnswerTimeout.soak = s.soak ∧
    s.takeAnswerTimeout.margin = s.margin ∧ s.takeAnswerTimeout.handover = s.handover ∧
    s.takeAnswerTimeout.supply = s.supply := by
  dsimp only [State.takeAnswerTimeout]; repeat' split
  all_goals (first | done | simp)

@[simp] theorem State.takeEntryHold_frame (s : State) :
    s.takeEntryHold.pending = s.pending ∧ s.takeEntryHold.draws = s.draws ∧ s.takeEntryHold.time = s.time ∧
    s.takeEntryHold.station = s.station ∧ s.takeEntryHold.settings = s.settings ∧ s.takeEntryHold.level = s.level ∧
    s.takeEntryHold.ident = s.ident ∧ s.takeEntryHold.pos = s.pos ∧ s.takeEntryHold.map = s.map ∧
    s.takeEntryHold.lobe = s.lobe ∧ s.takeEntryHold.cue = s.cue ∧ s.takeEntryHold.route = s.route ∧
    s.takeEntryHold.src = s.src ∧ s.takeEntryHold.chk = s.chk ∧ s.takeEntryHold.soak = s.soak ∧
    s.takeEntryHold.margin = s.margin ∧ s.takeEntryHold.handover = s.handover ∧ s.takeEntryHold.site = s.site ∧
    s.takeEntryHold.supply = s.supply := by
  dsimp only [State.takeEntryHold]; repeat' split
  all_goals (first | done | simp)

@[simp] theorem State.takeAutoTimer_frame (s : State) :
    s.takeAutoTimer.pending = s.pending ∧ s.takeAutoTimer.time = s.time ∧ s.takeAutoTimer.station = s.station ∧
    s.takeAutoTimer.settings = s.settings ∧ s.takeAutoTimer.level = s.level ∧ s.takeAutoTimer.ident = s.ident ∧
    s.takeAutoTimer.pos = s.pos ∧ s.takeAutoTimer.map = s.map ∧ s.takeAutoTimer.lobe = s.lobe ∧
    s.takeAutoTimer.cue = s.cue ∧ s.takeAutoTimer.src = s.src ∧ s.takeAutoTimer.chk = s.chk ∧
    s.takeAutoTimer.soak = s.soak ∧ s.takeAutoTimer.margin = s.margin ∧ s.takeAutoTimer.handover = s.handover ∧
    s.takeAutoTimer.site = s.site ∧ s.takeAutoTimer.supply = s.supply := by
  dsimp only [State.takeAutoTimer]; repeat' split
  all_goals (first | done | simp)

@[simp] theorem State.takeWarningClear_frame (i : Input) (s : State) :
    (s.takeWarningClear i).pending = s.pending ∧ (s.takeWarningClear i).draws = s.draws ∧
    (s.takeWarningClear i).time = s.time ∧ (s.takeWarningClear i).station = s.station ∧
    (s.takeWarningClear i).settings = s.settings ∧ (s.takeWarningClear i).ident = s.ident ∧
    (s.takeWarningClear i).pos = s.pos ∧ (s.takeWarningClear i).map = s.map ∧ (s.takeWarningClear i).lobe = s.lobe ∧
    (s.takeWarningClear i).cue = s.cue ∧ (s.takeWarningClear i).route = s.route ∧
    (s.takeWarningClear i).hop = s.hop ∧ (s.takeWarningClear i).src = s.src ∧ (s.takeWarningClear i).chk = s.chk ∧
    (s.takeWarningClear i).soak = s.soak ∧ (s.takeWarningClear i).margin = s.margin ∧
    (s.takeWarningClear i).handover = s.handover ∧ (s.takeWarningClear i).site = s.site ∧
    (s.takeWarningClear i).supply = s.supply := by
  dsimp only [State.takeWarningClear]; repeat' split
  all_goals (first | done | simp)

@[simp] theorem State.setComparator_frame (r : Role) (c : Comparator) (s : State) :
    (s.setComparator r c).pending = s.pending ∧ (s.setComparator r c).draws = s.draws ∧
    (s.setComparator r c).time = s.time ∧ (s.setComparator r c).station = s.station ∧
    (s.setComparator r c).settings = s.settings ∧ (s.setComparator r c).ident = s.ident ∧
    (s.setComparator r c).pos = s.pos ∧ (s.setComparator r c).map = s.map ∧ (s.setComparator r c).lobe = s.lobe ∧
    (s.setComparator r c).cue = s.cue ∧ (s.setComparator r c).route = s.route ∧ (s.setComparator r c).hop = s.hop ∧
    (s.setComparator r c).src = s.src ∧ (s.setComparator r c).chk = s.chk ∧ (s.setComparator r c).soak = s.soak ∧
    (s.setComparator r c).margin = s.margin ∧ (s.setComparator r c).handover = s.handover ∧
    (s.setComparator r c).site = s.site ∧ (s.setComparator r c).supply = s.supply := by
  dsimp only [State.setComparator]
  all_goals (first | done | simp)

@[simp] theorem State.takeFadeSample_frame (ended : Bool) (r : Role) (level : Level) (s : State) :
    (s.takeFadeSample ended r level).pending = s.pending ∧ (s.takeFadeSample ended r level).draws = s.draws ∧
    (s.takeFadeSample ended r level).time = s.time ∧ (s.takeFadeSample ended r level).station = s.station ∧
    (s.takeFadeSample ended r level).settings = s.settings ∧ (s.takeFadeSample ended r level).ident = s.ident ∧
    (s.takeFadeSample ended r level).pos = s.pos ∧ (s.takeFadeSample ended r level).map = s.map ∧
    (s.takeFadeSample ended r level).lobe = s.lobe ∧ (s.takeFadeSample ended r level).cue = s.cue ∧
    (s.takeFadeSample ended r level).route = s.route ∧ (s.takeFadeSample ended r level).hop = s.hop ∧
    (s.takeFadeSample ended r level).src = s.src ∧ (s.takeFadeSample ended r level).chk = s.chk ∧
    (s.takeFadeSample ended r level).margin = s.margin ∧ (s.takeFadeSample ended r level).handover = s.handover ∧
    (s.takeFadeSample ended r level).supply = s.supply := by
  dsimp only [State.takeFadeSample]; repeat' split
  all_goals (first | done | simp)

@[simp] theorem State.noteSlip_frame (x : Axis) (wasSlipped : Bool) (s : State) :
    (s.noteSlip x wasSlipped).pending = s.pending ∧ (s.noteSlip x wasSlipped).draws = s.draws ∧
    (s.noteSlip x wasSlipped).time = s.time ∧ (s.noteSlip x wasSlipped).station = s.station ∧
    (s.noteSlip x wasSlipped).settings = s.settings ∧ (s.noteSlip x wasSlipped).level = s.level ∧
    (s.noteSlip x wasSlipped).ident = s.ident ∧ (s.noteSlip x wasSlipped).pos = s.pos ∧
    (s.noteSlip x wasSlipped).lobe = s.lobe ∧ (s.noteSlip x wasSlipped).cue = s.cue ∧
    (s.noteSlip x wasSlipped).route = s.route ∧ (s.noteSlip x wasSlipped).hop = s.hop ∧
    (s.noteSlip x wasSlipped).src = s.src ∧ (s.noteSlip x wasSlipped).chk = s.chk ∧
    (s.noteSlip x wasSlipped).soak = s.soak ∧ (s.noteSlip x wasSlipped).margin = s.margin ∧
    (s.noteSlip x wasSlipped).handover = s.handover ∧ (s.noteSlip x wasSlipped).supply = s.supply := by
  dsimp only [State.noteSlip]; repeat' split
  all_goals (first | done | simp)

@[simp] theorem State.takeTransition_frame (x : Axis) (s : State) :
    (s.takeTransition x).pending = s.pending ∧ (s.takeTransition x).draws = s.draws ∧
    (s.takeTransition x).time = s.time ∧ (s.takeTransition x).station = s.station ∧
    (s.takeTransition x).settings = s.settings ∧ (s.takeTransition x).level = s.level ∧
    (s.takeTransition x).ident = s.ident ∧ (s.takeTransition x).lobe = s.lobe ∧ (s.takeTransition x).cue = s.cue ∧
    (s.takeTransition x).route = s.route ∧ (s.takeTransition x).hop = s.hop ∧ (s.takeTransition x).src = s.src ∧
    (s.takeTransition x).chk = s.chk ∧ (s.takeTransition x).soak = s.soak ∧ (s.takeTransition x).margin = s.margin ∧
    (s.takeTransition x).handover = s.handover ∧ (s.takeTransition x).supply = s.supply := by
  dsimp only [State.takeTransition]; repeat' split
  all_goals (first | done | simp)

@[simp] theorem State.driveLine_frame (x : Axis) (l : Line) (high : Bool) (s : State) :
    (s.driveLine x l high).pending = s.pending ∧ (s.driveLine x l high).draws = s.draws ∧
    (s.driveLine x l high).time = s.time ∧ (s.driveLine x l high).station = s.station ∧
    (s.driveLine x l high).settings = s.settings ∧ (s.driveLine x l high).level = s.level ∧
    (s.driveLine x l high).ident = s.ident ∧ (s.driveLine x l high).map = s.map ∧
    (s.driveLine x l high).lobe = s.lobe ∧ (s.driveLine x l high).cue = s.cue ∧
    (s.driveLine x l high).route = s.route ∧ (s.driveLine x l high).hop = s.hop ∧
    (s.driveLine x l high).src = s.src ∧ (s.driveLine x l high).chk = s.chk ∧ (s.driveLine x l high).soak = s.soak ∧
    (s.driveLine x l high).margin = s.margin ∧ (s.driveLine x l high).handover = s.handover ∧
    (s.driveLine x l high).site = s.site ∧ (s.driveLine x l high).supply = s.supply := by
  dsimp only [State.driveLine]
  all_goals (first | done | simp)

@[simp] theorem State.handOn_frame (s : State) :
    s.handOn.pending = s.pending ∧ s.handOn.time = s.time ∧ s.handOn.station = s.station ∧
    s.handOn.settings = s.settings ∧ s.handOn.level = s.level ∧ s.handOn.ident = s.ident ∧ s.handOn.pos = s.pos ∧
    s.handOn.map = s.map ∧ s.handOn.cue = s.cue ∧ s.handOn.hop = s.hop ∧ s.handOn.src = s.src ∧
    s.handOn.chk = s.chk ∧ s.handOn.soak = s.soak ∧ s.handOn.margin = s.margin ∧ s.handOn.handover = s.handover ∧
    s.handOn.supply = s.supply := by
  dsimp only [State.handOn]; repeat' split
  all_goals (first | done | simp)

@[simp] theorem State.takeCompletion_frame (s : State) :
    s.takeCompletion.pending = s.pending ∧ s.takeCompletion.time = s.time ∧ s.takeCompletion.station = s.station ∧
    s.takeCompletion.settings = s.settings ∧ s.takeCompletion.level = s.level ∧ s.takeCompletion.ident = s.ident ∧
    s.takeCompletion.pos = s.pos ∧ s.takeCompletion.map = s.map ∧ s.takeCompletion.cue = s.cue ∧
    s.takeCompletion.hop = s.hop ∧ s.takeCompletion.src = s.src ∧ s.takeCompletion.chk = s.chk ∧
    s.takeCompletion.soak = s.soak ∧ s.takeCompletion.margin = s.margin ∧ s.takeCompletion.handover = s.handover ∧
    s.takeCompletion.supply = s.supply := by
  dsimp only [State.takeCompletion]; repeat' split
  all_goals (first | done | simp)

@[simp] theorem State.settleAnalysis_frame (s : State) :
    s.settleAnalysis.pending = s.pending ∧ s.settleAnalysis.time = s.time ∧ s.settleAnalysis.station = s.station ∧
    s.settleAnalysis.settings = s.settings ∧ s.settleAnalysis.level = s.level ∧ s.settleAnalysis.ident = s.ident ∧
    s.settleAnalysis.pos = s.pos ∧ s.settleAnalysis.map = s.map ∧ s.settleAnalysis.cue = s.cue ∧
    s.settleAnalysis.hop = s.hop ∧ s.settleAnalysis.src = s.src ∧ s.settleAnalysis.chk = s.chk ∧
    s.settleAnalysis.soak = s.soak ∧ s.settleAnalysis.margin = s.margin ∧ s.settleAnalysis.handover = s.handover ∧
    s.settleAnalysis.supply = s.supply := by
  dsimp only [State.settleAnalysis]; repeat' split
  all_goals (first | done | simp)

@[simp] theorem State.takeVerdictRepeat_frame (s : State) :
    s.takeVerdictRepeat.pending = s.pending ∧ s.takeVerdictRepeat.time = s.time ∧
    s.takeVerdictRepeat.station = s.station ∧ s.takeVerdictRepeat.settings = s.settings ∧
    s.takeVerdictRepeat.level = s.level ∧ s.takeVerdictRepeat.ident = s.ident ∧ s.takeVerdictRepeat.pos = s.pos ∧
    s.takeVerdictRepeat.map = s.map ∧ s.takeVerdictRepeat.cue = s.cue ∧ s.takeVerdictRepeat.hop = s.hop ∧
    s.takeVerdictRepeat.src = s.src ∧ s.takeVerdictRepeat.chk = s.chk ∧ s.takeVerdictRepeat.soak = s.soak ∧
    s.takeVerdictRepeat.margin = s.margin ∧ s.takeVerdictRepeat.handover = s.handover ∧
    s.takeVerdictRepeat.site = s.site ∧ s.takeVerdictRepeat.supply = s.supply := by
  dsimp only [State.takeVerdictRepeat]; repeat' split
  all_goals (first | done | simp)

@[simp] theorem State.takeCueUpdate_frame (s : State) :
    s.takeCueUpdate.pending = s.pending ∧ s.takeCueUpdate.draws = s.draws ∧ s.takeCueUpdate.time = s.time ∧
    s.takeCueUpdate.station = s.station ∧ s.takeCueUpdate.settings = s.settings ∧ s.takeCueUpdate.level = s.level ∧
    s.takeCueUpdate.ident = s.ident ∧ s.takeCueUpdate.pos = s.pos ∧ s.takeCueUpdate.map = s.map ∧
    s.takeCueUpdate.lobe = s.lobe ∧ s.takeCueUpdate.route = s.route ∧ s.takeCueUpdate.hop = s.hop ∧
    s.takeCueUpdate.src = s.src ∧ s.takeCueUpdate.chk = s.chk ∧ s.takeCueUpdate.soak = s.soak ∧
    s.takeCueUpdate.margin = s.margin ∧ s.takeCueUpdate.handover = s.handover ∧ s.takeCueUpdate.site = s.site ∧
    s.takeCueUpdate.supply = s.supply := by
  dsimp only [State.takeCueUpdate]; repeat' split
  all_goals (first | done | simp)

@[simp] theorem State.takeStaleCadence_frame (s : State) :
    s.takeStaleCadence.pending = s.pending ∧ s.takeStaleCadence.draws = s.draws ∧ s.takeStaleCadence.time = s.time ∧
    s.takeStaleCadence.station = s.station ∧ s.takeStaleCadence.settings = s.settings ∧
    s.takeStaleCadence.level = s.level ∧ s.takeStaleCadence.ident = s.ident ∧ s.takeStaleCadence.pos = s.pos ∧
    s.takeStaleCadence.map = s.map ∧ s.takeStaleCadence.lobe = s.lobe ∧ s.takeStaleCadence.route = s.route ∧
    s.takeStaleCadence.hop = s.hop ∧ s.takeStaleCadence.src = s.src ∧ s.takeStaleCadence.chk = s.chk ∧
    s.takeStaleCadence.soak = s.soak ∧ s.takeStaleCadence.margin = s.margin ∧
    s.takeStaleCadence.handover = s.handover ∧ s.takeStaleCadence.site = s.site ∧ s.takeStaleCadence.supply = s.supply := by
  dsimp only [State.takeStaleCadence]; repeat' split
  all_goals (first | done | simp)

@[simp] theorem State.takeForeignCadence_frame (s : State) :
    s.takeForeignCadence.pending = s.pending ∧ s.takeForeignCadence.draws = s.draws ∧
    s.takeForeignCadence.time = s.time ∧ s.takeForeignCadence.station = s.station ∧
    s.takeForeignCadence.settings = s.settings ∧ s.takeForeignCadence.level = s.level ∧
    s.takeForeignCadence.ident = s.ident ∧ s.takeForeignCadence.pos = s.pos ∧ s.takeForeignCadence.map = s.map ∧
    s.takeForeignCadence.lobe = s.lobe ∧ s.takeForeignCadence.route = s.route ∧ s.takeForeignCadence.hop = s.hop ∧
    s.takeForeignCadence.src = s.src ∧ s.takeForeignCadence.chk = s.chk ∧ s.takeForeignCadence.soak = s.soak ∧
    s.takeForeignCadence.margin = s.margin ∧ s.takeForeignCadence.handover = s.handover ∧
    s.takeForeignCadence.site = s.site ∧ s.takeForeignCadence.supply = s.supply := by
  dsimp only [State.takeForeignCadence]; repeat' split
  all_goals (first | done | simp)

@[simp] theorem State.takeToggle_frame (s : State) :
    s.takeToggle.pending = s.pending ∧ s.takeToggle.draws = s.draws ∧ s.takeToggle.time = s.time ∧
    s.takeToggle.station = s.station ∧ s.takeToggle.settings = s.settings ∧ s.takeToggle.level = s.level ∧
    s.takeToggle.ident = s.ident ∧ s.takeToggle.pos = s.pos ∧ s.takeToggle.map = s.map ∧ s.takeToggle.lobe = s.lobe ∧
    s.takeToggle.route = s.route ∧ s.takeToggle.hop = s.hop ∧ s.takeToggle.src = s.src ∧ s.takeToggle.chk = s.chk ∧
    s.takeToggle.soak = s.soak ∧ s.takeToggle.margin = s.margin ∧ s.takeToggle.handover = s.handover ∧
    s.takeToggle.site = s.site ∧ s.takeToggle.supply = s.supply := by
  dsimp only [State.takeToggle]; repeat' split
  all_goals (first | done | simp)

@[simp] theorem State.takePeriodStart_frame (s : State) :
    s.takePeriodStart.pending = s.pending ∧ s.takePeriodStart.draws = s.draws ∧ s.takePeriodStart.time = s.time ∧
    s.takePeriodStart.station = s.station ∧ s.takePeriodStart.settings = s.settings ∧
    s.takePeriodStart.level = s.level ∧ s.takePeriodStart.ident = s.ident ∧ s.takePeriodStart.pos = s.pos ∧
    s.takePeriodStart.map = s.map ∧ s.takePeriodStart.lobe = s.lobe ∧ s.takePeriodStart.route = s.route ∧
    s.takePeriodStart.hop = s.hop ∧ s.takePeriodStart.src = s.src ∧ s.takePeriodStart.chk = s.chk ∧
    s.takePeriodStart.soak = s.soak ∧ s.takePeriodStart.margin = s.margin ∧ s.takePeriodStart.handover = s.handover ∧
    s.takePeriodStart.site = s.site ∧ s.takePeriodStart.supply = s.supply := by
  dsimp only [State.takePeriodStart]; repeat' split
  all_goals (first | done | simp)

@[simp] theorem State.takeKeyingEdge_frame (s : State) :
    s.takeKeyingEdge.pending = s.pending ∧ s.takeKeyingEdge.draws = s.draws ∧ s.takeKeyingEdge.time = s.time ∧
    s.takeKeyingEdge.station = s.station ∧ s.takeKeyingEdge.settings = s.settings ∧
    s.takeKeyingEdge.level = s.level ∧ s.takeKeyingEdge.ident = s.ident ∧ s.takeKeyingEdge.pos = s.pos ∧
    s.takeKeyingEdge.map = s.map ∧ s.takeKeyingEdge.lobe = s.lobe ∧ s.takeKeyingEdge.cue = s.cue ∧
    s.takeKeyingEdge.route = s.route ∧ s.takeKeyingEdge.hop = s.hop ∧ s.takeKeyingEdge.chk = s.chk ∧
    s.takeKeyingEdge.soak = s.soak ∧ s.takeKeyingEdge.margin = s.margin ∧ s.takeKeyingEdge.handover = s.handover ∧
    s.takeKeyingEdge.site = s.site ∧ s.takeKeyingEdge.supply = s.supply := by
  dsimp only [State.takeKeyingEdge]; repeat' split
  all_goals (first | done | simp)

@[simp] theorem State.takeSyncRise_frame (s : State) :
    s.takeSyncRise.pending = s.pending ∧ s.takeSyncRise.draws = s.draws ∧ s.takeSyncRise.time = s.time ∧
    s.takeSyncRise.station = s.station ∧ s.takeSyncRise.settings = s.settings ∧ s.takeSyncRise.level = s.level ∧
    s.takeSyncRise.ident = s.ident ∧ s.takeSyncRise.pos = s.pos ∧ s.takeSyncRise.map = s.map ∧
    s.takeSyncRise.lobe = s.lobe ∧ s.takeSyncRise.cue = s.cue ∧ s.takeSyncRise.route = s.route ∧
    s.takeSyncRise.hop = s.hop ∧ s.takeSyncRise.chk = s.chk ∧ s.takeSyncRise.soak = s.soak ∧
    s.takeSyncRise.margin = s.margin ∧ s.takeSyncRise.handover = s.handover ∧ s.takeSyncRise.site = s.site ∧
    s.takeSyncRise.supply = s.supply := by
  dsimp only [State.takeSyncRise]; repeat' split
  all_goals (first | done | simp)

@[simp] theorem State.takeSyncFall_frame (s : State) :
    s.takeSyncFall.pending = s.pending ∧ s.takeSyncFall.draws = s.draws ∧ s.takeSyncFall.time = s.time ∧
    s.takeSyncFall.station = s.station ∧ s.takeSyncFall.settings = s.settings ∧ s.takeSyncFall.level = s.level ∧
    s.takeSyncFall.ident = s.ident ∧ s.takeSyncFall.pos = s.pos ∧ s.takeSyncFall.map = s.map ∧
    s.takeSyncFall.lobe = s.lobe ∧ s.takeSyncFall.cue = s.cue ∧ s.takeSyncFall.route = s.route ∧
    s.takeSyncFall.hop = s.hop ∧ s.takeSyncFall.chk = s.chk ∧ s.takeSyncFall.soak = s.soak ∧
    s.takeSyncFall.margin = s.margin ∧ s.takeSyncFall.handover = s.handover ∧ s.takeSyncFall.site = s.site ∧
    s.takeSyncFall.supply = s.supply := by
  dsimp only [State.takeSyncFall]; repeat' split
  all_goals (first | done | simp)

@[simp] theorem State.driveSync_frame (high : Bool) (s : State) :
    (s.driveSync high).pending = s.pending ∧ (s.driveSync high).draws = s.draws ∧ (s.driveSync high).time = s.time ∧
    (s.driveSync high).station = s.station ∧ (s.driveSync high).settings = s.settings ∧
    (s.driveSync high).level = s.level ∧ (s.driveSync high).ident = s.ident ∧ (s.driveSync high).pos = s.pos ∧
    (s.driveSync high).map = s.map ∧ (s.driveSync high).lobe = s.lobe ∧ (s.driveSync high).cue = s.cue ∧
    (s.driveSync high).route = s.route ∧ (s.driveSync high).hop = s.hop ∧ (s.driveSync high).chk = s.chk ∧
    (s.driveSync high).soak = s.soak ∧ (s.driveSync high).margin = s.margin ∧
    (s.driveSync high).handover = s.handover ∧ (s.driveSync high).site = s.site ∧ (s.driveSync high).supply = s.supply := by
  dsimp only [State.driveSync]
  all_goals (first | done | simp)

@[simp] theorem State.takeSyncWord_frame (s : State) :
    s.takeSyncWord.pending = s.pending ∧ s.takeSyncWord.draws = s.draws ∧ s.takeSyncWord.time = s.time ∧
    s.takeSyncWord.station = s.station ∧ s.takeSyncWord.settings = s.settings ∧ s.takeSyncWord.level = s.level ∧
    s.takeSyncWord.ident = s.ident ∧ s.takeSyncWord.pos = s.pos ∧ s.takeSyncWord.map = s.map ∧
    s.takeSyncWord.lobe = s.lobe ∧ s.takeSyncWord.cue = s.cue ∧ s.takeSyncWord.route = s.route ∧
    s.takeSyncWord.hop = s.hop ∧ s.takeSyncWord.src = s.src ∧ s.takeSyncWord.soak = s.soak ∧
    s.takeSyncWord.margin = s.margin ∧ s.takeSyncWord.handover = s.handover ∧ s.takeSyncWord.site = s.site ∧
    s.takeSyncWord.supply = s.supply := by
  dsimp only [State.takeSyncWord]; repeat' split
  all_goals (first | done | simp)

@[simp] theorem State.takeWordComplete_frame (s : State) :
    s.takeWordComplete.pending = s.pending ∧ s.takeWordComplete.draws = s.draws ∧ s.takeWordComplete.time = s.time ∧
    s.takeWordComplete.station = s.station ∧ s.takeWordComplete.settings = s.settings ∧
    s.takeWordComplete.level = s.level ∧ s.takeWordComplete.ident = s.ident ∧ s.takeWordComplete.pos = s.pos ∧
    s.takeWordComplete.map = s.map ∧ s.takeWordComplete.lobe = s.lobe ∧ s.takeWordComplete.cue = s.cue ∧
    s.takeWordComplete.route = s.route ∧ s.takeWordComplete.hop = s.hop ∧ s.takeWordComplete.src = s.src ∧
    s.takeWordComplete.soak = s.soak ∧ s.takeWordComplete.margin = s.margin ∧
    s.takeWordComplete.handover = s.handover ∧ s.takeWordComplete.supply = s.supply := by
  dsimp only [State.takeWordComplete]; repeat' split
  all_goals (first | done | simp)

@[simp] theorem State.settleSyncWork_frame (s : State) :
    s.settleSyncWork.pending = s.pending ∧ s.settleSyncWork.draws = s.draws ∧ s.settleSyncWork.time = s.time ∧
    s.settleSyncWork.station = s.station ∧ s.settleSyncWork.settings = s.settings ∧
    s.settleSyncWork.level = s.level ∧ s.settleSyncWork.ident = s.ident ∧ s.settleSyncWork.pos = s.pos ∧
    s.settleSyncWork.map = s.map ∧ s.settleSyncWork.lobe = s.lobe ∧ s.settleSyncWork.cue = s.cue ∧
    s.settleSyncWork.route = s.route ∧ s.settleSyncWork.hop = s.hop ∧ s.settleSyncWork.src = s.src ∧
    s.settleSyncWork.soak = s.soak ∧ s.settleSyncWork.margin = s.margin ∧ s.settleSyncWork.handover = s.handover ∧
    s.settleSyncWork.supply = s.supply := by
  dsimp only [State.settleSyncWork]
  all_goals (first | done | simp)

@[simp] theorem State.takeIntervalEnd_frame (s : State) :
    s.takeIntervalEnd.pending = s.pending ∧ s.takeIntervalEnd.draws = s.draws ∧ s.takeIntervalEnd.time = s.time ∧
    s.takeIntervalEnd.station = s.station ∧ s.takeIntervalEnd.settings = s.settings ∧
    s.takeIntervalEnd.level = s.level ∧ s.takeIntervalEnd.ident = s.ident ∧ s.takeIntervalEnd.pos = s.pos ∧
    s.takeIntervalEnd.map = s.map ∧ s.takeIntervalEnd.lobe = s.lobe ∧ s.takeIntervalEnd.cue = s.cue ∧
    s.takeIntervalEnd.route = s.route ∧ s.takeIntervalEnd.hop = s.hop ∧ s.takeIntervalEnd.src = s.src ∧
    s.takeIntervalEnd.soak = s.soak ∧ s.takeIntervalEnd.margin = s.margin ∧ s.takeIntervalEnd.handover = s.handover ∧
    s.takeIntervalEnd.supply = s.supply := by
  dsimp only [State.takeIntervalEnd]; repeat' split
  all_goals (first | done | simp)

@[simp] theorem State.settleChecker_frame (s : State) :
    s.settleChecker.pending = s.pending ∧ s.settleChecker.draws = s.draws ∧ s.settleChecker.time = s.time ∧
    s.settleChecker.station = s.station ∧ s.settleChecker.settings = s.settings ∧ s.settleChecker.level = s.level ∧
    s.settleChecker.ident = s.ident ∧ s.settleChecker.pos = s.pos ∧ s.settleChecker.map = s.map ∧
    s.settleChecker.lobe = s.lobe ∧ s.settleChecker.cue = s.cue ∧ s.settleChecker.route = s.route ∧
    s.settleChecker.hop = s.hop ∧ s.settleChecker.src = s.src ∧ s.settleChecker.soak = s.soak ∧
    s.settleChecker.margin = s.margin ∧ s.settleChecker.handover = s.handover ∧ s.settleChecker.supply = s.supply := by
  dsimp only [State.settleChecker]
  all_goals (first | done | simp)

@[simp] theorem State.clockEdge_frame (bit : Bool) (s : State) :
    (s.clockEdge bit).pending = s.pending ∧ (s.clockEdge bit).draws = s.draws ∧ (s.clockEdge bit).time = s.time ∧
    (s.clockEdge bit).station = s.station ∧ (s.clockEdge bit).settings = s.settings ∧
    (s.clockEdge bit).level = s.level ∧ (s.clockEdge bit).ident = s.ident ∧ (s.clockEdge bit).pos = s.pos ∧
    (s.clockEdge bit).map = s.map ∧ (s.clockEdge bit).lobe = s.lobe ∧ (s.clockEdge bit).cue = s.cue ∧
    (s.clockEdge bit).route = s.route ∧ (s.clockEdge bit).hop = s.hop ∧ (s.clockEdge bit).soak = s.soak ∧
    (s.clockEdge bit).margin = s.margin ∧ (s.clockEdge bit).handover = s.handover ∧
    (s.clockEdge bit).supply = s.supply := by
  dsimp only [State.clockEdge]; repeat' split
  all_goals (first | done | simp)

@[simp] theorem State.deliverTotals_frame (s : State) :
    s.deliverTotals.pending = s.pending ∧ s.deliverTotals.time = s.time ∧ s.deliverTotals.station = s.station ∧
    s.deliverTotals.settings = s.settings ∧ s.deliverTotals.level = s.level ∧ s.deliverTotals.ident = s.ident ∧
    s.deliverTotals.pos = s.pos ∧ s.deliverTotals.map = s.map ∧ s.deliverTotals.lobe = s.lobe ∧
    s.deliverTotals.cue = s.cue ∧ s.deliverTotals.hop = s.hop ∧ s.deliverTotals.src = s.src ∧
    s.deliverTotals.handover = s.handover ∧ s.deliverTotals.supply = s.supply := by
  dsimp only [State.deliverTotals]
  all_goals (first | done | simp)

@[simp] theorem State.ageRoster_frame (s : State) :
    s.ageRoster.pending = s.pending ∧ s.ageRoster.time = s.time ∧ s.ageRoster.station = s.station ∧
    s.ageRoster.settings = s.settings ∧ s.ageRoster.level = s.level ∧ s.ageRoster.ident = s.ident ∧
    s.ageRoster.pos = s.pos ∧ s.ageRoster.map = s.map ∧ s.ageRoster.lobe = s.lobe ∧ s.ageRoster.cue = s.cue ∧
    s.ageRoster.hop = s.hop ∧ s.ageRoster.src = s.src ∧ s.ageRoster.chk = s.chk ∧ s.ageRoster.soak = s.soak ∧
    s.ageRoster.margin = s.margin ∧ s.ageRoster.supply = s.supply := by
  dsimp only [State.ageRoster]
  all_goals (first | done | simp)

@[simp] theorem State.applySecond_frame (s : State) :
    s.applySecond.pending = s.pending ∧ s.applySecond.draws = s.draws ∧ s.applySecond.time = s.time ∧
    s.applySecond.station = s.station ∧ s.applySecond.settings = s.settings ∧ s.applySecond.level = s.level ∧
    s.applySecond.ident = s.ident ∧ s.applySecond.pos = s.pos ∧ s.applySecond.map = s.map ∧
    s.applySecond.lobe = s.lobe ∧ s.applySecond.cue = s.cue ∧ s.applySecond.route = s.route ∧
    s.applySecond.hop = s.hop ∧ s.applySecond.soak = s.soak ∧ s.applySecond.margin = s.margin ∧
    s.applySecond.handover = s.handover ∧ s.applySecond.site = s.site ∧ s.applySecond.supply = s.supply := by
  dsimp only [State.applySecond]
  all_goals (first | done | simp)

@[simp] theorem State.tickDigest_frame (s : State) :
    s.tickDigest.pending = s.pending ∧ s.tickDigest.draws = s.draws ∧ s.tickDigest.time = s.time ∧
    s.tickDigest.station = s.station ∧ s.tickDigest.settings = s.settings ∧ s.tickDigest.level = s.level ∧
    s.tickDigest.ident = s.ident ∧ s.tickDigest.pos = s.pos ∧ s.tickDigest.map = s.map ∧ s.tickDigest.lobe = s.lobe ∧
    s.tickDigest.cue = s.cue ∧ s.tickDigest.route = s.route ∧ s.tickDigest.hop = s.hop ∧ s.tickDigest.src = s.src ∧
    s.tickDigest.chk = s.chk ∧ s.tickDigest.margin = s.margin ∧ s.tickDigest.handover = s.handover ∧
    s.tickDigest.site = s.site ∧ s.tickDigest.supply = s.supply := by
  dsimp only [State.tickDigest]
  all_goals (first | done | simp)

@[simp] theorem State.secondWork_frame (s : State) :
    s.secondWork.pending = s.pending ∧ s.secondWork.time = s.time ∧ s.secondWork.station = s.station ∧
    s.secondWork.settings = s.settings ∧ s.secondWork.level = s.level ∧ s.secondWork.ident = s.ident ∧
    s.secondWork.pos = s.pos ∧ s.secondWork.map = s.map ∧ s.secondWork.lobe = s.lobe ∧ s.secondWork.cue = s.cue ∧
    s.secondWork.hop = s.hop ∧ s.secondWork.supply = s.supply := by
  dsimp only [State.secondWork]
  all_goals (first | done | simp)

@[simp] theorem State.takeSecond_frame (s : State) :
    s.takeSecond.pending = s.pending ∧ s.takeSecond.station = s.station ∧ s.takeSecond.settings = s.settings ∧
    s.takeSecond.level = s.level ∧ s.takeSecond.ident = s.ident ∧ s.takeSecond.pos = s.pos ∧
    s.takeSecond.map = s.map ∧ s.takeSecond.lobe = s.lobe ∧ s.takeSecond.cue = s.cue ∧ s.takeSecond.supply = s.supply := by
  dsimp only [State.takeSecond]; repeat' split
  all_goals (first | done | simp)

@[simp] theorem State.takeDigestTimer_frame (s : State) :
    s.takeDigestTimer.pending = s.pending ∧ s.takeDigestTimer.time = s.time ∧ s.takeDigestTimer.station = s.station ∧
    s.takeDigestTimer.settings = s.settings ∧ s.takeDigestTimer.level = s.level ∧ s.takeDigestTimer.ident = s.ident ∧
    s.takeDigestTimer.pos = s.pos ∧ s.takeDigestTimer.map = s.map ∧ s.takeDigestTimer.lobe = s.lobe ∧
    s.takeDigestTimer.cue = s.cue ∧ s.takeDigestTimer.hop = s.hop ∧ s.takeDigestTimer.src = s.src ∧
    s.takeDigestTimer.chk = s.chk ∧ s.takeDigestTimer.margin = s.margin ∧ s.takeDigestTimer.handover = s.handover ∧
    s.takeDigestTimer.site = s.site ∧ s.takeDigestTimer.supply = s.supply := by
  dsimp only [State.takeDigestTimer]; repeat' split
  all_goals (first | done | simp)

@[simp] theorem State.takeDwell_frame (s : State) :
    s.takeDwell.pending = s.pending ∧ s.takeDwell.draws = s.draws ∧ s.takeDwell.time = s.time ∧
    s.takeDwell.station = s.station ∧ s.takeDwell.settings = s.settings ∧ s.takeDwell.level = s.level ∧
    s.takeDwell.ident = s.ident ∧ s.takeDwell.pos = s.pos ∧ s.takeDwell.map = s.map ∧ s.takeDwell.lobe = s.lobe ∧
    s.takeDwell.cue = s.cue ∧ s.takeDwell.route = s.route ∧ s.takeDwell.hop = s.hop ∧ s.takeDwell.src = s.src ∧
    s.takeDwell.chk = s.chk ∧ s.takeDwell.soak = s.soak ∧ s.takeDwell.handover = s.handover ∧
    s.takeDwell.site = s.site ∧ s.takeDwell.supply = s.supply := by
  dsimp only [State.takeDwell]; repeat' split
  all_goals (first | done | simp)

@[simp] theorem State.takeStepWrite_frame (s : State) :
    s.takeStepWrite.pending = s.pending ∧ s.takeStepWrite.time = s.time ∧ s.takeStepWrite.station = s.station ∧
    s.takeStepWrite.settings = s.settings ∧ s.takeStepWrite.level = s.level ∧ s.takeStepWrite.ident = s.ident ∧
    s.takeStepWrite.pos = s.pos ∧ s.takeStepWrite.map = s.map ∧ s.takeStepWrite.lobe = s.lobe ∧
    s.takeStepWrite.cue = s.cue ∧ s.takeStepWrite.chk = s.chk ∧ s.takeStepWrite.soak = s.soak ∧
    s.takeStepWrite.handover = s.handover ∧ s.takeStepWrite.supply = s.supply := by
  dsimp only [State.takeStepWrite]; repeat' split
  all_goals (first | done | simp)

@[simp] theorem State.takeAnnounce_frame (s : State) :
    s.takeAnnounce.pending = s.pending ∧ s.takeAnnounce.time = s.time ∧ s.takeAnnounce.station = s.station ∧
    s.takeAnnounce.settings = s.settings ∧ s.takeAnnounce.level = s.level ∧ s.takeAnnounce.ident = s.ident ∧
    s.takeAnnounce.pos = s.pos ∧ s.takeAnnounce.map = s.map ∧ s.takeAnnounce.lobe = s.lobe ∧
    s.takeAnnounce.cue = s.cue ∧ s.takeAnnounce.hop = s.hop ∧ s.takeAnnounce.src = s.src ∧
    s.takeAnnounce.chk = s.chk ∧ s.takeAnnounce.soak = s.soak ∧ s.takeAnnounce.handover = s.handover ∧
    s.takeAnnounce.site = s.site ∧ s.takeAnnounce.supply = s.supply := by
  dsimp only [State.takeAnnounce]; repeat' split
  all_goals (first | done | simp)

@[simp] theorem State.takeDoneRepeat_frame (s : State) :
    s.takeDoneRepeat.pending = s.pending ∧ s.takeDoneRepeat.time = s.time ∧ s.takeDoneRepeat.station = s.station ∧
    s.takeDoneRepeat.settings = s.settings ∧ s.takeDoneRepeat.level = s.level ∧ s.takeDoneRepeat.ident = s.ident ∧
    s.takeDoneRepeat.pos = s.pos ∧ s.takeDoneRepeat.map = s.map ∧ s.takeDoneRepeat.lobe = s.lobe ∧
    s.takeDoneRepeat.cue = s.cue ∧ s.takeDoneRepeat.hop = s.hop ∧ s.takeDoneRepeat.src = s.src ∧
    s.takeDoneRepeat.chk = s.chk ∧ s.takeDoneRepeat.soak = s.soak ∧ s.takeDoneRepeat.handover = s.handover ∧
    s.takeDoneRepeat.site = s.site ∧ s.takeDoneRepeat.supply = s.supply := by
  dsimp only [State.takeDoneRepeat]; repeat' split
  all_goals (first | done | simp)

@[simp] theorem State.takeSilence_frame (s : State) :
    s.takeSilence.pending = s.pending ∧ s.takeSilence.draws = s.draws ∧ s.takeSilence.time = s.time ∧
    s.takeSilence.station = s.station ∧ s.takeSilence.settings = s.settings ∧ s.takeSilence.level = s.level ∧
    s.takeSilence.ident = s.ident ∧ s.takeSilence.pos = s.pos ∧ s.takeSilence.map = s.map ∧
    s.takeSilence.lobe = s.lobe ∧ s.takeSilence.cue = s.cue ∧ s.takeSilence.route = s.route ∧
    s.takeSilence.hop = s.hop ∧ s.takeSilence.chk = s.chk ∧ s.takeSilence.soak = s.soak ∧
    s.takeSilence.handover = s.handover ∧ s.takeSilence.supply = s.supply := by
  dsimp only [State.takeSilence]; repeat' split
  all_goals (first | done | simp)

@[simp] theorem State.takeSupply_frame (s : State) :
    s.takeSupply.pending = s.pending ∧ s.takeSupply.draws = s.draws ∧ s.takeSupply.time = s.time ∧
    s.takeSupply.station = s.station ∧ s.takeSupply.settings = s.settings ∧ s.takeSupply.level = s.level ∧
    s.takeSupply.ident = s.ident ∧ s.takeSupply.pos = s.pos ∧ s.takeSupply.map = s.map ∧ s.takeSupply.lobe = s.lobe ∧
    s.takeSupply.cue = s.cue ∧ s.takeSupply.route = s.route ∧ s.takeSupply.hop = s.hop ∧ s.takeSupply.src = s.src ∧
    s.takeSupply.chk = s.chk ∧ s.takeSupply.soak = s.soak ∧ s.takeSupply.margin = s.margin ∧
    s.takeSupply.handover = s.handover := by
  dsimp only [State.takeSupply]; repeat' split
  all_goals (first | done | simp)

@[simp] theorem State.settleLines_frame (s : State) :
    s.settleLines.pending = s.pending ∧ s.settleLines.draws = s.draws ∧ s.settleLines.time = s.time ∧
    s.settleLines.station = s.station ∧ s.settleLines.settings = s.settings ∧ s.settleLines.level = s.level ∧
    s.settleLines.ident = s.ident ∧ s.settleLines.lobe = s.lobe ∧ s.settleLines.cue = s.cue ∧
    s.settleLines.route = s.route ∧ s.settleLines.hop = s.hop ∧ s.settleLines.src = s.src ∧
    s.settleLines.chk = s.chk ∧ s.settleLines.soak = s.soak ∧ s.settleLines.margin = s.margin ∧
    s.settleLines.handover = s.handover ∧ s.settleLines.supply = s.supply := by
  simp [State.settleLines]

/-- A slip reaches the map in SWEEP alone (R59). -/
theorem State.takeTransition_map (x : Axis) (s : State) (h : s.hop.phase ≠ .sweep) :
    (s.takeTransition x).map = s.map := by
  simp only [State.takeTransition, State.noteSlip, h, if_false]; repeat' split
  all_goals simp

/-- The lines that pass reach the map in SWEEP alone (R59). -/
theorem State.settleLines_map (s : State) (h : s.hop.phase ≠ .sweep) : s.settleLines.map = s.map := by
  rw [State.settleLines, State.takeTransition_map, State.takeTransition_map _ _ h]
  simpa using h

@[simp] theorem State.settleTick_frame (s : State) :
    s.settleTick.pending = s.pending ∧ s.settleTick.draws = s.draws ∧ s.settleTick.time = s.time ∧
    s.settleTick.station = s.station ∧ s.settleTick.settings = s.settings ∧ s.settleTick.level = s.level ∧
    s.settleTick.ident = s.ident ∧ s.settleTick.lobe = s.lobe ∧ s.settleTick.route = s.route ∧
    s.settleTick.hop = s.hop ∧ s.settleTick.chk = s.chk ∧ s.settleTick.soak = s.soak ∧
    s.settleTick.margin = s.margin ∧ s.settleTick.handover = s.handover ∧ s.settleTick.supply = s.supply := by
  dsimp only [State.settleTick]
  all_goals (first | done | simp)

@[simp] theorem State.settleSecond_frame (s : State) :
    s.settleSecond.pending = s.pending ∧ s.settleSecond.station = s.station ∧ s.settleSecond.settings = s.settings ∧
    s.settleSecond.level = s.level ∧ s.settleSecond.ident = s.ident ∧ s.settleSecond.pos = s.pos ∧
    s.settleSecond.map = s.map ∧ s.settleSecond.lobe = s.lobe ∧ s.settleSecond.cue = s.cue ∧
    s.settleSecond.supply = s.supply := by
  dsimp only [State.settleSecond]
  all_goals (first | done | simp)

@[simp] theorem State.settleCue_frame (s : State) :
    s.settleCue.pending = s.pending ∧ s.settleCue.draws = s.draws ∧ s.settleCue.time = s.time ∧
    s.settleCue.station = s.station ∧ s.settleCue.settings = s.settings ∧ s.settleCue.level = s.level ∧
    s.settleCue.ident = s.ident ∧ s.settleCue.pos = s.pos ∧ s.settleCue.map = s.map ∧ s.settleCue.lobe = s.lobe ∧
    s.settleCue.route = s.route ∧ s.settleCue.hop = s.hop ∧ s.settleCue.src = s.src ∧ s.settleCue.chk = s.chk ∧
    s.settleCue.soak = s.soak ∧ s.settleCue.margin = s.margin ∧ s.settleCue.handover = s.handover ∧
    s.settleCue.site = s.site ∧ s.settleCue.supply = s.supply := by
  dsimp only [State.settleCue]
  all_goals (first | done | simp)

@[simp] theorem State.settleTimers_frame (s : State) :
    s.settleTimers.pending = s.pending ∧ s.settleTimers.time = s.time ∧ s.settleTimers.station = s.station ∧
    s.settleTimers.settings = s.settings ∧ s.settleTimers.level = s.level ∧ s.settleTimers.ident = s.ident ∧
    s.settleTimers.pos = s.pos ∧ s.settleTimers.map = s.map ∧ s.settleTimers.cue = s.cue ∧
    s.settleTimers.src = s.src ∧ s.settleTimers.chk = s.chk ∧ s.settleTimers.soak = s.soak ∧
    s.settleTimers.handover = s.handover := by
  dsimp only [State.settleTimers]
  all_goals (first | done | simp)

@[simp] theorem State.settleRoute_frame (s : State) :
    s.settleRoute.pending = s.pending ∧ s.settleRoute.time = s.time ∧ s.settleRoute.station = s.station ∧
    s.settleRoute.settings = s.settings ∧ s.settleRoute.level = s.level ∧ s.settleRoute.ident = s.ident ∧
    s.settleRoute.pos = s.pos ∧ s.settleRoute.map = s.map ∧ s.settleRoute.cue = s.cue ∧ s.settleRoute.hop = s.hop ∧
    s.settleRoute.src = s.src ∧ s.settleRoute.chk = s.chk ∧ s.settleRoute.soak = s.soak ∧
    s.settleRoute.margin = s.margin ∧ s.settleRoute.handover = s.handover ∧ s.settleRoute.supply = s.supply := by
  dsimp only [State.settleRoute]
  all_goals (first | done | simp)

@[simp] theorem State.settleEvents_frame (s : State) :
    s.settleEvents.pending = s.pending ∧ s.settleEvents.station = s.station ∧ s.settleEvents.settings = s.settings ∧
    s.settleEvents.level = s.level ∧ s.settleEvents.ident = s.ident := by
  dsimp only [State.settleEvents]
  all_goals (first | done | simp)

/-- The gaps that have passed reach the two framers and their counters alone (R108, R191). -/
@[simp] theorem State.settleGaps_frame (s : State) :
    s.settleGaps.pending = s.pending ∧ s.settleGaps.draws = s.draws ∧ s.settleGaps.time = s.time ∧
    s.settleGaps.station = s.station ∧ s.settleGaps.settings = s.settings ∧ s.settleGaps.level = s.level ∧
    s.settleGaps.ident = s.ident ∧ s.settleGaps.pos = s.pos ∧ s.settleGaps.map = s.map ∧
    s.settleGaps.lobe = s.lobe ∧ s.settleGaps.cue = s.cue ∧ s.settleGaps.hop = s.hop ∧ s.settleGaps.src = s.src ∧
    s.settleGaps.chk = s.chk ∧ s.settleGaps.soak = s.soak ∧ s.settleGaps.margin = s.margin ∧
    s.settleGaps.handover = s.handover ∧ s.settleGaps.supply = s.supply := by
  dsimp only [State.settleGaps, State.settleRouteGap]; split
  all_goals (first | done | simp)

@[simp] theorem State.settle_frame (s : State) :
    s.settle.pending = s.pending ∧ s.settle.station = s.station ∧ s.settle.settings = s.settings ∧
    s.settle.level = s.level ∧ s.settle.ident = s.ident := by
  dsimp only [State.settle]
  all_goals (first | done | simp)

/-- A gap that has passed on the site port's line reaches the framer and the count of cut messages alone (R191). -/
@[simp] theorem Site.settleGap_kept (p : Site) :
    p.settleGap.out = p.out ∧ p.settleGap.sending = p.sending ∧ p.settleGap.mask = p.mask ∧
    p.settleGap.flags = p.flags := by
  unfold Site.settleGap Site.gap; repeat' split
  all_goals exact ⟨rfl, rfl, rfl, rfl⟩

@[simp] theorem State.tickTimers_frame (s : State) :
    s.tickTimers.pending = s.pending ∧ s.tickTimers.draws = s.draws ∧ s.tickTimers.time = s.time ∧
    s.tickTimers.station = s.station ∧ s.tickTimers.settings = s.settings ∧ s.tickTimers.level = s.level ∧
    s.tickTimers.ident = s.ident ∧ s.tickTimers.pos = s.pos ∧ s.tickTimers.map = s.map ∧ s.tickTimers.cue = s.cue ∧
    s.tickTimers.src = s.src ∧ s.tickTimers.chk = s.chk ∧ s.tickTimers.soak = s.soak ∧
    s.tickTimers.handover = s.handover ∧ s.tickTimers.site = { s.site with framer := s.site.framer.tick } := by
  dsimp only [State.tickTimers]
  all_goals (first | done | simp)

@[simp] theorem State.sampleInput_frame (codes : ByInput Nat) (i : Input) (s : State) :
    (s.sampleInput codes i).pending = s.pending ∧ (s.sampleInput codes i).draws = s.draws ∧
    (s.sampleInput codes i).time = s.time ∧ (s.sampleInput codes i).station = s.station ∧
    (s.sampleInput codes i).settings = s.settings ∧ (s.sampleInput codes i).ident = s.ident ∧
    (s.sampleInput codes i).pos = s.pos ∧ (s.sampleInput codes i).map = s.map ∧
    (s.sampleInput codes i).lobe = s.lobe ∧ (s.sampleInput codes i).cue = s.cue ∧
    (s.sampleInput codes i).route = s.route ∧ (s.sampleInput codes i).hop = s.hop ∧
    (s.sampleInput codes i).src = s.src ∧ (s.sampleInput codes i).chk = s.chk ∧
    (s.sampleInput codes i).soak = s.soak ∧ (s.sampleInput codes i).margin = s.margin ∧
    (s.sampleInput codes i).handover = s.handover ∧ (s.sampleInput codes i).supply = s.supply := by
  dsimp only [State.sampleInput]; repeat' split
  all_goals (first | done | simp)

@[simp] theorem State.sampleInputs_frame (codes : ByInput Nat) (s : State) :
    (s.sampleInputs codes).pending = s.pending ∧ (s.sampleInputs codes).draws = s.draws ∧
    (s.sampleInputs codes).time = s.time ∧ (s.sampleInputs codes).station = s.station ∧
    (s.sampleInputs codes).settings = s.settings ∧ (s.sampleInputs codes).ident = s.ident ∧
    (s.sampleInputs codes).pos = s.pos ∧ (s.sampleInputs codes).map = s.map ∧ (s.sampleInputs codes).lobe = s.lobe ∧
    (s.sampleInputs codes).cue = s.cue ∧ (s.sampleInputs codes).route = s.route ∧
    (s.sampleInputs codes).hop = s.hop ∧ (s.sampleInputs codes).src = s.src ∧ (s.sampleInputs codes).chk = s.chk ∧
    (s.sampleInputs codes).soak = s.soak ∧ (s.sampleInputs codes).margin = s.margin ∧
    (s.sampleInputs codes).handover = s.handover ∧ (s.sampleInputs codes).supply = s.supply := by
  dsimp only [State.sampleInputs]
  all_goals (first | done | simp)

@[simp] theorem State.sampleChannel_frame (gate : Option Level) (r : Role) (s : State) :
    (s.sampleChannel gate r).pending = s.pending ∧ (s.sampleChannel gate r).draws = s.draws ∧
    (s.sampleChannel gate r).time = s.time ∧ (s.sampleChannel gate r).station = s.station ∧
    (s.sampleChannel gate r).settings = s.settings ∧ (s.sampleChannel gate r).ident = s.ident ∧
    (s.sampleChannel gate r).pos = s.pos ∧ (s.sampleChannel gate r).map = s.map ∧
    (s.sampleChannel gate r).lobe = s.lobe ∧ (s.sampleChannel gate r).cue = s.cue ∧
    (s.sampleChannel gate r).route = s.route ∧ (s.sampleChannel gate r).hop = s.hop ∧
    (s.sampleChannel gate r).src = s.src ∧ (s.sampleChannel gate r).chk = s.chk ∧
    (s.sampleChannel gate r).margin = s.margin ∧ (s.sampleChannel gate r).handover = s.handover ∧
    (s.sampleChannel gate r).supply = s.supply := by
  dsimp only [State.sampleChannel]
  all_goals (first | done | simp)

@[simp] theorem State.sampleChannels_frame (gate : Option Level) (s : State) :
    (s.sampleChannels gate).pending = s.pending ∧ (s.sampleChannels gate).draws = s.draws ∧
    (s.sampleChannels gate).time = s.time ∧ (s.sampleChannels gate).station = s.station ∧
    (s.sampleChannels gate).settings = s.settings ∧ (s.sampleChannels gate).ident = s.ident ∧
    (s.sampleChannels gate).pos = s.pos ∧ (s.sampleChannels gate).map = s.map ∧
    (s.sampleChannels gate).lobe = s.lobe ∧ (s.sampleChannels gate).cue = s.cue ∧
    (s.sampleChannels gate).route = s.route ∧ (s.sampleChannels gate).hop = s.hop ∧
    (s.sampleChannels gate).src = s.src ∧ (s.sampleChannels gate).chk = s.chk ∧
    (s.sampleChannels gate).margin = s.margin ∧ (s.sampleChannels gate).handover = s.handover ∧
    (s.sampleChannels gate).supply = s.supply := by
  dsimp only [State.sampleChannels]
  all_goals (first | done | simp)

@[simp] theorem State.latch_frame (s : State) :
    s.latch.pending = s.pending ∧ s.latch.draws = s.draws ∧ s.latch.time = s.time ∧ s.latch.station = s.station ∧
    s.latch.settings = s.settings ∧ s.latch.level = s.level ∧ s.latch.ident = s.ident ∧ s.latch.map = s.map ∧
    s.latch.lobe = s.lobe ∧ s.latch.cue = s.cue ∧ s.latch.route = s.route ∧ s.latch.hop = s.hop ∧
    s.latch.src = s.src ∧ s.latch.chk = s.chk ∧ s.latch.soak = s.soak ∧ s.latch.margin = s.margin ∧
    s.latch.handover = s.handover ∧ s.latch.site = s.site ∧ s.latch.supply = s.supply := by
  dsimp only [State.latch]
  all_goals (first | done | simp)

@[simp] theorem State.sampleCounters_frame (s : State) :
    s.sampleCounters.pending = s.pending ∧ s.sampleCounters.draws = s.draws ∧ s.sampleCounters.time = s.time ∧
    s.sampleCounters.station = s.station ∧ s.sampleCounters.settings = s.settings ∧
    s.sampleCounters.level = s.level ∧ s.sampleCounters.ident = s.ident ∧ s.sampleCounters.pos = s.pos ∧
    s.sampleCounters.map = s.map ∧ s.sampleCounters.hop = s.hop ∧ s.sampleCounters.chk = s.chk ∧
    s.sampleCounters.handover = s.handover ∧ s.sampleCounters.site = s.site ∧ s.sampleCounters.supply = s.supply := by
  dsimp only [State.sampleCounters]
  all_goals (first | done | simp)

@[simp] theorem State.measure_frame (codes : ByInput Nat) (s : State) :
    (s.measure codes).pending = s.pending ∧ (s.measure codes).draws = s.draws ∧ (s.measure codes).time = s.time ∧
    (s.measure codes).station = s.station ∧ (s.measure codes).settings = s.settings ∧
    (s.measure codes).lobe = s.lobe ∧ (s.measure codes).cue = s.cue ∧ (s.measure codes).route = s.route ∧
    (s.measure codes).hop = s.hop ∧ (s.measure codes).src = s.src ∧ (s.measure codes).chk = s.chk ∧
    (s.measure codes).margin = s.margin ∧ (s.measure codes).handover = s.handover ∧
    (s.measure codes).supply = s.supply := by
  dsimp only [State.measure]
  all_goals (first | done | simp)

@[simp] theorem State.sampleWork_frame (codes : ByInput Nat) (s : State) :
    (s.sampleWork codes).pending = s.pending ∧ (s.sampleWork codes).draws = s.draws ∧
    (s.sampleWork codes).station = s.station ∧ (s.sampleWork codes).settings = s.settings ∧
    (s.sampleWork codes).chk = s.chk ∧ (s.sampleWork codes).handover = s.handover := by
  dsimp only [State.sampleWork]
  all_goals (first | done | simp)

@[simp] theorem State.firstTick_frame (s : State) :
    s.firstTick.pending = s.pending ∧ s.firstTick.draws = s.draws ∧ s.firstTick.station = s.station ∧
    s.firstTick.settings = s.settings ∧ s.firstTick.level = s.level ∧ s.firstTick.ident = s.ident ∧
    s.firstTick.map = s.map ∧ s.firstTick.lobe = s.lobe ∧ s.firstTick.cue = s.cue ∧ s.firstTick.route = s.route ∧
    s.firstTick.hop = s.hop ∧ s.firstTick.chk = s.chk ∧ s.firstTick.soak = s.soak ∧ s.firstTick.margin = s.margin ∧
    s.firstTick.handover = s.handover ∧ s.firstTick.site = s.site ∧ s.firstTick.supply = s.supply := by
  dsimp only [State.firstTick]
  all_goals (first | done | simp)

@[simp] theorem State.tickLines_frame (s : State) :
    s.tickLines.pending = s.pending ∧ s.tickLines.draws = s.draws ∧ s.tickLines.time = s.time ∧
    s.tickLines.station = s.station ∧ s.tickLines.settings = s.settings ∧ s.tickLines.level = s.level ∧
    s.tickLines.ident = s.ident ∧ s.tickLines.map = s.map ∧ s.tickLines.lobe = s.lobe ∧ s.tickLines.cue = s.cue ∧
    s.tickLines.route = s.route ∧ s.tickLines.hop = s.hop ∧ s.tickLines.chk = s.chk ∧ s.tickLines.soak = s.soak ∧
    s.tickLines.margin = s.margin ∧ s.tickLines.handover = s.handover ∧ s.tickLines.site = s.site ∧
    s.tickLines.supply = s.supply := by
  dsimp only [State.tickLines]
  all_goals (first | done | simp)

@[simp] theorem State.cueTick_frame (s : State) :
    s.cueTick.pending = s.pending ∧ s.cueTick.draws = s.draws ∧ s.cueTick.station = s.station ∧
    s.cueTick.settings = s.settings ∧ s.cueTick.level = s.level ∧ s.cueTick.ident = s.ident ∧
    s.cueTick.lobe = s.lobe ∧ s.cueTick.route = s.route ∧ s.cueTick.hop = s.hop ∧ s.cueTick.chk = s.chk ∧
    s.cueTick.soak = s.soak ∧ s.cueTick.margin = s.margin ∧ s.cueTick.handover = s.handover ∧
    s.cueTick.supply = s.supply := by
  dsimp only [State.cueTick]; repeat' split
  all_goals (first | done | simp)

@[simp] theorem State.answerStatus_frame (s : State) :
    s.answerStatus.pending = s.pending ∧ s.answerStatus.draws = s.draws ∧ s.answerStatus.time = s.time ∧
    s.answerStatus.station = s.station ∧ s.answerStatus.settings = s.settings ∧ s.answerStatus.level = s.level ∧
    s.answerStatus.ident = s.ident ∧ s.answerStatus.pos = s.pos ∧ s.answerStatus.map = s.map ∧
    s.answerStatus.lobe = s.lobe ∧ s.answerStatus.cue = s.cue ∧ s.answerStatus.route = s.route ∧
    s.answerStatus.hop = s.hop ∧ s.answerStatus.src = s.src ∧ s.answerStatus.chk = s.chk ∧
    s.answerStatus.soak = s.soak ∧ s.answerStatus.margin = s.margin ∧ s.answerStatus.handover = s.handover ∧
    s.answerStatus.supply = s.supply := by
  dsimp only [State.answerStatus]
  all_goals (first | done | simp)

@[simp] theorem State.answerLobes_frame (s : State) :
    s.answerLobes.pending = s.pending ∧ s.answerLobes.draws = s.draws ∧ s.answerLobes.time = s.time ∧
    s.answerLobes.station = s.station ∧ s.answerLobes.settings = s.settings ∧ s.answerLobes.level = s.level ∧
    s.answerLobes.ident = s.ident ∧ s.answerLobes.pos = s.pos ∧ s.answerLobes.map = s.map ∧
    s.answerLobes.lobe = s.lobe ∧ s.answerLobes.cue = s.cue ∧ s.answerLobes.route = s.route ∧
    s.answerLobes.hop = s.hop ∧ s.answerLobes.src = s.src ∧ s.answerLobes.chk = s.chk ∧ s.answerLobes.soak = s.soak ∧
    s.answerLobes.margin = s.margin ∧ s.answerLobes.handover = s.handover ∧ s.answerLobes.supply = s.supply := by
  dsimp only [State.answerLobes]; repeat' split
  all_goals (first | done | simp)

@[simp] theorem State.answerMapCell_frame (column row : Nat) (s : State) :
    (s.answerMapCell column row).pending = s.pending ∧ (s.answerMapCell column row).draws = s.draws ∧
    (s.answerMapCell column row).time = s.time ∧ (s.answerMapCell column row).station = s.station ∧
    (s.answerMapCell column row).settings = s.settings ∧ (s.answerMapCell column row).level = s.level ∧
    (s.answerMapCell column row).ident = s.ident ∧ (s.answerMapCell column row).pos = s.pos ∧
    (s.answerMapCell column row).map = s.map ∧ (s.answerMapCell column row).lobe = s.lobe ∧
    (s.answerMapCell column row).cue = s.cue ∧ (s.answerMapCell column row).route = s.route ∧
    (s.answerMapCell column row).hop = s.hop ∧ (s.answerMapCell column row).src = s.src ∧
    (s.answerMapCell column row).chk = s.chk ∧ (s.answerMapCell column row).soak = s.soak ∧
    (s.answerMapCell column row).margin = s.margin ∧ (s.answerMapCell column row).handover = s.handover ∧
    (s.answerMapCell column row).supply = s.supply := by
  dsimp only [State.answerMapCell]; repeat' split
  all_goals (first | done | simp)

@[simp] theorem State.answerPosition_frame (s : State) :
    s.answerPosition.pending = s.pending ∧ s.answerPosition.draws = s.draws ∧ s.answerPosition.time = s.time ∧
    s.answerPosition.station = s.station ∧ s.answerPosition.settings = s.settings ∧
    s.answerPosition.level = s.level ∧ s.answerPosition.ident = s.ident ∧ s.answerPosition.pos = s.pos ∧
    s.answerPosition.map = s.map ∧ s.answerPosition.lobe = s.lobe ∧ s.answerPosition.cue = s.cue ∧
    s.answerPosition.route = s.route ∧ s.answerPosition.hop = s.hop ∧ s.answerPosition.src = s.src ∧
    s.answerPosition.chk = s.chk ∧ s.answerPosition.soak = s.soak ∧ s.answerPosition.margin = s.margin ∧
    s.answerPosition.handover = s.handover ∧ s.answerPosition.supply = s.supply := by
  dsimp only [State.answerPosition]
  all_goals (first | done | simp)

@[simp] theorem State.refuseSetup_frame (reason : RefuseReason) (field : Nat) (s : State) :
    (s.refuseSetup reason field).pending = s.pending ∧ (s.refuseSetup reason field).draws = s.draws ∧
    (s.refuseSetup reason field).time = s.time ∧ (s.refuseSetup reason field).station = s.station ∧
    (s.refuseSetup reason field).settings = s.settings ∧ (s.refuseSetup reason field).level = s.level ∧
    (s.refuseSetup reason field).ident = s.ident ∧ (s.refuseSetup reason field).pos = s.pos ∧
    (s.refuseSetup reason field).map = s.map ∧ (s.refuseSetup reason field).lobe = s.lobe ∧
    (s.refuseSetup reason field).cue = s.cue ∧ (s.refuseSetup reason field).route = s.route ∧
    (s.refuseSetup reason field).hop = s.hop ∧ (s.refuseSetup reason field).src = s.src ∧
    (s.refuseSetup reason field).chk = s.chk ∧ (s.refuseSetup reason field).soak = s.soak ∧
    (s.refuseSetup reason field).margin = s.margin ∧ (s.refuseSetup reason field).handover = s.handover ∧
    (s.refuseSetup reason field).supply = s.supply := by
  dsimp only [State.refuseSetup]
  all_goals (first | done | simp)

@[simp] theorem State.takeRecord_frame (r : SetupRecord) (s : State) :
    (s.takeRecord r).pending = s.pending ∧ (s.takeRecord r).draws = s.draws ∧ (s.takeRecord r).time = s.time ∧
    (s.takeRecord r).ident = s.ident ∧ (s.takeRecord r).map = s.map ∧ (s.takeRecord r).lobe = s.lobe ∧
    (s.takeRecord r).route = s.route ∧ (s.takeRecord r).hop = s.hop ∧ (s.takeRecord r).src = s.src ∧
    (s.takeRecord r).chk = s.chk ∧ (s.takeRecord r).soak = s.soak ∧ (s.takeRecord r).margin = s.margin ∧
    (s.takeRecord r).handover = s.handover ∧ (s.takeRecord r).site = s.site := by
  dsimp only [State.takeRecord]
  all_goals (first | done | simp)

@[simp] theorem State.acceptRecord_frame (r : SetupRecord) (s : State) :
    (s.acceptRecord r).pending = s.pending ∧ (s.acceptRecord r).time = s.time ∧ (s.acceptRecord r).ident = s.ident ∧
    (s.acceptRecord r).lobe = s.lobe ∧ (s.acceptRecord r).hop = s.hop ∧ (s.acceptRecord r).src = s.src ∧
    (s.acceptRecord r).chk = s.chk ∧ (s.acceptRecord r).soak = s.soak ∧ (s.acceptRecord r).margin = s.margin := by
  dsimp only [State.acceptRecord]
  all_goals (first | done | simp)

@[simp] theorem State.answerSetup_frame (r : SetupRecord) (s : State) :
    (s.answerSetup r).pending = s.pending ∧ (s.answerSetup r).time = s.time ∧ (s.answerSetup r).ident = s.ident ∧
    (s.answerSetup r).lobe = s.lobe ∧ (s.answerSetup r).hop = s.hop ∧ (s.answerSetup r).src = s.src ∧
    (s.answerSetup r).chk = s.chk ∧ (s.answerSetup r).soak = s.soak ∧ (s.answerSetup r).margin = s.margin := by
  dsimp only [State.answerSetup]; repeat' split
  all_goals (first | done | simp)

@[simp] theorem State.advance_frame (target : Phase) (role : Antenna) (s : State) :
    (s.advance target role).pending = s.pending ∧ (s.advance target role).time = s.time ∧
    (s.advance target role).station = s.station ∧ (s.advance target role).settings = s.settings ∧
    (s.advance target role).level = s.level ∧ (s.advance target role).ident = s.ident ∧
    (s.advance target role).pos = s.pos ∧ (s.advance target role).map = s.map ∧
    (s.advance target role).lobe = s.lobe ∧ (s.advance target role).cue = s.cue ∧
    (s.advance target role).src = s.src ∧ (s.advance target role).chk = s.chk ∧
    (s.advance target role).soak = s.soak ∧ (s.advance target role).margin = s.margin ∧
    (s.advance target role).handover = s.handover ∧ (s.advance target role).supply = s.supply := by
  dsimp only [State.advance]; repeat' split
  all_goals (first | done | simp)

@[simp] theorem State.answerAdvance_frame (target role : Byte) (s : State) :
    (s.answerAdvance target role).pending = s.pending ∧ (s.answerAdvance target role).time = s.time ∧
    (s.answerAdvance target role).station = s.station ∧ (s.answerAdvance target role).settings = s.settings ∧
    (s.answerAdvance target role).level = s.level ∧ (s.answerAdvance target role).ident = s.ident ∧
    (s.answerAdvance target role).pos = s.pos ∧ (s.answerAdvance target role).map = s.map ∧
    (s.answerAdvance target role).lobe = s.lobe ∧ (s.answerAdvance target role).cue = s.cue ∧
    (s.answerAdvance target role).src = s.src ∧ (s.answerAdvance target role).chk = s.chk ∧
    (s.answerAdvance target role).soak = s.soak ∧ (s.answerAdvance target role).margin = s.margin ∧
    (s.answerAdvance target role).handover = s.handover ∧ (s.answerAdvance target role).supply = s.supply := by
  dsimp only [State.answerAdvance]; repeat' split
  all_goals (first | done | simp)

@[simp] theorem State.answerAbort_frame (s : State) :
    s.answerAbort.pending = s.pending ∧ s.answerAbort.time = s.time ∧ s.answerAbort.station = s.station ∧
    s.answerAbort.settings = s.settings ∧ s.answerAbort.cue = s.cue ∧ s.answerAbort.chk = s.chk ∧
    s.answerAbort.supply = s.supply := by
  dsimp only [State.answerAbort]; repeat' split
  all_goals (first | done | simp)

@[simp] theorem State.answerZero_frame (s : State) :
    s.answerZero.pending = s.pending ∧ s.answerZero.draws = s.draws ∧ s.answerZero.time = s.time ∧
    s.answerZero.station = s.station ∧ s.answerZero.settings = s.settings ∧ s.answerZero.level = s.level ∧
    s.answerZero.ident = s.ident ∧ s.answerZero.map = s.map ∧ s.answerZero.lobe = s.lobe ∧ s.answerZero.cue = s.cue ∧
    s.answerZero.route = s.route ∧ s.answerZero.hop = s.hop ∧ s.answerZero.src = s.src ∧ s.answerZero.chk = s.chk ∧
    s.answerZero.soak = s.soak ∧ s.answerZero.margin = s.margin ∧ s.answerZero.handover = s.handover ∧
    s.answerZero.supply = s.supply := by
  dsimp only [State.answerZero]; repeat' split
  all_goals (first | done | simp)

@[simp] theorem State.answerCue_frame (b : Byte) (s : State) :
    (s.answerCue b).pending = s.pending ∧ (s.answerCue b).draws = s.draws ∧ (s.answerCue b).time = s.time ∧
    (s.answerCue b).station = s.station ∧ (s.answerCue b).settings = s.settings ∧ (s.answerCue b).level = s.level ∧
    (s.answerCue b).ident = s.ident ∧ (s.answerCue b).pos = s.pos ∧ (s.answerCue b).map = s.map ∧
    (s.answerCue b).lobe = s.lobe ∧ (s.answerCue b).route = s.route ∧ (s.answerCue b).hop = s.hop ∧
    (s.answerCue b).src = s.src ∧ (s.answerCue b).chk = s.chk ∧ (s.answerCue b).soak = s.soak ∧
    (s.answerCue b).margin = s.margin ∧ (s.answerCue b).handover = s.handover ∧ (s.answerCue b).supply = s.supply := by
  dsimp only [State.answerCue]; repeat' split
  all_goals (first | done | simp)

@[simp] theorem State.answerReports_frame (mask : BitVec 24) (s : State) :
    (s.answerReports mask).pending = s.pending ∧ (s.answerReports mask).draws = s.draws ∧
    (s.answerReports mask).time = s.time ∧ (s.answerReports mask).station = s.station ∧
    (s.answerReports mask).settings = s.settings ∧ (s.answerReports mask).level = s.level ∧
    (s.answerReports mask).ident = s.ident ∧ (s.answerReports mask).pos = s.pos ∧
    (s.answerReports mask).map = s.map ∧ (s.answerReports mask).lobe = s.lobe ∧ (s.answerReports mask).cue = s.cue ∧
    (s.answerReports mask).route = s.route ∧ (s.answerReports mask).hop = s.hop ∧
    (s.answerReports mask).src = s.src ∧ (s.answerReports mask).chk = s.chk ∧ (s.answerReports mask).soak = s.soak ∧
    (s.answerReports mask).margin = s.margin ∧ (s.answerReports mask).handover = s.handover ∧
    (s.answerReports mask).supply = s.supply := by
  dsimp only [State.answerReports]; repeat' split
  all_goals (first | done | simp)

@[simp] theorem State.leaveByRestart_frame (s : State) :
    s.leaveByRestart.pending = s.pending ∧ s.leaveByRestart.draws = s.draws ∧ s.leaveByRestart.time = s.time ∧
    s.leaveByRestart.station = s.station ∧ s.leaveByRestart.settings = s.settings ∧
    s.leaveByRestart.level = s.level ∧ s.leaveByRestart.ident = s.ident ∧ s.leaveByRestart.pos = s.pos ∧
    s.leaveByRestart.map = s.map ∧ s.leaveByRestart.lobe = s.lobe ∧ s.leaveByRestart.cue = s.cue ∧
    s.leaveByRestart.route = s.route ∧ s.leaveByRestart.hop = s.hop ∧ s.leaveByRestart.src = s.src ∧
    s.leaveByRestart.chk = s.chk ∧ s.leaveByRestart.soak = s.soak ∧ s.leaveByRestart.margin = s.margin ∧
    s.leaveByRestart.supply = s.supply := by
  dsimp only [State.leaveByRestart]; repeat' split
  all_goals (first | done | simp)

@[simp] theorem State.restartBlocks_frame (s : State) :
    s.restartBlocks.pending = s.pending ∧ s.restartBlocks.draws = s.draws ∧ s.restartBlocks.time = s.time ∧
    s.restartBlocks.station = s.station ∧ s.restartBlocks.settings = s.settings ∧
    s.restartBlocks.handover = s.handover ∧ s.restartBlocks.supply = s.supply := by
  dsimp only [State.restartBlocks]
  all_goals (first | done | simp)

@[simp] theorem State.answerRestart_frame (s : State) :
    s.answerRestart.pending = s.pending ∧ s.answerRestart.time = s.time ∧ s.answerRestart.station = s.station ∧
    s.answerRestart.settings = s.settings ∧ s.answerRestart.supply = s.supply := by
  dsimp only [State.answerRestart]; repeat' split
  all_goals (first | done | simp)

@[simp] theorem State.hardReset_frame (s : State) :
    s.hardReset.pending = s.pending ∧ s.hardReset.draws = s.draws := by
  dsimp only [State.hardReset]
  all_goals (first | done | simp)

@[simp] theorem State.handleRequest_frame (r : Request) (s : State) :
    (s.handleRequest r).pending = s.pending ∧ (s.handleRequest r).time = s.time := by
  dsimp only [State.handleRequest]; repeat' split
  all_goals (first | done | simp)

@[simp] theorem State.refuseUnknown_frame (type : Byte) (s : State) :
    (s.refuseUnknown type).pending = s.pending ∧ (s.refuseUnknown type).draws = s.draws ∧
    (s.refuseUnknown type).time = s.time ∧ (s.refuseUnknown type).station = s.station ∧
    (s.refuseUnknown type).settings = s.settings ∧ (s.refuseUnknown type).level = s.level ∧
    (s.refuseUnknown type).ident = s.ident ∧ (s.refuseUnknown type).pos = s.pos ∧
    (s.refuseUnknown type).map = s.map ∧ (s.refuseUnknown type).lobe = s.lobe ∧ (s.refuseUnknown type).cue = s.cue ∧
    (s.refuseUnknown type).route = s.route ∧ (s.refuseUnknown type).hop = s.hop ∧
    (s.refuseUnknown type).src = s.src ∧ (s.refuseUnknown type).chk = s.chk ∧ (s.refuseUnknown type).soak = s.soak ∧
    (s.refuseUnknown type).margin = s.margin ∧ (s.refuseUnknown type).handover = s.handover ∧
    (s.refuseUnknown type).supply = s.supply := by
  dsimp only [State.refuseUnknown]; repeat' split
  all_goals (first | done | simp)

@[simp] theorem State.answerMessage_frame (type : Byte) (body : List Byte) (s : State) :
    (s.answerMessage type body).pending = s.pending ∧ (s.answerMessage type body).time = s.time := by
  dsimp only [State.answerMessage]; repeat' split
  all_goals (first | done | simp)

@[simp] theorem State.takeMessage_frame (message : List Byte) (s : State) :
    (s.takeMessage message).pending = s.pending ∧ (s.takeMessage message).time = s.time := by
  dsimp only [State.takeMessage, State.request]; repeat' split
  all_goals simp

@[simp] theorem State.takeMessageByte_frame (bytes : List Byte) (s : State) :
    (s.takeMessageByte bytes).pending = s.pending ∧ (s.takeMessageByte bytes).time = s.time := by
  dsimp only [State.takeMessageByte]; repeat' split
  all_goals simp

@[simp] theorem State.takeSiteCharacter_frame (s : State) (b : Byte) :
    (s.takeSiteCharacter b).pending = s.pending ∧ (s.takeSiteCharacter b).time = s.time := by
  dsimp only [State.takeSiteCharacter]; repeat' split
  all_goals simp

@[simp] theorem State.takeSiteCharacters_frame (bytes : List Byte) (s : State) :
    (s.takeSiteCharacters bytes).pending = s.pending ∧ (s.takeSiteCharacters bytes).time = s.time := by
  induction bytes generalizing s with
  | nil => simp [State.takeSiteCharacters]
  | cons b bs ih =>
    have h := ih (s.takeSiteCharacter b)
    simp only [State.takeSiteCharacters, List.foldl_cons] at h ⊢
    simpa using h

end Sys2Proof.Machine
end

