-- ==== Sys2Proof/Tests/Slice0.lean ====
section
/-! SUPPORT. The model's own tests: the operand checks, one small step of each command, and a state and operands
that meet the hypotheses of each statement. -/

namespace Sys2Proof.Tests

open Sys2Proof.Machine

set_option Elab.async false

/-! ### Small states -/

/-- End A of hop 2, station 3, with partner station 5. -/
def own : Station := { number := 3, hop := 2, partner := 5, hopEnd := .a }

/-- Its partner's header. -/
def header : Header := { source := 5, dest := 0, hop := 2, hopEnd := .b }

def onTime (f : Timebase → Timebase) (s : State) : State := { s with time := f s.time }
def onSettings (f : Settings → Settings) (s : State) : State := { s with settings := f s.settings }
def onLevel (f : LevelUnit → LevelUnit) (s : State) : State := { s with level := f s.level }
def onIdent (f : Identifier → Identifier) (s : State) : State := { s with ident := f s.ident }
def onPos (f : Position → Position) (s : State) : State := { s with pos := f s.pos }
def onMap (f : AlignMap → AlignMap) (s : State) : State := { s with map := f s.map }
def onLobe (f : Analyser → Analyser) (s : State) : State := { s with lobe := f s.lobe }
def onCue (f : Cue → Cue) (s : State) : State := { s with cue := f s.cue }
def onRoute (f : Route → Route) (s : State) : State := { s with route := f s.route }
def onHop (f : Coordinator → Coordinator) (s : State) : State := { s with hop := f s.hop }
def onSrc (f : Source → Source) (s : State) : State := { s with src := f s.src }
def onChk (f : Checker → Checker) (s : State) : State := { s with chk := f s.chk }
def onSoak (f : Soak → Soak) (s : State) : State := { s with soak := f s.soak }
def onMargin (f : Margin → Margin) (s : State) : State := { s with margin := f s.margin }
def onSite (f : Site → Site) (s : State) : State := { s with site := f s.site }
def onSupply (f : Supply → Supply) (s : State) : State := { s with supply := f s.supply }

/-- The station configured, in IDLE. -/
def idle : State := { State.reset with station := some own }

def inPhase (p : Phase) : State := onHop (fun h => { h with phase := p }) idle

/-- The partner has been heard. -/
def heard (s : State) : State :=
  onRoute (fun r => { r with roster := [RosterEntry.fresh header], partner := .live }) s

/-- The output queue holds n replies. -/
def holding (n : Nat) (s : State) : State :=
  onSite (fun p => { p with out := List.replicate n (.accepted .abort []) }) s

def settingDiversity (s : State) : State := onSettings (fun x => { x with diversity := true }) s

/-- What a command's next state shows. -/
def after (i : Instr) (s : State) (p : State → Bool) : Bool :=
  match exec i s with
  | .next t => p t
  | .fault _ => false
  | .refused _ => false

/-- A command leaves the state as it is. -/
def idles (i : Instr) (s : State) : Bool := after i s fun t => t == s

/-- A request is answered with this message alone. -/
def replies (i : Instr) (s : State) (m : SiteMessage) : Bool :=
  after i s fun t => t == onSite (fun p => { p with out := p.out ++ [m] }) s

def codes (n : Nat) : ByInput Nat := { detA := n, detB := n, detC := n, detD := n }

/-- A Setup Record with every value in its range. -/
def record : SetupRecord :=
  let cal : Calibration := { offset := -1100, slope := 64 }
  let profile : ProfileFields :=
    { shift := 3, filter := 8, thresholds := { coMain := -900, xMain := -900, coDiv := -900, xDiv := -900 }
      hysteresis := 20, cueOn := 1 }
  { station := 3, hop := 2, partner := 5, hopEnd := 0
    calibration := { detA := cal, detB := cal, detC := cal, detD := cal }
    inputs := { coMain := 0, xMain := 1, coDiv := 2, xDiv := 3 }, diversity := 0, dualPol := 0
    predictedMain := -600, predictedDiv := -600, mainTolerance := 30, sideDepth := 180, asymmetryLimit := 30
    requiredXpd := 280, imbalanceLimit := 60, columns := 16, rows := 8, cellWidth := 4, cellHeight := 4
    filterTicks := 8, align := profile, soak := profile, toneFloor := -900, toneStep := 5, meterFloor := -1000
    meterSpan := 500, modulus := 64, words := none, soakMinutes := 60, maxErrored := 20, maxBad := 0, maxOutage := 0
    marginEnable := 1, marginStep := 2, marginDwell := 10, requiredMargin := 30, attenSources := 1, supplyLow := 0 }

def statusBody (p : Phase) : StatusBody :=
  { phase := p, lastStation := 0, lastNumber := 0, mainConfirmed := false, divConfirmed := false, wantsLevel := false
    supplyLow := false, clash := false, ident := .own, level := some (-600), soakSeconds := 0
    progress := { direction := 0, role := .none, step := 0, doneOne := false, doneTwo := false } }

def levelBody : LevelBody := { antenna := .main, level := some (-600), range := .inRange, ident := .own }

def proposeBody (p : Phase) : ProposeBody := { number := 7, target := p, role := .main }

def answerBody (p : Phase) (accept : Bool) (r : Option DeclineReason) : AnswerBody :=
  { proposer := 3, number := 9, target := p, accept := accept, reason := r }

def verdictBody : VerdictRecord :=
  { id := { proposer := 3, number := 9 }, role := .main, verdict := .mainFound
    top := some { level := -600, deviation := 0 }, predicted := -600, xpd := none, diversity := none
    positionSuspect := false, foreignSeen := false, outsideSeen := false, listOverflow := false }

def digestBody : DigestBody :=
  { final := true, verdict := some .pass, incomplete := false, seconds := 900, clean := 900, errored := 0, bad := 0
    outage := 0, periods := 0, fades := 0, deepest := none }

def mtestBody (step : Nat) : MtestBody :=
  { direction := .one, step := step, atten := 0, margin := 40, capped := false, atZero := false }

/-! ### The operand checks refuse what their rules exclude -/

theorem test_wellFormed_accepts :
    ([.sampleEvent (codes 4095), .fadeStart .coMain (-1200), .fadeEnd .coMain (-100), .blockClose (-600),
      .setup record, .unknownRequest 9 [], .siteFramingError 65535, .siteChecksumError [1],
      .routeFrameDiscarded [1], .receiveStatus header (statusBody .idle), .receiveLevel header levelBody,
      .receivePropose header (proposeBody .beacon), .receiveAnswer header (answerBody .beacon true none),
      .receiveVerdict header verdictBody, .receiveDigest header digestBody, .mtestStep header (mtestBody 1),
      .mtestLimit header (mtestBody 255), .mtestDone header (mtestBody 0)] : List Instr).all Instr.wellFormed = true := by
  decide +kernel

theorem test_wellFormed_refuses_levels_and_codes :
    ([.sampleEvent { codes 0 with detC := 4096 }, .fadeStart .xMain (-1201), .fadeStart .xMain (-99),
      .fadeEnd .coDiv (-1201), .blockClose (-99)] : List Instr).all (fun i => !i.wellFormed) = true := by
  decide +kernel

theorem test_wellFormed_refuses_records :
    ([{ record with station := 256 }, { record with sideDepth := 65536 }, { record with toneFloor := 32768 },
      { record with calibration := { record.calibration with detB := { offset := 0, slope := 256 } } },
      { record with calibration := { record.calibration with detB := { offset := -32769, slope := 0 } } },
      { record with inputs := { record.inputs with xDiv := 256 } },
      { record with align := { record.align with hysteresis := 256 } },
      { record with soak := { record.soak with thresholds := { record.soak.thresholds with xDiv := 32768 } } },
      { record with words := some [1, 2, 3] }] : List SetupRecord).all
        (fun r => !(Instr.setup r).wellFormed) = true := by
  decide +kernel

theorem test_wellFormed_refuses_messages :
    ([.unknownRequest 9 (List.replicate 1024 0), .siteFramingError 65536, .siteChecksumError [],
      .siteChecksumError (List.replicate 1029 0), .routeFrameDiscarded [],
      .routeFrameDiscarded (List.replicate 37 0)] : List Instr).all (fun i => !i.wellFormed) = true := by
  decide +kernel

theorem test_wellFormed_refuses_headers :
    ([{ header with source := 0 }, { header with source := 16 }, { header with dest := 16 }, { header with hop := 0 },
      { header with hop := 8 }] : List Header).all
        (fun h => !(Instr.receiveLevel h levelBody).wellFormed && !(Instr.mtestDone h (mtestBody 0)).wellFormed) =
      true := by
  decide +kernel

theorem test_wellFormed_refuses_bodies :
    ([.receiveStatus header { statusBody .idle with lastStation := 16 },
      .receiveStatus header { statusBody .idle with lastNumber := 256 },
      .receiveStatus header { statusBody .idle with ident := .foreign 8 },
      .receiveStatus header { statusBody .idle with level := some 32768 },
      .receiveStatus header { statusBody .idle with soakSeconds := 16777216 },
      .receiveStatus header
        { statusBody .idle with
          progress := { direction := 3, role := .none, step := 0, doneOne := false, doneTwo := false } },
      .receiveLevel header { levelBody with ident := .foreign 0 },
      .receivePropose header { proposeBody .beacon with number := 0 },
      .receivePropose header { proposeBody .beacon with role := .div },
      .receiveAnswer header { answerBody .beacon true none with proposer := 0 },
      .receiveVerdict header { verdictBody with id := { proposer := 16, number := 1 } },
      .receiveVerdict header { verdictBody with top := some { level := 32768, deviation := 0 } },
      .receiveVerdict header { verdictBody with xpd := some (-32769) },
      .receiveDigest header { digestBody with outage := 16777216 },
      .receiveDigest header { digestBody with fades := 65536 },
      .mtestStep header (mtestBody 256), .mtestLimit header { mtestBody 1 with atten := 64 },
      .mtestDone header { mtestBody 1 with margin := 64 }] : List Instr).all (fun i => !i.wellFormed) = true := by
  decide +kernel

/-! ### The queue, the tick and the resets -/

theorem witness_EmptyQueueStepIsOneTick :
    idle.pending = [] ∧ idle.time.firstTick = true ∧
      (onTime (fun t => { t with firstTick := false }) idle).time.firstTick = false ∧
      (onTime (fun t => { t with firstTick := false }) idle).settleTick =
        onTime (fun t => { t with firstTick := false }) idle := by
  decide +kernel

theorem test_step_takes_the_front :
    (match step { idle with pending := [.cue 1, .zero] } with
      | .next t => t.cue.source == .partner && t.pending == [.zero]
      | _ => false) = true := by
  decide +kernel

theorem test_hardReset :
    after .hardReset (inPhase .soak) (fun t => t == State.reset) = true := by decide +kernel

theorem witness_RestartReturnsToIdle :
    State.reset.station = none ∧ (holding 7 State.reset).site.out.length < 8 ∧ idle.station = some own ∧
      (holding 7 (inPhase .handover)).site.out.length < 8 ∧ (inPhase .soak).hop.phase ≠ .handover := by
  decide +kernel

theorem test_restart :
    after .restart (inPhase .soak)
      (fun t => t.hop.phase == .idle && t.site.out == [.accepted .restart []] && t.route.statusTimer.isSome) =
      true ∧ replies .restart State.reset (.refused 5 .unconfigured none) = true := by
  constructor <;> rfl

/-! ### Level unit and identifier -/

/-- Input A with its range warning set and n IN samples. -/
def warned (n : Nat) : State :=
  onLevel (fun u => { u with inputs := u.inputs.set .detA { u.inputs.detA with warning := true, inCount := n } }) idle

theorem witness_SampleConvertsAndWatchesRange :
    ((warned 999).level.inputs.detA.warning = true ∧ 999 ≤ (warned 999).level.inputs.detA.inCount) ∧
      (warned 998).level.inputs.detA.inCount < 999 ∧ idle.level.inputs.detA.warning = false ∧
      (codes 15).detA ≤ 15 ∧ 15 < (codes 16).detA ∧ (codes 4079).detA < 4080 ∧ 4080 ≤ (codes 4080).detA := by
  decide +kernel

theorem test_rangeWarningClear :
    after (.rangeWarningClear .detA) (warned 999) (fun t => !t.level.inputs.detA.warning) = true ∧
      idles (.rangeWarningClear .detA) (warned 998) = true := by
  decide +kernel

theorem test_sampleEvent_converts :
    after (.sampleEvent (codes 2000)) idle
      (fun t => t.level.inputs.detA.sample == -600 && t.time.now == { second := 0, index := 1 }) = true ∧
    after (.sampleEvent (codes 15)) idle (fun t => t.site.flags.contains (.range .detA)) = true := by
  decide +kernel

/-- CO-MAIN seeded at -60 dBm, the steering gate standing at -50 dBm. -/
def gated : State :=
  onIdent (fun d => { d with running := true, state := .own, decision := some (-500) })
    (onLevel
      (fun u => { u with channels := u.channels.set .coMain { u.channels.coMain with acc := -153600, fresh := false } })
      (inPhase .sweep))

theorem witness_SampleAverages :
    Skipped gated .coMain (roleSample gated (codes 2000) .coMain) ∧
      ¬ Skipped idle .coMain (roleSample idle (codes 2000) .coMain) ∧
      gated.level.channels.coMain.fresh = false ∧ ¬ Skipped gated .xMain (roleSample gated (codes 2000) .xMain) := by
  refine ⟨⟨rfl, rfl, -500, rfl, by decide +kernel⟩, fun h => absurd h.2.1 (by decide), rfl, ?_⟩
  exact fun h => absurd h.1 (by decide)

theorem witness_FirstAdmittedSampleSeeds :
    (gated.level.channels.get .xMain).fresh = true ∧ ¬ Skipped gated .xMain (roleSample gated (codes 2000) .xMain) ∧
      ((onLevel (fun _ => LevelUnit.reset) gated).level.channels.get .coMain).fresh = true ∧
      Skipped (onLevel (fun _ => LevelUnit.reset) gated) .coMain
        (roleSample (onLevel (fun _ => LevelUnit.reset) gated) (codes 2000) .coMain) := by
  refine ⟨rfl, fun h => absurd h.1 (by decide), rfl, rfl, rfl, -500, rfl, by decide +kernel⟩

/-- CO-MAIN's comparator in a state, with a run of n. -/
def fading (f : FadeState) (n : Nat) (s : State) : State :=
  onLevel
    (fun u =>
      { u with
        channels :=
          u.channels.set .coMain { u.channels.coMain with cmp := { u.channels.coMain.cmp with state := f, run := n } } })
    s

/-- A fade of 1 s down to -90.1 dBm, and a list that holds it 16 times. -/
def shallow : FadeEntry :=
  { role := .coMain, start := { second := 1, index := 0 }, duration := 1000, deepest := -901, cut := false }

def fullList (s : State) : State := onSoak (fun k => { k with list := List.replicate 16 shallow }) s

/-- The entry of an open fade of X-MAIN, n tenths of a dB deeper than those of the full list, cut. -/
def cut (s : State) (n : Nat) : FadeEntry :=
  cutEntry s.time.now 0 .xMain { start := { second := 0, index := 0 }, deepest := -901 - n }

theorem witness_FadesStartAndEnd :
    idle.profile.thresholds.coMain = -900 ∧ idle.profile.filter = 8 ∧ idle.profile.hysteresis = 20 ∧
      (fading .clear 7 idle).level.channels.coMain.cmp.run = 7 ∧
      (onSoak (fun k => { k with state := .opened }) idle).soak.running = true ∧ fitted idle.settings .coMain = true ∧
      fitted idle.settings .coDiv = false ∧ idle.soak.running = false ∧
      (fading .faded 7 idle).level.channels.coMain.cmp.state = .faded ∧ idle.soak.list.length < 16 ∧
      (fullList idle).soak.list = List.replicate 15 shallow ++ [shallow] ∧ (cut idle 1).deepest < shallow.deepest ∧
      shallow.deepest ≤ (cut idle 0).deepest := by
  decide +kernel

theorem test_fadeStart :
    after (.fadeStart .coMain (-901)) (fading .clear 7 (onSoak (fun k => { k with state := .opened }) idle))
      (fun t => t.level.channels.coMain.cmp.state == .faded && t.soak.fades.coMain.count == 1) = true ∧
    idles (.fadeStart .coMain (-900)) (fading .clear 7 idle) = true ∧
    idles (.fadeStart .coMain (-901)) (fading .clear 6 idle) = true := by
  decide +kernel

theorem test_fadeEnd :
    after (.fadeEnd .coMain (-880)) (fading .faded 7 idle)
      (fun t => t.level.channels.coMain.cmp.state == .clear && t.site.flags == [.fade .coMain]) = true ∧
    idles (.fadeEnd .coMain (-881)) (fading .faded 7 idle) = true := by
  decide +kernel

theorem test_fade_list :
    (((fullList idle).soak.enterFade (cut idle 1)).list.map FadeEntry.deepest).head? = some (-902) ∧
      ((fullList idle).soak.enterFade (cut idle 1)).list.length = 16 ∧
      ((fullList idle).soak.enterFade (cut idle 0)).list = (fullList idle).soak.list ∧
      ((fullList idle).soak.enterFade (cut idle 0)).discards = 1 := by
  decide +kernel

/-- The identifier's block has n samples, and k blocks stand closed. -/
def blocks (n k : Nat) : State :=
  onIdent
    (fun d => { d with running := true, blockCount := n, closed := List.replicate k { hi := -500, lo := -700 } })
    (inPhase .sweep)

theorem witness_BlockCloses :
    (blocks 249 4).ident.running = true ∧ 249 ≤ (blocks 249 4).ident.blockCount ∧
      (blocks 249 4).ident.closed.length ≤ 4 ∧ (blocks 248 3).ident.blockCount < 249 ∧ idle.ident.running = false := by
  decide +kernel

theorem test_blockClose :
    after (.blockClose (-600)) (blocks 249 3)
      (fun t => t.ident.closed.length == 4 && t.ident.swing == some 200 && t.ident.decision == some (-600) &&
        t.ident.state == .unsure) = true ∧
    idles (.blockClose (-600)) (blocks 248 3) = true := by
  decide +kernel

/-! ### Timebase, snapshot, map, joint fades -/

def atTime (second index : Nat) (s : State) : State :=
  onTime (fun t => { t with now := { second := second, index := index } }) s

/-- The beacon is KEYED, the keying counter at n. -/
def keying (n : Nat) : State :=
  onSrc (fun x => { x with beacon := { live := .keyed, staged := .keyed, pending := false }, keyCount := n }) idle

theorem witness_SampleAdvancesTimeAndLatches :
    Quiet (atTime 0 998 idle) ∧ Quiet (atTime 4294967295 999 idle) ∧ (atTime 0 998 idle).time.now.index < 999 ∧
      (atTime 4294967295 999 idle).time.now.second ≤ 4294967295 ∧ Quiet (keying 50) ∧ Quiet (keying 51) ∧
      (keying 50).src.beacon.live = .keyed ∧ idle.src.beacon.live ≠ .keyed ∧
      (keying 50).src.keyCount + 1 < halfPeriod (keying 50).ownHop ∧
      halfPeriod (keying 51).ownHop ≤ (keying 51).src.keyCount + 1 := by
  unfold Quiet; decide +kernel

theorem test_sampleEvent_brings_the_second :
    after (.sampleEvent (codes 2000)) (atTime 4 999 idle)
      (fun t => t.time.now == { second := 5, index := 0 } && t.time.secondDue) = true := by
  decide +kernel

/-- SWEEP with the map recording. -/
def sweeping : State :=
  onIdent (fun d => { d with running := true })
    (onMap (fun m => { m with state := .recording, role := some .main }) (inPhase .sweep))

def hearingForeign : State := onIdent (fun d => { d with state := .foreign 5 }) sweeping

def axisAt (n : Int) (saturated : Bool) (s : State) : State :=
  onPos
    (fun p => { p with axes := p.axes.set .az { p.axes.az with count := n, saturated := saturated } }) s

/-- The map's middle cell visited once. -/
def visited : State :=
  onMap
    (fun m => { m with cells := [{ column := 8, row := 4, count := 255, best := -700, visit := 1 }], visits := 1
                       best := some { level := -700, cell := { column := 8, row := 4 } } })
    sweeping

theorem witness_SampleIsMapped :
    Quiet sweeping ∧ Quiet hearingForeign ∧ Quiet (axisAt 32767 true sweeping) ∧ Quiet (axisAt 32 false sweeping) ∧
      Quiet visited ∧ sweeping.map.state = .recording ∧ idle.map.state ≠ .recording ∧
      after (.sampleEvent (codes 2000)) hearingForeign (fun t => t.map.foreign == 1) = true ∧
      after (.sampleEvent (codes 2000)) (axisAt 32767 true sweeping) (fun t => t.map.saturated == 1) = true ∧
      after (.sampleEvent (codes 2000)) (axisAt 32 false sweeping) (fun t => t.map.outside == 1) = true ∧
      after (.sampleEvent (codes 2000)) (axisAt 31 false sweeping)
        (fun t => t.map.cells == [{ column := 15, row := 4, count := 1, best := -600, visit := 1 }]) = true ∧
      after (.sampleEvent (codes 2000)) visited
        (fun t => t.map.cells == [{ column := 8, row := 4, count := 255, best := -600, visit := 1 }]) = true := by
  unfold Quiet; decide +kernel

/-- Both co-polar comparators FADED in an OPEN soak with diversity fitted. -/
def jointlyFaded : State :=
  onLevel
    (fun u =>
      { u with
        channels :=
          u.channels.set .coDiv { u.channels.coDiv with cmp := { u.channels.coDiv.cmp with state := .faded } } })
    (fading .faded 0 (settingDiversity (onSoak (fun k => { k with state := .opened }) (inPhase .soak))))

theorem witness_JointFadesAreCounted :
    Quiet jointlyFaded ∧ jointlyFaded.soak.running = true ∧ jointlyFaded.settings.diversity = true ∧
      after (.sampleEvent (codes 0)) jointlyFaded
        (fun t => t.level.channels.coMain.cmp.state == .faded && t.level.channels.coDiv.cmp.state == .faded &&
          t.soak.joint == 1) = true ∧
      idle.soak.running = false ∧ idle.settings.diversity = false := by
  unfold Quiet; decide +kernel

/-! ### Position counter -/

/-- The azimuth lines have stood raw high for n ticks, where named, the count being c. -/
def turned (a b : Bool) (n : Nat) (c : Int) (s : State) : State :=
  let line (high : Bool) : LineState := { raw := high, filtered := false, candidate := n }
  onPos (fun p => { p with axes := p.axes.set .az { p.axes.az with lineA := line a, lineB := line b, count := c } }) s

theorem witness_EncoderTransitionCountsOrSlips :
    (turned true false 7 0 idle).pos.axes.az.lineA.due 8 = false ∧
      (turned true false 8 0 idle).pos.axes.az.lineA.due 8 = true ∧
      (turned true false 8 0 idle).pos.axes.az.lineB.due 8 = false ∧
      (turned true true 8 0 sweeping).pos.axes.az.lineB.due 8 = true ∧ sweeping.hop.phase = .sweep ∧
      (sweeping.map.slips.get .az).flag = false ∧ idle.settings.filterTicks = 8 := by
  decide +kernel

theorem test_encoderTransition :
    after (.encoderTransition .az) (turned true false 8 32766 idle) (fun t => t.pos.axes.az.count == 32767) = true ∧
    after (.encoderTransition .az) (turned true false 8 32767 idle) (fun t => t.pos.axes.az.saturated) = true ∧
    after (.encoderTransition .az) (turned false true 8 (-32768) idle)
      (fun t => t.pos.axes.az.count == -32768 && t.pos.axes.az.saturated) = true ∧
    after (.encoderTransition .az) (turned true true 8 0 sweeping)
      (fun t => t.pos.axes.az.slipped && (t.map.slips.get .az).flag && t.site.flags == [.slip]) = true ∧
    idles (.encoderTransition .az) (turned true false 7 0 idle) = true := by
  decide +kernel

/-! ### Lobe analyser -/

/-- A running analysis of a sweep of MAIN that visited one cell. -/
def analysing : State :=
  onLobe (fun a => { a with state := .running, id := some { proposer := 3, number := 9 }, result := .pending })
    (onMap (fun m => { m with state := .frozen, role := some .main, visits := 1
                              cells := [{ column := 8, row := 4, count := 1, best := -600, visit := 1 }] })
      (inPhase .confirm))

theorem witness_AnalysisCompletes :
    idle.lobe.state ≠ .running ∧ analysing.lobe.state = .running ∧
      analysing.lobe.id = some { proposer := 3, number := 9 } ∧ analysing.map.role = some .main ∧
      analysing.lobe.held = none ∧
      (onLobe (fun a => { a with held := some verdictBody }) analysing).lobe.held = some verdictBody := by
  decide +kernel

theorem test_analysisComplete :
    after .analysisComplete analysing
      (fun t => t.lobe.state == .complete && (t.lobe.own.map VerdictRecord.verdict) == some .unresolved &&
        t.lobe.repeatTimer == some 5000 && t.site.flags == [.verdict]) = true ∧
    idles .analysisComplete idle = true := by
  constructor <;> rfl

theorem witness_LobeListHoldsTheMaxima :
    lobeList idle.settings.geometry 180
        [{ column := 0, row := 0, count := 1, best := -780, visit := 1 },
          { column := 8, row := 4, count := 1, best := -600, visit := 2 }] =
      [{ cell := { column := 8, row := 4 }, level := -600, visit := 2, neighbours := 0, supported := false
         edge := false, rank := .top },
        { cell := { column := 0, row := 0 }, level := -780, visit := 1, neighbours := 0, supported := false
          edge := true, rank := .side }] := by
  decide +kernel

/-- n visited cells of one row, none a neighbour of another, each as high as the first. -/
def apart (n : Nat) : List CellRecord :=
  (List.range n).map fun i => { column := 2 * i, row := 0, count := 1, best := -700, visit := i + 1 }

theorem test_lobe_overflow :
    (lobeList idle.settings.geometry 180 (apart 10)).map LobeEntry.visit = [1, 2, 3, 4, 5, 6, 7, 8] ∧
      lobeOverflow (apart 10) = 2 := by
  decide +kernel

/-- The analysis has stored its record. -/
def analysed (result : CrossResult) (s : State) : State :=
  onLobe (fun a => { a with state := .complete, own := some verdictBody, result := result }) s

theorem witness_VerdictIsTaken :
    Delivered own header (inPhase .sweep) ∧ Delivered own header analysing ∧
      Delivered own header (analysed .pending analysing) ∧ Delivered own header idle ∧ verdictBody.wellFormed = true ∧
      analysing.lobe.id = some verdictBody.id ∧ analysing.lobe.own = none ∧
      (analysed .pending analysing).lobe.own = some verdictBody ∧
      (analysed .confirmed analysing).lobe.result ≠ .pending ∧
      analysing.lobe.id ≠ some { proposer := 5, number := 9 } := by
  unfold Delivered Listening; decide +kernel

theorem test_receiveVerdict :
    after (.receiveVerdict header verdictBody) (analysed .pending analysing)
      (fun t => t.lobe.result == .confirmed && t.lobe.confirmed.main) = true ∧
    after (.receiveVerdict header verdictBody) idle (fun t => t.lobe.ignored == 1) = true := by
  decide +kernel

/-! ### Cue unit -/

/-- An update of the cue is due under a source. -/
def cueing (source : CueSource) (s : State) : State :=
  onCue (fun c => { c with updateDue := true, source := source }) s

/-- The partner's level was set at 0.0. -/
def partnerLevelHeld (s : State) : State :=
  onRoute
    (fun r =>
      { r with
        roster := [{ RosterEntry.fresh header with level := some { level := -700, time := { second := 0, index := 0 } } }]
        partner := .live })
    s

/-- CO-MAIN stands at -60.0 dBm. -/
def levelled (s : State) : State :=
  onLevel
    (fun u => { u with channels := u.channels.set .coMain { u.channels.coMain with acc := -153600, fresh := false } }) s

theorem witness_CueUpdates :
    idle.cue.updateDue = false ∧ (cueing .steer idle).cue.updateDue = true ∧
      (atTime 2 1 (partnerLevelHeld idle)).time.now.since { second := 0, index := 0 } = 2001 ∧
      (atTime 2 0 (partnerLevelHeld idle)).time.now.since { second := 0, index := 0 } = 2000 ∧
      (partnerLevelHeld idle).partnerLevel = some { level := -700, time := { second := 0, index := 0 } } ∧
      (levelled visited).level.steeringLevel = some (-600) ∧ visited.map.best.map SweepBest.level = some (-700) ∧
      idle.level.steeringLevel = none ∧ idle.lobe.top.map LobeEntry.level = none ∧ idle.profile.cueOn = true ∧
      hearingForeign.ident.state = .foreign 5 := by
  decide +kernel

/-- The cadence boundary of STALE is due, an update with it, and the meter stands within a period. -/
def staleAgain : State :=
  onCue
    (fun c =>
      { c with tone := .stale, cadence := 250, cadenceDue := true, liveDuty := 7, periodCounter := 9, periodDue := true })
    (cueing .partner (atTime 2 1 (partnerLevelHeld idle)))

theorem witness_CueUpdates_figures :
    staleAgain.cue.updateDue = true ∧ staleAgain.cue.tone = .stale ∧ staleAgain.cue.cadenceDue = true ∧
      (cueing .relative (levelled visited)).cue.source = .relative := by
  decide +kernel

/-- What QUERY STATUS shows of the cue unit after an update (R102), and what an update leaves as it is. -/
theorem test_cueUpdate_figures :
    after .cueUpdate staleAgain
      (fun t => t.cue.cadenceDue && t.cue.shown.tone == .stale && t.cue.shown.cadence == 250 &&
        t.cue.shown.age == some 2001 && t.cue.shown.reference == none && t.cue.liveDuty == 7 &&
        t.cue.periodCounter == 9 && t.cue.periodDue) = true ∧
    after .cueUpdate (cueing .relative (levelled visited))
      (fun t => t.cue.shown.reference == some (-700) && t.cue.shown.used == some 100 &&
        t.cue.shown.stagedHalf == 136 && t.cue.shown.stagedDuty == 63 && t.cue.shown.modulus == 64) = true := by
  decide +kernel

theorem test_cueUpdate_tone :
    after .cueUpdate (cueing .steer (levelled sweeping))
      (fun t => t.cue.tone == .tone && t.cue.used == some (-600) && t.cue.stagedHalf == 640 - 8 * 60 &&
        t.cue.stagedDuty == 51 && !t.cue.updateDue) = true ∧
    after .cueUpdate (cueing .relative (levelled visited))
      (fun t => t.cue.used == some 100 && t.cue.stagedHalf == 136 && t.cue.stagedDuty == 63) = true ∧
    after .cueUpdate (cueing .partner (atTime 2 0 (partnerLevelHeld idle)))
      (fun t => t.cue.tone == .tone && t.cue.used == some (-700)) = true := by
  decide +kernel

theorem test_cueUpdate_other_states :
    after .cueUpdate (cueing .partner (atTime 2 1 (partnerLevelHeld idle)))
      (fun t => t.cue.tone == .stale && t.cue.used == none) = true ∧
    after .cueUpdate (cueing .steer hearingForeign) (fun t => t.cue.tone == .foreign && t.cue.stagedHalf == 640) =
      true ∧
    after .cueUpdate (cueing .steer (onSettings (fun x => { x with align := { x.align with cueOn := false } }) idle))
      (fun t => t.cue.tone == .off && t.cue.generator == .stopping) = true := by
  decide +kernel

/-- A cadence boundary is due at a count, under a tone and a generator state. -/
def cadence (x : ToneState) (n : Nat) (g : Generator) : State :=
  onCue (fun c => { c with tone := x, cadence := n, cadenceDue := true, generator := g }) idle

/-- The half-period and period counters stand at n. -/
def ticked (n : Nat) (g : Generator) : State :=
  onCue (fun c => { c with halfCounter := n, periodCounter := n, stagedDuty := 5, generator := g }) idle

theorem witness_CueEventsAct :
    idle.cue.cadenceDue = false ∧ (cadence .stale 250 .sounding).cue.cadenceDue = true ∧
      (cadence .stale 250 .sounding).cue.tone = .stale ∧ (cadence .stale 250 .silent).cue.generator ≠ .sounding ∧
      (cadence .stale 0 .silent).cue.cadence = 0 ∧ (cadence .foreign 125 .sounding).cue.tone = .foreign ∧
      (cadence .foreign 0 .sounding).cue.cadence = 0 ∧
      (ticked 639 .sounding).cue.halfCounter < (ticked 639 .sounding).cue.liveHalf ∧
      (ticked 640 .stopping).cue.liveHalf ≤ (ticked 640 .stopping).cue.halfCounter ∧
      (ticked 63 .silent).cue.periodDue = false ∧
      (onCue (fun c => { c with periodDue := true }) idle).cue.periodDue = true := by
  decide +kernel

theorem test_staleCadence :
    after .staleCadence (cadence .stale 250 .sounding) (fun t => t.cue.generator == .stopping) = true ∧
    after .staleCadence (cadence .stale 0 .silent) (fun t => t.cue.generator == .sounding && t.cue.output) = true ∧
    idles .staleCadence (cadence .foreign 0 .silent) = true := by
  decide +kernel

theorem test_foreignCadence :
    after .foreignCadence (cadence .foreign 125 .sounding) (fun t => t.cue.stagedHalf == 136) = true ∧
    idles .foreignCadence idle = true := by
  decide +kernel

theorem test_toneToggle :
    after .toneToggle (ticked 640 .sounding) (fun t => t.cue.output && t.cue.halfCounter == 0) = true ∧
    after .toneToggle (ticked 640 .stopping) (fun t => t.cue.generator == .silent) = true ∧
    idles .toneToggle (ticked 639 .sounding) = true := by
  decide +kernel

theorem test_meterPeriodStart :
    after .meterPeriodStart (onCue (fun c => { c with periodDue := true }) (ticked 0 .sounding))
      (fun t => t.cue.liveDuty == 5 && !t.cue.periodDue) = true ∧
    idles .meterPeriodStart (ticked 0 .sounding) = true := by
  decide +kernel

/-- n ticks of the cue unit. -/
def ticks : Nat → Cue → Cue
  | 0, c => c
  | n + 1, c => ticks n (c.startPeriod.tick 64)

theorem test_meter_output :
    ((List.range 128).filter fun n =>
      (ticks n { (ticked 0 .silent).cue with stagedDuty := 1, periodDue := true }).meterOutput) = [0, 64] := by
  decide +kernel

/-! ### Site port -/

theorem witness_QueriesAreAnswered :
    Room (holding 7 idle) ∧ (15 : Byte).toNat < idle.settings.geometry.columns ∧
      (7 : Byte).toNat < idle.settings.geometry.rows ∧ idle.settings.geometry.columns ≤ (16 : Byte).toNat ∧
      idle.settings.geometry.rows ≤ (8 : Byte).toNat ∧ idle.lobe.state ≠ .running ∧
      analysing.lobe.state = .running ∧ Room analysing := by
  unfold Room; decide +kernel

theorem test_queries_answer :
    ([.queryStatus, .queryLevels, .queryPosition, .queryMapCell 15 7, .queryMapSummary, .queryLobes, .queryVerdict,
      .queryRoster, .querySoak, .queryFades, .queryMargin, .queryHandover] : List Instr).all
        (fun i => after i idle fun t =>
          match t.site.out with | [.accepted _ _] => t.hop == idle.hop | _ => false) = true := by
  decide +kernel

theorem test_queries_refuse :
    replies .queryLobes analysing (.refused 2 .busy none) = true ∧
    replies (.queryMapCell 16 7) idle (.refused 2 .badField none) = true ∧
    replies (.queryMapCell 15 8) idle (.refused 2 .badField none) = true := by
  decide +kernel

theorem witness_OutputQueueTakesAndSends :
    isRequest .zero = true ∧ ¬ Room (holding 8 idle) ∧ idle.site.out = [] ∧ (holding 1 idle).site.out ≠ [] ∧
      (onSite (fun p => { p with sending := some (.accepted .abort []) }) idle).site.wire[5]? = some 0x7A ∧
      idle.site.wire.length = 0 := by
  unfold Room; decide +kernel

theorem test_siteMessageTransmit :
    after .siteMessageTransmit (holding 2 idle)
      (fun t => t.site.out.length == 1 && t.site.sending == some (.accepted .abort [])) = true ∧
    idles .siteMessageTransmit idle = true := by
  decide +kernel

theorem test_the_bytes_of_a_refusal :
    (SiteMessage.refused 1 .badField (some 3)).bytes = [0xA7, 0x00, 0x04, 0x81, 0x01, 0x0A, 0x03, 0x6D] ∧
      (SiteMessage.accepted .abort []).bytes = [0xA7, 0x00, 0x02, 0x80, 0x04, 0x7A] := by
  decide +kernel

theorem test_the_line_of_a_message :
    (List.range 11).map (onSite (fun p => { p with sending := some (.refused 4 .badField none) }) idle).site.lineAt =
      [false, true, true, true, false, false, true, false, true, true, false] := by
  decide +kernel

theorem test_full_queue_discards :
    after .zero (holding 8 (axisAt 5 false idle))
      (fun t => t.pos.axes.az.count == 5 && t.site.counters.overruns == 1 && t.site.out.length == 8) = true := by
  decide +kernel

theorem witness_SetupIsAnswered :
    State.reset.station = none ∧ State.reset.hop.phase = .idle ∧ Room State.reset ∧ record.wellFormed = true ∧
      1 ≤ record.station ∧ record.partner ≤ 15 ∧ record.partner ≠ record.station ∧ State.reset.route.inFlight = none ∧
      State.reset.route.waiting = [] ∧ idle.station ≠ none ∧ { record with station := 0 }.wellFormed = true ∧
      { record with station := 16 }.wellFormed = true ∧ { record with hop := 8 }.wellFormed = true ∧
      { record with partner := 3 }.wellFormed = true ∧
      (turned true false 7 0 idle).pos.axes.az.due idle.settings.filterTicks = false := by
  unfold Room; decide +kernel

theorem test_setup_accepts :
    after (.setup { record with modulus := 100, toneStep := 51 }) State.reset
      (fun t => t.station == some own && t.settings.modulus == 64 && t.settings.toneStep == 50 &&
        t.site.out == [.accepted (.setup [48, 51]) []]) = true := by
  decide +kernel

theorem test_setup_refuses :
    replies (.setup record) idle (.refused 1 .notNow (some 0)) = true ∧
    replies (.setup { record with station := 16 }) State.reset (.refused 1 .badField (some 1)) = true ∧
    replies (.setup { record with hop := 8 }) State.reset (.refused 1 .badField (some 2)) = true ∧
    replies (.setup { record with partner := 3 }) State.reset (.refused 1 .badField (some 3)) = true := by
  decide +kernel

/-- A message is being taken, these bytes of it held and this much of the gap left. -/
def takingSite (bytes : List Byte) (gap : Nat) : State := onSite (fun p => { p with framer := .taking bytes gap }) idle

theorem witness_BadMessagesAreCountedOrRefused :
    Room (holding 7 idle) ∧ 8 < (9 : Byte).toNat ∧ 4 ≤ (4 : Byte).toNat ∧ (6 : Byte).toNat ≤ 6 ∧
      idle.site.framer = .hunting ∧ (takingSite [] 0).site.framer = .taking [] 0 ∧ (0xA7 : Byte) ∉ [0x00, 0xFF] ∧
      nat16 0 0 = 0 ∧ 1024 < nat16 4 1 ∧ nat16 0 2 = [(6 : Byte)].length + 1 ∧ byteSum [0, 2, 6, 1, 0] ≠ 0 ∧
      byteSum [0, 2, 6, 1, 0xF7] = 0 := by
  unfold Room; decide +kernel

/-- A SETUP body of n bytes whose count of pattern words is c. -/
def misfit (n : Nat) (c : Byte) : List Byte := List.replicate 71 0 ++ c :: List.replicate (n - 72) 0

theorem witness_BadMessagesAreCountedOrRefused_setup :
    ¬ ((misfit 86 8).length = 86 ∧ (misfit 86 8)[71]? = some 0) ∧ (misfit 86 8).length = 86 ∧
      ¬ ((misfit 102 0).length = 102 ∧ (misfit 102 0)[71]? = some 8) ∧ (misfit 102 0).length = 102 := by
  decide +kernel

/-- A count of pattern words that the body's length does not bear out, or one other than 0 and 8 (R192, R195). -/
theorem test_setup_body_that_does_not_fit :
    replies (.unknownRequest 1 (misfit 86 8)) State.reset (.refused 1 .badField (some 0)) = true ∧
    replies (.unknownRequest 1 (misfit 102 0)) State.reset (.refused 1 .badField (some 0)) = true ∧
    replies (.unknownRequest 1 (misfit 102 7)) State.reset (.refused 1 .badField (some 0)) = true ∧
    replies (.unknownRequest 1 (misfit 86 0)) State.reset (.refused 1 .badField (some 1)) = true := by
  decide +kernel

theorem test_unknownRequest :
    replies (.unknownRequest 9 []) idle (.refused 9 .badField none) = true ∧
    replies (.unknownRequest 0 []) idle (.refused 0 .badField none) = true ∧
    replies (.unknownRequest 6 [0]) idle (.refused 6 .badField none) = true ∧
    replies (.unknownRequest 7 [1]) (onCue (fun c => { c with source := .partner }) idle)
      (.accepted (.cue .partner) []) = true := by
  decide +kernel

theorem test_site_errors_are_counted :
    after (.siteFramingError 0) idle (fun t => t.site.counters.malformed == 1) = true ∧
    after (.siteFramingError 1025) idle (fun t => t.site.counters.malformed == 1) = true ∧
    after (.siteGapTimeout ⟨.lowStop, some 0xA7⟩) (takingSite [0, 2] 3)
      (fun t => t.site.framer == .taking [] 5 && t.site.counters.malformed == 1) = true ∧
    idles (.siteGapTimeout ⟨.gap, none⟩) idle = true ∧
    after (.siteChecksumError [0xA7, 0, 2, 6, 1, 0]) idle
      (fun t => t.site.counters.checksum == 1 && t.site.framer == .hunting) = true := by
  decide +kernel

theorem test_site_characters :
    replies (.siteChecksumError [0x00, 0xA7, 0, 2, 7, 3, 0xF4]) idle (.refused 7 .badField none) = true ∧
    after (.siteChecksumError [0xA7, 4, 1, 7]) idle
      (fun t => t.site.framer == .hunting && t.site.counters.malformed == 1) = true ∧
    after (.siteChecksumError [0xA7, 0, 2]) idle (fun t => t.site.framer == .taking [0, 2] 5) = true := by
  decide +kernel

theorem witness_BadMessagesAreCountedOrRefused_gap :
    GapsAside (takingSite [0, 2] 0) ∧ (takingSite [0, 2] 1).site.framer = .taking [0, 2] 1 ∧ 0 < 1 := by
  unfold GapsAside; decide +kernel

theorem test_site_gap :
    idles (.siteGapTimeout ⟨.gap, some 0xA7⟩) (takingSite [0, 2] 1) = true ∧
    after (.siteGapTimeout ⟨.gap, none⟩) (takingSite [0, 2] 0)
      (fun t => t.site.framer == .hunting && t.site.counters.malformed == 1) = true ∧
    after (.sampleEvent (codes 2000)) (takingSite [0, 2] 1)
      (fun t => t.site.framer == .taking [0, 2] 0 && t.site.counters.malformed == 0) = true ∧
    after (.sampleEvent (codes 2000)) (takingSite [0, 2] 0)
      (fun t => t.site.framer == .hunting && t.site.counters.malformed == 1) = true := by
  decide +kernel

/-! ### The requests of the coordinator, the position counter and the cue unit -/

/-- An own proposal of the phase p is outstanding. -/
def proposing (p : Phase) (attempts : Nat) (s : State) : State :=
  onHop
    (fun h =>
      { h with
        outstanding := some { number := 9, target := p, role := .main, attempts := attempts, automatic := false }
        answerTimer := some 0 })
    s

/-- The soak is CLOSED and end A's automatic timer has run out. -/
def soaked : State :=
  onHop (fun h => { h with autoTimer := some 0 }) (onSoak (fun k => { k with state := .closed }) (heard (inPhase .soak)))

/-- Both directions of the margin have a result. -/
def bothDone (s : State) : State :=
  let r : MarginResult := { margin := some 40, capped := false, atZero := false, outcome := .pass }
  onMargin (fun m => { m with results := { one := some r, two := some r } }) s

def marginDone : State := onHop (fun h => { h with autoTimer := some 0 }) (bothDone (heard (inPhase .margin)))

theorem witness_ProposalIsMade :
    (heard idle).station = some own ∧ (heard idle).hop.outstanding = none ∧ (heard idle).route.conflict = false ∧
      (heard idle).route.partner ≠ .lost ∧ Room (heard idle) ∧ Phase.ofCode (1 : Byte).toNat = some .beacon ∧
      Antenna.ofCode (0 : Byte).toNat = some .main ∧ legalSuccessor true .idle .beacon = true ∧
      (heard idle).settings.marginEnabled = true ∧ (heard idle).precondition .beacon = none ∧
      soaked.hop.autoTimer = some 0 ∧ own.hopEnd = .a ∧ soaked.hop.phase = .soak ∧ soaked.soak.state = .closed ∧
      soaked.hop.outstanding = none ∧ soaked.route.partner ≠ .lost ∧ marginDone.hop.phase = .margin ∧
      marginDone.margin.bothDone = true := by
  unfold Room; decide +kernel

theorem test_advance_proposes :
    after (.advance 1 0) (heard idle)
      (fun t => (t.hop.outstanding.map Proposal.number) == some 1 && t.hop.nextNumber == 2 &&
        t.hop.answerTimer == some 2000 && t.hop.phase == .idle && t.site.out == [.accepted (.advance 1 .beacon) []]) =
      true := by
  rfl

theorem test_automaticTimerExpiry :
    after .automaticTimerExpiry soaked (fun t => (t.hop.outstanding.map Proposal.target) == some .margin) = true ∧
    after .automaticTimerExpiry marginDone (fun t => (t.hop.outstanding.map Proposal.target) == some .handover) =
      true := by
  constructor <;> rfl

theorem witness_AdvanceIsRefused :
    replies (.advance 8 0) (holding 7 idle) (.refused 3 .badField none) = true ∧
    replies (.advance 1 2) (heard idle) (.refused 3 .badField none) = true ∧
    replies (.advance 1 0) State.reset (.refused 3 .unconfigured none) = true ∧
    replies (.advance 2 1) (heard (inPhase .beacon)) (.refused 3 .badField none) = true ∧
    replies (.advance 1 0) (heard (proposing .beacon 1 idle)) (.refused 3 .proposalPending none) = true ∧
    replies (.advance 1 0) (onRoute (fun r => { r with conflict := true }) (heard idle))
      (.refused 3 .endsConflict none) = true ∧
    replies (.advance 1 0) idle (.refused 3 .partnerLost none) = true ∧
    replies (.advance 7 0) (heard idle) (.refused 3 .notLegal none) = true ∧
    replies (.advance 3 0) (heard (inPhase .sweep)) (.refused 3 .notReady none) = true ∧
    replies (.advance 4 0) (heard (inPhase .confirm)) (.refused 3 .notConfirmed none) = true ∧
    replies (.advance 5 0) (heard (inPhase .soak)) (.refused 3 .notReady none) = true ∧
    replies (.advance 6 0) (heard (inPhase .margin)) (.refused 3 .notReady none) = true ∧
    replies (.advance 6 0)
      (onSettings (fun x => { x with marginEnabled := false }) (heard (inPhase .soak))) (.refused 3 .notReady none) =
      true := by
  decide +kernel

/-- Direction 1 of the margin is ACTIVE, this station at end A transmitting. -/
def transmitting (step : Nat) : State :=
  onMargin
    (fun m => { m with current := some .one, states := { one := .active, two := .notBegun }, stepIndex := step })
    (inPhase .margin)

/-- Fades of CO-MAIN and CO-DIV are open since 0.0, with diversity fitted, at 4.500. -/
def openFades : State :=
  let fade : OpenFade := { start := { second := 0, index := 0 }, deepest := -901 }
  atTime 4 500
    (onSoak
      (fun k =>
        let opened (r : Role) : FadeRecord := { k.fades.get r with openFade := some fade, count := 1 }
        { k with fades := (k.fades.set .coMain (opened .coMain)).set .coDiv (opened .coDiv) })
      jointlyFaded)

/-- HANDOVER with a record whose verdict is v, of a PASS soak with MAIN confirmed. -/
def handedOver (v : Overall) : State :=
  let s :=
    onSettings (fun x => { x with marginEnabled := false })
      (onLobe (fun a => { a with confirmed := { main := true, div := false } })
        (onSoak (fun k => { k with state := .closed, verdict := some .pass }) (inPhase .handover)))
  { s with handover := some { s.handoverRecord own with overall := v } }

theorem witness_AbortHalts :
    State.reset.station = none ∧ Room State.reset ∧ idle.station ≠ none ∧ Room (holding 7 idle) ∧
      (inPhase .halted).hop.phase = .halted ∧ idle.hop.phase ≠ .halted ∧ jointlyFaded.soak.running = true ∧
      analysing.lobe.state = .running ∧ analysing.hop.phase = .confirm ∧ (transmitting 3).margin.current = some .one ∧
      (transmitting 3).margin.states.one = .active ∧ (proposing .beacon 1 idle).hop.outstanding ≠ none ∧
      jointlyFaded.soak.availability = .available ∧
      (onSoak (fun k => { k with availability := .outage }) jointlyFaded).soak.running = true ∧
      fitted openFades.settings .xMain = false ∧ (openFades.soak.fades.get .coDiv).openFade.isSome = true ∧
      Room openFades ∧ openFades.soak.running = true ∧ (handedOver .pending).hop.phase = .handover ∧
      (handedOver .pending).handover.map HandoverRecord.overall = some .pending ∧
      (handedOver .pass).handover.map HandoverRecord.overall = some .pass ∧ Room (handedOver .pass) := by
  unfold Room; decide +kernel

theorem test_abort :
    after .abort jointlyFaded (fun t => t.hop.phase == .halted && t.soak.state == .incomplete) = true ∧
    replies .abort (inPhase .halted) (.accepted .abort []) = true ∧
    replies .abort State.reset (.refused 4 .unconfigured none) = true := by
  refine ⟨?_, ?_, ?_⟩ <;> rfl

theorem test_abort_cuts_fades :
    after .abort openFades
      (fun t => t.soak.list.map FadeEntry.role == [.coMain, .coDiv] && t.soak.fades.coDiv.total == 4500 &&
        t.soak.list.all FadeEntry.cut) = true ∧
    after .abort (handedOver .pending)
      (fun t => t.handover.map HandoverRecord.overall == some .incomplete && t.site.flags.contains .handover) =
      true := by
  constructor <;> rfl

theorem witness_ZeroZeroesBothAxes :
    Room (holding 7 idle) ∧ idle.hop.phase ≠ .sweep ∧ Room sweeping ∧ sweeping.hop.phase = .sweep := by
  unfold Room; decide +kernel

theorem test_zero :
    after .zero (axisAt 32767 true idle) (fun t => t.pos.axes.az.count == 0 && !t.pos.axes.az.saturated) = true ∧
    replies .zero sweeping (.refused 6 .notNow none) = true := by
  decide +kernel

theorem witness_CueAndReportsAreSet :
    Room (holding 7 idle) ∧ (2 : Byte).toNat = 2 ∧ 2 < (3 : Byte).toNat ∧
      (0x07FFFF : BitVec 24).toNat < 524288 ∧ 524288 ≤ (0x080000 : BitVec 24).toNat := by
  unfold Room; decide +kernel

theorem test_cue :
    after (.cue 2) idle (fun t => t.cue.source == .relative) = true ∧
    replies (.cue 3) idle (.refused 7 .badField none) = true := by
  decide +kernel

theorem test_reports :
    after (.reports 0x07FFFE) idle (fun t => t.site.mask == 0x7FFFE) = true ∧
    replies (.reports 0x080000) idle (.refused 8 .badField none) = true := by
  decide +kernel

/-! ### Route channel: reception -/

/-- A frame of another station, not the partner. -/
def strange : Frame :=
  { header := { source := 15, dest := 3, hop := 7, hopEnd := .a }, body := .status (statusBody .beacon) }

def framesOfEachKind : List Frame :=
  let f (b : FrameBody) : Frame := { header := { source := 15, dest := 15, hop := 7, hopEnd := .b }, body := b }
  [f (.status
      { statusBody .halted with
        lastStation := 15, lastNumber := 255, ident := .foreign 7, level := some (-1200), soakSeconds := 16777215
        progress := { direction := 2, role := .judge, step := 255, doneOne := true, doneTwo := true } }),
    f (.level { levelBody with level := none, antenna := .div, range := .over, ident := .unsure }),
    f (.propose { number := 255, target := .sweep, role := .div }),
    f (.answer { proposer := 15, number := 255, target := .handover, accept := false, reason := some .crossed }),
    f (.verdict { verdictBody with xpd := some (-32768), diversity := some 32767, listOverflow := true }),
    f (.digest { digestBody with seconds := 16777215, periods := 65535, deepest := some (-1) }),
    f (.mtest .done { mtestBody 255 with atten := 63, margin := 63, direction := .two, atZero := true })]

theorem witness_FrameBytesSpellTheFrame : framesOfEachKind.all Frame.wellFormed = true := by decide +kernel

theorem test_wire_of_a_propose :
    Frame.wire { header := header, body := .propose (proposeBody .beacon) } =
      [0x55, 0x55, 0x55, 0x9E, 0x35, 0x21, 0x05, 0x00, 0x82, 0x03, 0x07, 0x01, 0x00, 0x3F, 0x0C] := by
  decide +kernel

theorem test_the_check_of_a_known_string :
    crc16 [0x31, 0x32, 0x33, 0x34, 0x35, 0x36, 0x37, 0x38, 0x39] = 0x29B1 := by
  decide +kernel

theorem witness_GoodFrameUpdatesTheRoster :
    RosterSound (heard idle) ∧ Listening (heard idle) ∧ strange.wellFormed = true ∧
      strange.header.source ≠ own.number ∧ strange.header.source ≠ own.partner ∧
      (heard idle).route.roster.find? (fun x => x.station == 5) = some (RosterEntry.fresh header) ∧
      (FrameBody.propose (proposeBody .beacon)).kind = .propose := by
  refine ⟨⟨by decide +kernel, by decide +kernel, ?_⟩, by unfold Listening; decide +kernel, by decide +kernel,
    by decide, by decide, by decide +kernel, rfl⟩
  intro st h
  cases h
  decide +kernel

theorem test_receiveStatus_updates_the_roster :
    after (.receiveStatus strange.header (statusBody .beacon)) (heard idle)
      (fun t => t.route.roster.map RosterEntry.station == [5, 15] && t.route.counters.good == 1 &&
        t.hop == idle.hop) = true := by
  decide +kernel

theorem witness_ClashMalformedOrUnheard :
    (onRoute (fun r => { r with contention := .sending }) idle).route.contention = .sending ∧ Listening idle ∧
      ({ strange with header := { header with hop := 8 } } : Frame).wellFormed = false ∧
      ({ strange with header := { header with source := 3 } } : Frame).wellFormed = true ∧
      idle.route.clash = false := by
  unfold Listening; decide +kernel

theorem test_clash :
    after (.receiveLevel { header with source := 3 } levelBody) idle
      (fun t => t.route.clash && t.route.counters.clashes == 1 && t.site.flags == [.clash]) = true := by
  decide +kernel

/-- The framer stands in a state with these bytes held and this much of the gap left. -/
def framingFor (gap : Timer) (state : FramerState) (bytes : List Byte) : State :=
  onRoute (fun r => { r with framer := { state := state, bytes := bytes, gap := gap } }) idle

/-- The framer stands in a state with these bytes held, the last of them just come. -/
def framing (state : FramerState) (bytes : List Byte) : State := framingFor (some 5) state bytes

/-- Header and body bytes with their check. -/
def checked (bytes : List Byte) : List Byte := bytes ++ u16 (crc16 bytes).toNat

theorem witness_DiscardedBytesAreCounted :
    (onRoute (fun r => { r with contention := .sending }) idle).route.contention = .sending ∧
      Listening (framing .header []) ∧ Listening idle ∧ idle.route.framer.state = .hunt ∧ idle.route.framer.bytes = [] ∧
      (framing .header []).route.framer.state = .header ∧ (framing .header []).route.framer.bytes = [] ∧
      (framing .body [0x21, 5, 0, 2, 3]).route.framer.state ≠ .hunt ∧ (0x9E : Byte) ∉ [0x35, 0x55] ∧
      24 < (25 : Byte).toNat ∧ [(7 : Byte), 1, 0, 0x3F].length < (3 : Byte).toNat + 2 ∧
      [(0 : Byte), 0] ≠ u16 (crc16 ([0x21, 5, 0, 2, 3] ++ [7, 1, 0])).toNat ∧ FrameKind.ofCode 0x20 = none ∧
      FrameBody.ofBytes .propose [7, 8, 0] = none ∧ FrameKind.bodyLength .propose ≠ [(7 : Byte), 1].length ∧
      strange.wellFormed = true := by
  unfold Listening; decide +kernel

/-- What the framer counts of characters that arrive, from the delimiter on. -/
def counted (bytes : List Byte) (p : RouteCounters → Nat) : Bool :=
  after (.routeFrameDiscarded bytes) (framing .header [])
    (fun t => p t.route.counters == 1 && t.route.framer == Framer.hunting)

theorem test_routeFrameDiscarded :
    counted [0x21, 5, 0, 2, 25] RouteCounters.malformed = true ∧
    counted [0x21, 5, 0, 2, 3, 7, 1, 0, 0, 0] RouteCounters.crcErrors = true ∧
    counted (checked [0x20, 5, 0, 2, 3, 7, 1, 0]) RouteCounters.malformed = true ∧
    counted (checked [0x21, 0, 0, 2, 3, 7, 1, 0]) RouteCounters.malformed = true ∧
    counted (checked [0x21, 5, 0, 2, 2, 7, 1]) RouteCounters.malformed = true := by
  decide +kernel

theorem test_the_framer_takes_a_frame :
    after (.routeFrameDiscarded [0x55, 0x9E, 0x9E, 0x35]) idle
      (fun t => t.route.framer == { state := .header, bytes := [], gap := some 5 }) = true ∧
    after (.routeFrameDiscarded [0x21, 5, 0, 2, 3, 7]) (framing .header [])
      (fun t => t.route.framer == { state := .body, bytes := [0x21, 5, 0, 2, 3, 7], gap := some 5 }) = true ∧
    after (.routeFrameDiscarded [1, 0]) (framing .body [0x21, 5, 0, 2, 3, 7])
      (fun t => t.route.framer.state == .check) = true ∧
    after (.routeFrameDiscarded strange.wire) (heard idle)
      (fun t => t.route.counters.good == 1 && t.route.roster.map RosterEntry.station == [5, 15]) = true := by
  decide +kernel

theorem test_routeGapTimeout :
    after (.routeGapTimeout ⟨.lowStop, some 0x9E⟩) (framing .body [0x21, 5, 0, 2, 3])
      (fun t => t.route.counters.truncated == 1 &&
        t.route.framer == { state := .hunt, bytes := [0x9E], gap := some 5 }) = true ∧
    after (.routeGapTimeout ⟨.gap, some 0x35⟩) (framingFor (some 0) .hunt [0x9E])
      (fun t => t.route.counters.truncated == 0 && t.route.framer == Framer.hunting) = true := by
  decide +kernel

/-- The held 0x9E that a gap drops, with the 0x35 that ends the gap: the model's choice (log 41). -/
theorem witness_DiscardedBytesAreCounted_gap :
    Listening (framingFor (some 0) .hunt [0x9E]) ∧ (framingFor (some 0) .hunt [0x9E]).route.framer.state = .hunt ∧
      (framingFor (some 0) .hunt [0x9E]).route.framer.bytes = [0x9E] ∧ (some 0x35 : Option Byte) ≠ some 0x9E ∧
      (framingFor (some 0) .hunt [0x9E]).route.framer.gap = some 0 ∧
      (framingFor (some 3) .body [0x21, 5, 0, 2, 3]).route.framer.gap = some (2 + 1) ∧
      GapsAside (framingFor (some 0) .body [0x21, 5, 0, 2, 3]) ∧ GapsAside (framingFor (some 0) .hunt [0x9E]) := by
  unfold Listening GapsAside; decide +kernel

theorem test_route_gap :
    idles (.routeGapTimeout ⟨.gap, some 0x9E⟩) (framing .body [0x21, 5, 0, 2, 3]) = true ∧
    after (.routeGapTimeout ⟨.gap, none⟩) (framingFor (some 0) .body [0x21, 5, 0, 2, 3])
      (fun t => t.route.counters.truncated == 1 && t.route.framer == Framer.hunting) = true ∧
    after (.sampleEvent (codes 2000)) (framing .body [0x21, 5, 0, 2, 3])
      (fun t => t.route.framer == (framingFor (some 4) .body [0x21, 5, 0, 2, 3]).route.framer) = true ∧
    after (.sampleEvent (codes 2000)) (framingFor (some 0) .body [0x21, 5, 0, 2, 3])
      (fun t => t.route.counters.truncated == 1 && t.route.framer == Framer.hunting) = true := by
  decide +kernel

/-! ### Hop coordinator: the partner's frames -/

theorem witness_StatusMovesThePhase :
    Delivered own header (proposing .beacon 1 (heard idle)) ∧ HopSound (proposing .beacon 1 (heard idle)) ∧
      Delivered own header (heard (inPhase .beacon)) ∧ HopSound (heard (inPhase .beacon)) ∧
      (statusBody .halted).wellFormed = true ∧
      ({ statusBody .beacon with lastStation := 3, lastNumber := 9 } : StatusBody).wellFormed = true ∧
      (onHop (fun h => { h with mismatch := 4 }) (heard (inPhase .beacon))).hop.mismatch ≤ 5 := by
  refine ⟨by unfold Delivered Listening; decide +kernel, ⟨(fun h => nomatch h), ?_, (fun p h => nomatch h), ?_⟩,
    by unfold Delivered Listening; decide +kernel, ⟨(fun h => nomatch h), (fun p h => nomatch h), (fun p h => nomatch h), ?_⟩,
    by decide +kernel, by decide +kernel, by decide +kernel⟩
  · intro p h
    cases h
    exact ⟨rfl, (fun h => nomatch h)⟩
  · decide +kernel
  · decide +kernel

theorem test_receiveStatus_moves_the_phase :
    after (.receiveStatus header { statusBody .beacon with lastStation := 3, lastNumber := 9 })
      (proposing .beacon 1 (heard idle)) (fun t => t.hop.phase == .beacon && t.hop.outstanding == none) = true ∧
    after (.receiveStatus header (statusBody .halted)) (heard (inPhase .beacon))
      (fun t => t.hop.phase == .halted && t.hop.haltCause == some .partner) = true ∧
    after (.receiveStatus header (statusBody .idle)) (heard (inPhase .beacon))
      (fun t => t.hop.haltCause == some .partnerRestart) = true ∧
    after (.receiveStatus header (statusBody .sweep))
      (onHop (fun h => { h with mismatch := 4 }) (heard (inPhase .beacon)))
      (fun t => t.hop.mismatch == 5 && t.site.flags.contains .mismatch) = true := by
  refine ⟨?_, ?_, ?_, ?_⟩ <;> rfl

theorem test_receiveLevel :
    after (.receiveLevel header levelBody) (heard idle)
      (fun t => t.partnerLevel == some { level := -600, time := { second := 0, index := 0 } }) = true := by
  decide +kernel

/-- The partner's proposal 7 of BEACON is the one last answered. -/
def answered (s : State) : State :=
  onHop
    (fun h =>
      { h with lastAnswered := some { proposer := 5, number := 7, target := .beacon, accept := true, reason := none } })
    s

/-- MAIN is confirmed. -/
def confirmedMain (s : State) : State := onLobe (fun a => { a with confirmed := { main := true, div := false } }) s

theorem witness_ProposalIsAnswered :
    Delivered own header (heard idle) ∧ (proposeBody .beacon).wellFormed = true ∧
      (heard idle).hop.outstanding = none ∧ header.hopEnd ≠ own.hopEnd ∧ header.hop = own.hop ∧
      (answered (heard idle)).hop.lastAnswered.isSome = true ∧ (inPhase .halted).hop.phase = .halted ∧
      legalSuccessor true .idle .beacon = true ∧ legalSuccessor true .idle .sweep = false ∧
      (heard (inPhase .sweep)).precondition .confirm = some .notReady ∧
      Delivered own { header with hopEnd := .a } (heard idle) ∧
      ({ proposeBody .sweep with role := .div } : ProposeBody).wellFormed = true ∧
      idle.settings.diversity = false ∧
      (heard visited).evaluate .confirm .main = none ∧ (heard visited).hop.phase = .sweep ∧
      (heard (confirmedMain (inPhase .confirm))).evaluate .soak .main = none ∧ soaked.evaluate .margin .main = none ∧
      marginDone.evaluate .handover .main = none ∧ marginDone.hop.outstanding = none ∧
      (heard (inPhase .beacon)).evaluate .sweep .main = none := by
  unfold Delivered Listening; decide +kernel

theorem witness_entries_of_a_proposal :
    (∀ e, (heard idle).partnerEntry = some e → e.wantsLevel = false) ∧
      (∀ d, marginDone.margin.current = some d → marginDone.margin.states.get d ≠ .active) ∧
      (∀ d, marginDone.soak.partnerDigest = some d → d.body.final = false) ∧
      (transmitting 3).margin.states.get .one = .active ∧ soaked.hop.profile = .align ∧
      (onHop (fun h => { h with profile := .soak }) soaked).hop.profile = .soak ∧
      (onSoak (fun k => { k with partnerDigest := some { body := digestBody, arrival := { second := 0, index := 0 } } })
        marginDone).soak.partnerDigest.isSome = true := by
  refine ⟨?_, (fun d h => nomatch h), (fun d h => nomatch h), ?_, ?_, ?_, ?_⟩
  · intro e h
    cases h
    rfl
  all_goals decide +kernel

theorem test_receivePropose :
    after (.receivePropose header (proposeBody .beacon)) (heard idle)
      (fun t => t.hop.phase == .beacon && t.hop.entryHold == some 10000 &&
        t.hop.lastAccepted == some { proposer := 5, number := 7 } && t.site.flags.contains .phase) = true ∧
    after (.receivePropose header (proposeBody .sweep)) (heard idle)
      (fun t => t.hop.phase == .idle && (t.hop.lastAnswered.bind AnsweredRecord.reason) == some .notLegal) = true := by
  constructor <;> rfl

/-- The kinds of the frames in the slot and in the queue. -/
def queuedKinds (t : State) : List FrameKind := (t.route.inFlight.toList ++ t.route.waiting).map QFrame.kind

theorem test_entries_start_the_blocks :
    after (.receivePropose header (proposeBody .confirm)) (heard visited)
      (fun t => t.lobe.state == .running && t.map.state == .frozen && t.src.beacon.live == .steady &&
        queuedKinds t == [.answer, .status]) = true ∧
    after (.receivePropose header (proposeBody .soak)) (heard (confirmedMain (inPhase .confirm)))
      (fun t => t.soak.state == .waiting && t.src.pattern.staged && t.src.beacon.live == .off) = true ∧
    after (.receivePropose header (proposeBody .margin)) soaked
      (fun t => t.margin.states.one == .active && queuedKinds t == [.answer, .mtest, .status]) = true ∧
    after (.receivePropose header (proposeBody .handover)) marginDone
      (fun t => t.handover.map HandoverRecord.overall == some .pending && t.soak.digestTimer == some 60 &&
        queuedKinds t == [.answer, .digest, .status]) = true := by
  refine ⟨?_, ?_, ?_, ?_⟩ <;> rfl

theorem test_receivePropose_again :
    after (.receivePropose header (proposeBody .beacon)) (answered (heard idle))
      (fun t => queuedKinds t == [.answer] && t.hop == (answered (heard idle)).hop) = true ∧
    after (.receivePropose { header with hopEnd := .a } (proposeBody .beacon)) (heard idle)
      (fun t => queuedKinds t == [] && t.hop.ignored == 1) = true := by
  decide +kernel

theorem witness_ProposalIsAnswered_proposing :
    Delivered own { header with hopEnd := .a } (proposing .beacon 1 (heard idle)) ∧
      Delivered own header (proposing .sweep 1 (answered (heard idle))) ∧
      (proposing .sweep 1 (answered (heard idle))).hop.outstanding.isSome = true ∧
      (proposing .sweep 1 (answered (heard idle))).hop.lastAnswered =
        some { proposer := 5, number := 7, target := .beacon, accept := true, reason := none } := by
  unfold Delivered Listening; decide +kernel

/-- An ends conflict and a duplicate come before the crossing rules (R134). -/
theorem test_receivePropose_while_proposing :
    after (.receivePropose { header with hopEnd := .a } (proposeBody .beacon)) (proposing .beacon 1 (heard idle))
      (fun t => queuedKinds t == [] && t.hop.ignored == 1 && t.hop.outstanding.isSome) = true ∧
    after (.receivePropose header (proposeBody .beacon)) (proposing .sweep 1 (answered (heard idle)))
      (fun t => queuedKinds t == [.answer] && t.hop == (proposing .sweep 1 (answered (heard idle))).hop) = true := by
  decide +kernel

theorem witness_ProposalsCross :
    Delivered own header (proposing .beacon 1 (heard idle)) ∧ (proposeBody .beacon).wellFormed = true ∧
      (proposing .beacon 1 (heard idle)).hop.outstanding.isSome = true ∧ header.hopEnd ≠ own.hopEnd ∧
      header.hop = own.hop ∧ (proposing .beacon 1 (heard idle)).hop.lastAnswered = none ∧
      (proposing .beacon 1 (heard idle)).evaluate .beacon .main = none ∧ own.number < header.source ∧
      (proposing .sweep 1 (heard (inPhase .confirm))).evaluate .soak .main = some .notConfirmed ∧
      Delivered { own with partner := 1 } { header with source := 1 }
        { proposing .sweep 1 (inPhase .confirm) with station := some { own with partner := 1 } } ∧
      1 < own.number := by
  unfold Delivered Listening; decide +kernel

theorem test_proposals_cross :
    after (.receivePropose header (proposeBody .beacon)) (proposing .beacon 1 (heard idle))
      (fun t => t.hop.phase == .beacon && t.site.flags.contains .proposal) = true ∧
    after (.receivePropose header (proposeBody .soak)) (proposing .sweep 1 (heard (inPhase .confirm)))
      (fun t => t.hop.phase == .confirm && (t.hop.lastAnswered.bind AnsweredRecord.reason) == some .crossed) = true := by
  constructor <;> rfl

theorem witness_SweepEntryStartsTheMap :
    Delivered own header (heard (inPhase .beacon)) ∧ (proposeBody .sweep).wellFormed = true ∧
      (heard (inPhase .beacon)).hop.outstanding = none ∧ (heard (inPhase .beacon)).hop.lastAnswered = none ∧
      (heard (inPhase .confirm)).hop.phase = .confirm ∧ (heard (inPhase .beacon)).src.beacon.live ≠ .keyed ∧
      (settingDiversity idle).settings.diversity = true := by
  unfold Delivered Listening; decide +kernel

theorem witness_AnswerIsTaken :
    Delivered own header (proposing .beacon 1 (heard idle)) ∧ (answerBody .beacon true none).wellFormed = true ∧
      (answerBody .beacon false (some .halted)).wellFormed = true ∧ (answerBody .beacon true none).proposer = 3 ∧
      (proposing .beacon 1 (heard idle)).hop.outstanding.map Proposal.number = some 9 ∧
      Delivered own header (heard (inPhase .beacon)) ∧
      (onHop (fun h => { h with failed := some { number := 9, target := .beacon, role := .main } }) idle).hop.failed =
        some { number := 9, target := .beacon, role := .main } := by
  unfold Delivered Listening; decide +kernel

theorem test_receiveAnswer :
    after (.receiveAnswer header (answerBody .beacon true none)) (proposing .beacon 1 (heard idle))
      (fun t => t.hop.phase == .beacon && t.hop.lastAccepted == some { proposer := 3, number := 9 }) = true ∧
    after (.receiveAnswer header (answerBody .beacon false (some .notReady))) (proposing .beacon 1 (heard idle))
      (fun t => t.hop.phase == .idle && t.hop.outstanding == none) = true ∧
    after (.receiveAnswer header (answerBody .beacon false (some .halted))) (heard (inPhase .beacon))
      (fun t => t.hop.phase == .halted) = true := by
  refine ⟨?_, ?_, ?_⟩ <;> rfl

theorem witness_DigestAndLevelAreTaken :
    Delivered own header (heard (inPhase .soak)) ∧ Delivered own header (heard idle) ∧
      digestBody.wellFormed = true ∧ levelBody.wellFormed = true ∧ (inPhase .halted).hop.phase = .halted ∧
      Delivered own header (handedOver .pending) ∧ (handedOver .pending).handover.isSome = true ∧
      (handedOver .fail).handover.map HandoverRecord.overall = some .fail ∧ digestBody.final = true ∧
      (inPhase .handover).handover = none ∧ ({ digestBody with final := false } : DigestBody).wellFormed = true ∧
      (handedOver .incomplete).handover.map HandoverRecord.overall = some .incomplete := by
  unfold Delivered Listening; decide +kernel

theorem test_receiveDigest :
    after (.receiveDigest header digestBody) (heard (inPhase .soak))
      (fun t => (t.soak.partnerDigest.map HeldDigest.body) == some digestBody) = true ∧
    after (.receiveDigest header digestBody) (heard idle) (fun t => t.soak.partnerDigest == none) = true := by
  decide +kernel

/-- The verdict of the record after a digest from the partner. -/
def overallAfter (d : DigestBody) (v : Overall) (p : Overall) : Bool :=
  after (.receiveDigest header d) (handedOver v) (fun t => t.handover.map HandoverRecord.overall == some p)

theorem test_digest_decides_the_record :
    overallAfter digestBody .pending .pass = true ∧ overallAfter digestBody .incomplete .pass = true ∧
    overallAfter { digestBody with verdict := some .fail } .pending .fail = true ∧
    overallAfter { digestBody with verdict := some .fail } .pass .pass = true ∧
    overallAfter { digestBody with final := false } .pending .pending = true := by
  decide +kernel

/-- Direction 1 is ACTIVE, this station at end B judging. -/
def judging : State := { transmitting 0 with station := some { own with hopEnd := .b } }

theorem witness_MtestFramesAreTaken :
    Delivered own header (heard (transmitting 3)) ∧
      Delivered { own with hopEnd := .b } { header with hopEnd := .a } (heard judging) ∧
      (mtestBody 3).wellFormed = true ∧ (transmitting 3).margin.current = some .one ∧
      (transmitting 3).margin.states.one = .active ∧ judging.margin.states.one = .active ∧
      roleIn .a .one = .transmitting ∧ roleIn .b .one = .judge ∧ (mtestBody 3).step ≤ (transmitting 3).margin.stepIndex ∧
      (transmitting 3).margin.stepIndex < (mtestBody 4).step := by
  unfold Delivered Listening; decide +kernel

theorem test_mtestStep :
    after (.mtestStep { header with hopEnd := .a } (mtestBody 4)) (heard judging) (fun t => t.margin.heard == 4) =
      true := by
  decide +kernel

theorem test_mtestLimit :
    after (.mtestLimit header (mtestBody 3)) (heard (transmitting 3))
      (fun t => (t.margin.results.one.bind MarginResult.margin) == some 4 && t.margin.current == some .two &&
        t.src.atten.live == 0 && queuedKinds t == [.mtest]) = true ∧
    after (.mtestLimit header (mtestBody 4)) (heard (transmitting 3)) (fun t => t.margin.states.one == .active) =
      true := by
  constructor <;> rfl

theorem test_mtestDone :
    after (.mtestDone { header with hopEnd := .a } (mtestBody 4)) (heard judging)
      (fun t => (t.margin.results.one.bind MarginResult.margin) == some 40 && t.margin.states.two == .active) =
      true := by
  rfl

/-! ### Route channel: queue, contention, transmission, periodic frames -/

def queuedFrame (b : FrameBody) : QFrame := { frame := buildFrame own b, resend := false }

def statusFrame : QFrame := queuedFrame (.status (statusBody .idle))

def digestFrame : QFrame := queuedFrame (.digest digestBody)

def proposeFrame : QFrame := queuedFrame (.propose (proposeBody .beacon))

def waitingFor (qs : List QFrame) : Route := { Route.reset with waiting := qs }

/-- The route in a contention state, with a PROPOSE in flight. -/
def contending (c : Contention) (idleTime slot : Nat) (n : Option Nat) : State :=
  onRoute
    (fun r =>
      { r with contention := c, idle := idleTime, slot := slot, backoff := n, inFlight := some proposeFrame
               wire := proposeFrame.frame.wire })
    idle

theorem witness_FramesJoinTheQueue :
    ((waitingFor [proposeFrame, statusFrame]).waiting.Pairwise fun a b => a.classNumber ≤ b.classNumber) ∧
      (statusFrame.kind = .status ∧ statusFrame ∈ (waitingFor [proposeFrame, statusFrame]).waiting) ∧
      ((waitingFor (List.replicate 5 digestFrame)).waiting.Pairwise fun a b => a.classNumber ≤ b.classNumber) ∧
      (waitingFor (List.replicate 5 digestFrame)).waiting.length < 6 ∧
      ((waitingFor (List.replicate 6 digestFrame)).waiting.Pairwise fun a b => a.classNumber ≤ b.classNumber) ∧
      (waitingFor (List.replicate 6 digestFrame)).waiting = List.replicate 5 digestFrame ++ [digestFrame] ∧
      proposeFrame.classNumber < digestFrame.classNumber ∧ Route.reset.inFlight = none ∧
      (Route.reset.joinQueue proposeFrame).waiting = [proposeFrame] ∧ Route.reset.idle < 20 ∧
      ({ Route.reset with idle := 20 } : Route).carrierBusy = false ∧
      (contending .defer 20 0 none).route.inFlight ≠ none := by
  decide +kernel

theorem test_enqueue_into_an_empty_slot :
    ({ Route.reset with idle := 20 }.enqueue 4 proposeFrame).2.contention = .sending ∧
      (Route.reset.enqueue 4 proposeFrame).2.contention = .defer ∧
      ({ Route.reset with idle := 20 }.enqueue 4 { proposeFrame with resend := true }).1 = 5 := by
  decide +kernel

theorem witness_ChannelContends :
    (contending .sending 0 0 (some 0)).route.contention = .sending ∧
      (contending .defer 20 0 none).route.contention ≠ .sending ∧
      (contending .defer 20 0 none).route.carrierBusy = false ∧ (contending .defer 19 0 none).route.idle < 20 ∧
      (contending .defer 20 0 (some 3)).route.inFlight = some proposeFrame ∧
      (contending .backoff 0 9 (some 1)).route.slot < 10 ∧ 10 ≤ (contending .backoff 0 10 (some 1)).route.slot ∧
      (contending .backoff 0 10 (some 1)).route.backoff = some (0 + 1) ∧
      (contending .backoff 0 10 (some 2)).route.backoff = some (1 + 1) ∧
      (contending .sending 0 0 (some 0)).route.wire[3]? = some 0x9E ∧ idle.route.wire.length = 0 := by
  decide +kernel

theorem test_the_transmit_line :
    (List.range 10).map (fun i => (contending .sending 0 0 (some 0)).route.lineAt (30 + i)) =
      [false, false, true, true, true, true, false, false, true, true] ∧ idle.route.transmitLine = true := by
  decide +kernel

theorem test_carrierBusy :
    after .carrierBusyHigh (contending .backoff 30 5 (some 2))
      (fun t => t.route.contention == .defer && t.route.carrierBusy && t.route.backoff == some 2) = true ∧
    after .carrierBusyLow (onRoute (fun r => { r with carrierBusy := true, idle := 4 }) idle)
      (fun t => !t.route.carrierBusy && t.route.idle == 0) = true := by
  decide +kernel

theorem test_guardComplete :
    after .guardComplete (contending .defer 20 0 (some 3))
      (fun t => t.route.contention == .backoff && t.route.backoff == some 3) = true ∧
    after .guardComplete (contending .defer 20 0 (some 0)) (fun t => t.route.transmitEnable) = true ∧
    idles .guardComplete (contending .defer 19 0 none) = true := by
  decide +kernel

theorem test_backoffSlotEnd :
    after .backoffSlotEnd (contending .backoff 0 10 (some 1)) (fun t => t.route.contention == .sending) = true ∧
    after .backoffSlotEnd (contending .backoff 0 10 (some 2)) (fun t => t.route.backoff == some 1) = true ∧
    idles .backoffSlotEnd (contending .backoff 0 9 (some 1)) = true := by
  decide +kernel

/-- A PROPOSE of 15 bytes has been sending for n ms. -/
def sendingFor (n : Nat) (qs : List QFrame) : State :=
  onRoute (fun r => { r with sendTime := n, waiting := qs }) (contending .sending 0 0 (some 0))

theorem witness_TransmissionCompletes :
    (sendingFor 15 []).route.inFlight = some proposeFrame ∧ proposeFrame.frame.body.kind.bodyLength + 12 = 15 ∧
      25 * 15 < (15 + 1) * 24 ∧ ¬ 25 * 15 < (14 + 1) * 24 ∧ (sendingFor 15 []).route.contention = .sending ∧
      (sendingFor 15 [statusFrame]).route.waiting = [statusFrame] := by
  decide +kernel

theorem test_transmissionComplete :
    after .transmissionComplete (sendingFor 15 [statusFrame])
      (fun t => t.route.contention == .defer && t.route.inFlight == some statusFrame && t.route.counters.sent == 1 &&
        !t.route.transmitEnable) = true ∧
    idles .transmissionComplete (sendingFor 14 []) = true := by
  decide +kernel

/-- Every periodic timer has run out. -/
def timersOut : State :=
  onRoute (fun r => { r with statusTimer := some 0, levelTimer := some 0 })
    (onSoak (fun k => { k with digestTimer := some 0 })
      (onMargin (fun m => { m with doneTimer := some 0, doneBody := some (mtestBody 4) })
        (onLobe (fun a => { a with repeatTimer := some 0, own := some verdictBody }) idle)))

theorem witness_PeriodicFramesAreQueued :
    idle.station = some own ∧ timersOut.station = some own ∧ idle.route.statusTimer ≠ some 0 ∧
      timersOut.route.statusTimer = some 0 ∧ idle.route.levelTimer ≠ some 0 ∧ timersOut.route.levelTimer = some 0 ∧
      idle.lobe.repeatTimer ≠ some 0 ∧ timersOut.lobe.repeatTimer = some 0 ∧ timersOut.lobe.own = some verdictBody ∧
      idle.soak.digestTimer ≠ some 0 ∧ timersOut.soak.digestTimer = some 0 ∧ idle.margin.doneTimer ≠ some 0 ∧
      timersOut.margin.doneTimer = some 0 ∧ timersOut.margin.doneBody = some (mtestBody 4) := by
  decide +kernel

/-- The kind of the frame in flight. -/
def sends (k : FrameKind) (t : State) : Bool := (t.route.inFlight.map QFrame.kind) == some k

theorem test_periodic_frames :
    after .statusTimerExpiry timersOut (sends .status) = true ∧
    after .levelTimerExpiry timersOut (fun t => sends .level t && t.route.levelTimer == some 250) = true ∧
    after .verdictRepeat timersOut (fun t => sends .verdict t && t.lobe.repeatTimer == some 5000) = true ∧
    after .digestTimerExpiry timersOut (fun t => sends .digest t && t.soak.digestTimer == some 60) = true ∧
    after .doneRepeat timersOut (fun t => sends .mtest t && t.margin.doneTimer == some 5000) = true := by
  decide +kernel

theorem test_periodic_frames_wait :
    ([.statusTimerExpiry, .levelTimerExpiry, .verdictRepeat, .digestTimerExpiry, .doneRepeat, .answerTimeout,
      .entryHoldExpiry, .automaticTimerExpiry, .keyingEdge, .syncPin, .syncFilteredFall, .syncWordFound,
      .patternWordComplete, .wordIntervalEnd, .secondEvent, .dwellExpiry, .marginStepWrite, .stepAnnounce,
      .silenceAbort, .supplyDebounceExpiry] : List Instr).all (fun i => idles i idle) = true := by
  decide +kernel

/-! ### The coordinator's timers -/

theorem witness_CoordinatorTimersAct :
    idle.hop.answerTimer ≠ some 0 ∧ (proposing .beacon 2 idle).station = some own ∧
      (proposing .beacon 2 idle).hop.answerTimer = some 0 ∧
      (proposing .beacon 2 idle).hop.outstanding.map Proposal.attempts = some 2 ∧
      (proposing .beacon 3 idle).hop.outstanding.map Proposal.attempts = some 3 ∧ idle.hop.entryHold ≠ some 0 ∧
      idle.hop.autoTimer ≠ some 0 ∧ (onHop (fun h => { h with autoTimer := some 0 }) idle).autoTarget = none ∧
      soaked.hop.autoTimer = some 0 ∧ soaked.autoTarget = some .margin ∧
      (onRoute (fun r => { r with partner := .lost }) soaked).route.partner = .lost := by
  decide +kernel

theorem test_answerTimeout :
    after .answerTimeout (proposing .beacon 2 idle)
      (fun t => (t.hop.outstanding.map Proposal.attempts) == some 3 && t.hop.answerTimer == some 2000) = true ∧
    after .answerTimeout (proposing .beacon 3 idle)
      (fun t => t.hop.outstanding == none && t.hop.failed == some { number := 9, target := .beacon, role := .main } &&
        t.site.flags == [.proposal]) = true := by
  constructor <;> rfl

theorem test_entryHoldExpiry :
    after .entryHoldExpiry (onHop (fun h => { h with entryHold := some 0 }) idle) (fun t => t == idle) = true := by
  decide +kernel

theorem test_automaticTimerExpiry_waits :
    after .automaticTimerExpiry (onRoute (fun r => { r with partner := .lost }) soaked)
      (fun t => t.hop.autoTimer == some 10000 && t.hop.outstanding == none) = true := by
  decide +kernel

/-! ### Input lines and test source -/

/-- The sync line stands raw at a level, filtered at the other, for n ticks. -/
def synced (high : Bool) (n : Nat) (s : State) : State :=
  onSrc (fun x => { x with sync := { raw := high, filtered := !high, candidate := n } }) s

/-- An attenuation of 6 dB is pending, applied by the keying edge and the sync pin. -/
def stagedAtten : State :=
  onSettings (fun x => { x with attenSources := { second := false, keyingEdge := true, syncPin := true } })
    (onSrc (fun x => { x with atten := { live := 0, staged := 6, pending := true }, edgeDue := true }) idle)

theorem witness_LinesAndApplyEventsAct :
    (turned true false 7 0 idle).pos.axes.az.due 8 = false ∧ (synced true 7 idle).src.sync.candidate < 8 ∧
      8 ≤ (synced true 8 idle).src.sync.candidate ∧ (synced true 8 idle).src.sync.raw = true ∧
      (synced false 8 idle).src.sync.raw = false ∧ idle.src.edgeDue = false ∧ stagedAtten.src.edgeDue = true ∧
      stagedAtten.settings.attenSources.keyingEdge = true ∧ stagedAtten.src.atten.pending = true ∧
      idle.src.sync.raw = idle.src.sync.filtered ∧ (5 : Nat) < 6 := by
  decide +kernel

theorem test_line_changes :
    after (.encoderLineChange .el .b true) idle
      (fun t => t.pos.axes.el.lineB == { raw := true, filtered := false, candidate := 0 }) = true ∧
    after (.syncInputChange true) idle (fun t => t.src.sync.raw && !t.src.sync.filtered) = true ∧
    after (.encoderLineChange .az .a false) (turned true false 7 0 idle)
      (fun t => t.pos.axes.az.lineA == { raw := false, filtered := false, candidate := 7 }) = true := by
  decide +kernel

theorem test_a_tick_counts_the_lines :
    (match step (onTime (fun t => { t with firstTick := false }) (turned false false 7 0 idle)) with
      | .next t => t.pos.axes.az.lineA.candidate == 0
      | _ => false) = true ∧
    (match step (onTime (fun t => { t with firstTick := false }) (turned true false 7 0 idle)) with
      | .next t => t.pos.axes.az.lineA.candidate == 8
      | _ => false) = true := by
  decide +kernel

theorem test_attenuator_lines :
    (onSrc (fun x => { x with atten := { live := 37, staged := 37, pending := false } }) idle).src.attenLines =
      0b100101#6 := by
  decide +kernel

theorem test_keyingEdge :
    after .keyingEdge stagedAtten (fun t => t.src.keyOut && t.src.atten.live == 6 && !t.src.atten.pending) = true := by
  decide +kernel

theorem test_syncPin :
    after .syncPin (synced true 8 stagedAtten) (fun t => t.src.sync.filtered && t.src.atten.live == 6) = true ∧
    after .syncFilteredFall (synced false 8 stagedAtten)
      (fun t => !t.src.sync.filtered && t.src.atten.live == 0) = true ∧
    idles .syncPin (synced false 8 stagedAtten) = true ∧ idles .syncFilteredFall (synced true 8 stagedAtten) = true := by
  decide +kernel

/-! ### Pattern checker -/

/-- The pattern is live, and the checker stands as given. -/
def checking (f : Checker → Checker) : State :=
  onChk f (onSrc (fun x => { x with pattern := { live := true, staged := true, pending := false } }) idle)

theorem witness_PatternBitsPass :
    idle.src.pattern.live = false ∧ (checking id).src.pattern.live = true ∧
      (checking id).settleChecker = checking id := by
  decide +kernel

theorem test_patternClockEdge :
    after (.patternClockEdge true) (checking id)
      (fun t => t.chk.window == 1 && t.chk.sinceHunt == 1 && t.src.genBit == 14 && !t.src.genOut) = true := by
  decide +kernel

/-- A completed word: the window holds w, word 2 being expected, and the counts stand at n. -/
def wordIn (state : SyncState) (w : BitVec 16) (n : Nat) : State :=
  checking fun c => { c with state := state, window := w, wordBits := 16, expected := 2, confirm := n, hits := n }

/-- HUNT with a window of n bits that holds word 7. -/
def hunting (n : Nat) : State := checking fun c => { c with sinceHunt := n, window := 0x6996 }

theorem witness_CheckerFindsAndLosesLock :
    idle.src.pattern.live = false ∧ (hunting 16).chk.state = .hunt ∧ 16 ≤ (hunting 16).chk.sinceHunt ∧
      (hunting 15).chk.sinceHunt < 16 ∧ (hunting 16).settings.words[7]? = some (hunting 16).chk.window ∧
      ((List.range 7).all fun i => (hunting 16).settings.words[i]? != some (hunting 16).chk.window) = true ∧
      (wordIn .confirming 0x0FF0 6).chk.confirm < 7 ∧ 7 ≤ (wordIn .confirming 0x0FF0 7).chk.confirm ∧
      (wordIn .confirming 0x0FF0 7).settings.words.getD 2 0 = 0x0FF0 ∧ 16 ≤ (wordIn .locked 0x0FF0 3).chk.wordBits ∧
      (wordIn .locked 0x0FF0 2).chk.hits < 3 ∧ 3 ≤ (wordIn .locked 0x0FFF 3).chk.hits ∧
      ((List.range 16).filter fun i => (0x0FFF : BitVec 16).getLsbD i != (0x0FF0 : BitVec 16).getLsbD i).length = 4 ∧
      16 ≤ (checking fun c => { c with intervalBits := 16 }).chk.intervalBits ∧
      (checking fun c => { c with intervalBits := 16 }).settleSyncWork =
        checking fun c => { c with intervalBits := 16 } := by
  decide +kernel

theorem test_syncWordFound :
    after .syncWordFound (hunting 16) (fun t => t.chk.state == .confirming && t.chk.expected == 0) = true ∧
    idles .syncWordFound (hunting 15) = true := by
  decide +kernel

theorem test_patternWordComplete_confirms :
    after .patternWordComplete (wordIn .confirming 0x0FF0 7)
      (fun t => t.chk.state == .locked && t.chk.lockCount == 1 && t.site.flags == [.pattern]) = true ∧
    after .patternWordComplete (wordIn .confirming 0x0FF1 7) (fun t => t.chk.state == .hunt) = true := by
  decide +kernel

theorem test_patternWordComplete_compares :
    after .patternWordComplete (wordIn .locked 0x0FFF 3)
      (fun t => t.chk.state == .hunt && t.chk.slipCount == 1 && t.chk.totals.bitErrors == 4) = true ∧
    after .patternWordComplete (wordIn .locked 0x0FF7 3)
      (fun t => t.chk.state == .locked && t.chk.hits == 0 && t.chk.totals.bitErrors == 3) = true := by
  decide +kernel

theorem test_wordIntervalEnd :
    after .wordIntervalEnd (checking fun c => { c with intervalBits := 16 })
      (fun t => t.chk.totals.intervals == 1 && t.chk.totals.notLocked == 1 && t.chk.intervalBits == 0) = true := by
  decide +kernel

/-! ### The second event -/

def secondDue (s : State) : State := onTime (fun t => { t with secondDue := true }) s

/-- A second's totals stand in the checker, its pattern live. -/
def totalled (intervals notLocked checked errors slips : Nat) (s : State) : State :=
  onChk
    (fun c =>
      { c with
        state := .locked
        totals :=
          { intervals := intervals, notLocked := notLocked, bitsChecked := checked, bitErrors := errors
            slips := slips } })
    (onSrc (fun x => { x with pattern := { live := true, staged := true, pending := false } }) s)

theorem witness_SecondEventIsTaken :
    idle.time.secondDue = false ∧ (secondDue (heard (transmitting 3))).time.secondDue = true ∧
      (secondDue (heard (transmitting 3))).settleChecker = secondDue (heard (transmitting 3)) ∧
      (transmitting 3).roleOf .one = .transmitting ∧ judging.roleOf .one = .judge ∧
      (secondDue (totalled 0 0 0 0 0 judging)).settleChecker = secondDue (totalled 0 0 0 0 0 judging) ∧
      badSecond (totalled 0 0 0 0 0 judging).chk.totals = true ∧
      (onSrc (fun x => { x with pattern := { live := false, staged := true, pending := true } }) idle).src.pattern =
        { live := false, staged := true, pending := true } ∧
      judging.station.isSome = true ∧ judging.margin.current = some .one ∧ judging.hop.phase = .margin ∧
      (totalled 0 0 0 0 0 judging).soak.running = false ∧ (totalled 0 0 0 0 0 judging).src.pattern.live = true ∧
      (secondDue (handedOver .pending)).settleChecker = secondDue (handedOver .pending) ∧
      (onRoute (fun r => { r with partner := .quiet }) (handedOver .pending)).route.partner ≠ .lost ∧
      idle.handover = none := by
  decide +kernel

theorem test_secondEvent :
    after .secondEvent (secondDue (heard idle))
      (fun t => t.route.roster.map RosterEntry.age == [1] && !t.time.secondDue &&
        t.chk.latest == some { totals := Totals.zero, enabled := false }) = true ∧
    after .secondEvent
      (secondDue (onSrc (fun x => { x with pattern := { live := false, staged := true, pending := true } }) idle))
      (fun t => t.src.pattern == { live := true, staged := true, pending := false } && t.chk.state == .hunt) = true := by
  decide +kernel

theorem test_secondEvent_brings_a_limit :
    after .secondEvent (secondDue (totalled 0 0 0 0 0 judging))
      (fun t => queuedKinds t == [.mtest] && t.margin.latched == some 0) = true := by
  rfl

theorem test_secondEvent_loses_the_partner :
    after .secondEvent (secondDue (onRoute (fun r => { r with partner := .quiet }) (handedOver .pending)))
      (fun t => t.route.partner == .lost && t.handover.map HandoverRecord.overall == some .incomplete) = true := by
  decide +kernel

/-! ### Soak -/

/-- An OPEN soak of 100 s elapsed, in an availability, with n pending seconds of a class, every other second CLEAN. -/
def soaking (a : Availability) (n : Nat) (c : SecondClass) (elapsed : Nat) : State :=
  onSoak
    (fun k =>
      { k with
        state := .opened, availability := a, elapsed := elapsed, clean := elapsed - n
        pending := List.replicate n { number := 90, provisional := c } })
    (inPhase .soak)

def waitingSoak (settling : Nat) : State :=
  onSoak (fun k => { k with state := .waiting, settling := settling }) (inPhase .soak)

theorem witness_SoakSecondsAreCounted :
    (secondDue (totalled 1000 0 16000 0 0 (soaking .available 9 .bad 100))).time.secondDue = true ∧
      (secondDue (totalled 1000 0 16000 0 0 (soaking .available 9 .bad 100))).settleChecker =
        secondDue (totalled 1000 0 16000 0 0 (soaking .available 9 .bad 100)) ∧
      (waitingSoak 9).soak.state = .waiting ∧ 10 ≤ (waitingSoak 9).soak.settling + 1 ∧
      ¬ 10 ≤ (waitingSoak 8).soak.settling + 1 ∧ (soaking .outage 9 .clean 100).soak.availability = .outage ∧
      (soaking .available 8 .bad 3598).soak.elapsed + 1 < idle.settings.soakMinutes * 60 ∧
      ¬ (soaking .available 9 .bad 3599).soak.elapsed + 1 < idle.settings.soakMinutes * 60 ∧
      (soaking .available 8 .bad 100).soak.pending.length < 9 ∧ (soaking .outage 9 .clean 100).soak.pending.length = 9 ∧
      idle.soak.state ≠ .waiting ∧ idle.soak.state ≠ .opened ∧
      AttenuationSound (secondDue (totalled 1000 0 16000 0 0 (soaking .available 0 .bad 59))) ∧
      (soaking .available 0 .bad 59).hop.phase = .soak ∧ (soaking .available 0 .bad 59).station = some own := by
  refine ⟨?_, ?_, ?_, ?_, ?_, ?_, ?_, ?_, ?_, ?_, ?_, ?_,
    ⟨by decide +kernel, by decide +kernel, by decide +kernel, fun d h => nomatch h⟩, ?_, ?_⟩ <;> decide +kernel

theorem test_soak_seconds :
    after .secondEvent (secondDue (totalled 1000 0 16000 15 0 (soaking .available 9 .bad 100)))
      (fun t => t.soak.pending == [] && t.soak.bad == 9 && t.soak.errored == 1 && t.soak.elapsed == 101) = true ∧
    after .secondEvent (secondDue (totalled 1000 0 16000 16 0 (soaking .available 9 .bad 100)))
      (fun t => t.soak.availability == .outage && t.soak.outage == 10 && t.soak.periods == 1) = true ∧
    after .secondEvent (secondDue (totalled 1000 100 16000 0 0 (soaking .outage 9 .clean 100)))
      (fun t => t.soak.availability == .outage && t.soak.outage == 10) = true ∧
    after .secondEvent (secondDue (totalled 1000 99 16000 0 0 (soaking .outage 9 .clean 100)))
      (fun t => t.soak.availability == .available && t.soak.clean == 100 && t.soak.errored == 1) = true ∧
    after .secondEvent (secondDue (totalled 1000 0 16000 0 0 (soaking .available 0 .bad 3599)))
      (fun t => t.soak.state == .closed && t.soak.verdict == some .pass) = true := by
  refine ⟨?_, ?_, ?_, ?_, ?_⟩ <;> rfl

/-- The tenth second that does not qualify opens the soak at a settling count of 10, a qualifying one at any (R168). -/
theorem test_soak_opens :
    after .secondEvent (secondDue (totalled 1000 1 16000 0 0 (waitingSoak 9)))
      (fun t => t.soak.state == .opened && t.soak.settling == 10 && t.soak.elapsed == 1) = true ∧
    after .secondEvent (secondDue (totalled 1000 0 16000 0 0 (waitingSoak 4)))
      (fun t => t.soak.state == .opened && t.soak.settling == 4) = true := by
  constructor <;> rfl

theorem test_soak_digests :
    after .secondEvent (secondDue (totalled 1000 0 16000 0 0 (soaking .available 0 .bad 59)))
      (fun t => queuedKinds t == [.digest]) = true ∧
    after .secondEvent (secondDue (totalled 1000 0 16000 0 0 (soaking .available 0 .bad 60)))
      (fun t => queuedKinds t == []) = true := by
  constructor <;> rfl

/-! ### Margin -/

/-- The transmitting end at a step, its dwell complete or a step due, at index 500. -/
def stepping (step dwell : Nat) (due : Bool) : State :=
  atTime 4 500 (onMargin (fun m => { m with dwell := dwell, stepDue := due, announceDue := due }) (transmitting step))

def silent (n : Nat) (s : State) : State := onMargin (fun m => { m with silence := n }) s

theorem witness_MarginStepsRun :
    (stepping 3 10 false).margin.current = some .one ∧ (stepping 3 10 false).margin.states.get .one = .active ∧
      (stepping 3 10 false).roleOf .one = .transmitting ∧ (stepping 3 10 false).margin.dwell = idle.settings.marginDwell ∧
      (stepping 3 10 true).margin.stepDue = true ∧ (stepping 3 10 true).time.now.index = 500 ∧
      (stepping 31 10 true).margin.stepIndex * idle.settings.marginStep < 63 ∧
      63 ≤ (stepping 32 10 true).margin.stepIndex * idle.settings.marginStep ∧
      (stepping 3 10 true).margin.announceDue = true ∧ 10000 ≤ (silent 10000 (transmitting 3)).margin.silence ∧
      ¬ 10000 ≤ (silent 9999 (transmitting 3)).margin.silence ∧ judging.roleOf .one = .judge ∧
      judging.margin.current = some .one ∧ (stepping 3 10 true).station = some own := by
  decide +kernel

theorem test_dwellExpiry :
    after .dwellExpiry (stepping 3 10 false) (fun t => t.margin.stepDue) = true ∧
    idles .dwellExpiry (stepping 3 9 false) = true := by
  decide +kernel

theorem test_marginStepWrite :
    after .marginStepWrite (stepping 31 10 true)
      (fun t => t.margin.stepIndex == 32 && t.src.atten == { live := 0, staged := 63, pending := true }) = true ∧
    after .marginStepWrite (stepping 32 10 true)
      (fun t => t.margin.states == { one := .done, two := .active } && t.src.atten.staged == 0 &&
        t.margin.heard == 0 && t.margin.latched == none && t.margin.silence == 0 && t.margin.results.two == none &&
        (t.margin.results.one.map MarginResult.capped) == some true) = true := by
  constructor <;> rfl

theorem test_stepAnnounce :
    after .stepAnnounce (stepping 3 0 true) (fun t => t.margin.announced == 3 && sends .mtest t) = true := by
  rfl

theorem test_silenceAbort :
    after .silenceAbort (silent 10000 (transmitting 3)) (fun t => t.margin.states.one == .aborted) = true ∧
    idles .silenceAbort (silent 9999 (transmitting 3)) = true := by
  decide +kernel

/-! ### Supply watch -/

def supplied (mv : Nat) (low : Bool) (t : Timer) : State :=
  onSupply (fun _ => { low := low, debounce := t, sense := mv }) idle

theorem witness_SupplyWatchDebounces :
    idle.settings.supplyLow = 0 ∧ 10799 < 10800 ∧ ¬ 10800 < 10800 ∧ 10800 + 300 < 11101 ∧ ¬ 10800 + 300 < 11100 ∧
      idle.supply.debounce ≠ some 0 ∧ (supplied 10799 false (some 0)).supply.debounce = some 0 ∧
      (supplied 10799 false (some 0)).supply.sense < 10800 ∧ (supplied 11101 true (some 0)).supply.low = true ∧
      (supplied 10799 false (some 7)).supply.debounce = some 7 := by
  decide +kernel

theorem test_supplyCrossing :
    after (.supplyCrossing 10799) idle (fun t => t.supply.debounce == some 100) = true ∧
    after (.supplyCrossing 10800) (supplied 10799 false (some 7)) (fun t => t.supply.debounce == none) = true ∧
    after (.supplyCrossing 10700) (supplied 10799 false (some 7)) (fun t => t.supply.debounce == some 7) = true := by
  decide +kernel

theorem test_supplyDebounceExpiry :
    after .supplyDebounceExpiry (supplied 10799 false (some 0)) (fun t => t.supply.low && t.site.flags == [.supply]) =
      true := by
  decide +kernel

/-! ### The invariants' hypotheses -/

def inSample : State := { sweeping with pending := [.sampleEvent (codes 2000)] }

def steps (s : State) : Bool := match step s with | .next _ => true | _ => false

theorem witness_QueuesAndRosterStaySound :
    steps { heard idle with pending := [.queryStatus] } = true ∧ OutputBounded (holding 8 idle) ∧
      WaitingOrdered { idle with route := waitingFor (List.replicate 6 digestFrame) } ∧ RosterSound (heard idle) := by
  refine ⟨by decide +kernel, by unfold OutputBounded; decide +kernel, by unfold WaitingOrdered; decide +kernel,
    by decide +kernel, by decide +kernel, ?_⟩
  intro st h
  cases h
  decide +kernel

theorem witness_FiguresStayInRange : FiguresSound inSample ∧ steps inSample = true := by
  refine ⟨⟨?_, ?_, ?_, ⟨fun i => ?_, fun r h => ?_⟩, ⟨0, by decide, rfl⟩, ⟨0, by decide, rfl⟩⟩, by decide +kernel⟩
  · unfold GeometrySound; decide +kernel
  · unfold AxisSound; decide +kernel
  · unfold AxisSound; decide +kernel
  · cases i <;> decide +kernel
  · cases r <;> cases h

theorem witness_SoakLawIsKept :
    SoakSound (soaking .available 9 .bad 100) ∧ SoakSound (soaking .outage 9 .clean 100) ∧
      steps (soaking .available 9 .bad 100) = true := by
  unfold SoakSound; decide +kernel

theorem witness_PhasesChangeLegally :
    HopSound { proposing .beacon 1 idle with pending := [.abort] } ∧
      steps { proposing .beacon 1 idle with pending := [.abort] } = true := by
  refine ⟨⟨(fun h => nomatch h), ?_, (fun p h => nomatch h), by decide +kernel⟩, by decide +kernel⟩
  intro p h
  cases h
  exact ⟨rfl, (fun h => nomatch h)⟩

/-- The write of step 32, with MAIN confirmed. -/
def writing : State :=
  { onLobe (fun a => { a with confirmed := { main := true, div := false } }) (stepping 31 10 true) with
    pending := [.marginStepWrite] }

theorem witness_AttenuationStaysSafe : HopSound writing ∧ AttenuationSound writing ∧ steps writing = true := by
  refine ⟨⟨(fun h => nomatch h), (fun p h => nomatch h), (fun p h => nomatch h), fun _ => by decide +kernel⟩,
    ⟨by decide +kernel, by decide +kernel, by decide +kernel, fun _ _ _ => rfl⟩, by decide +kernel⟩

/-! ### Further clauses of the statements -/

theorem witness_SampleAverages_comparators :
    idle.profile.thresholds.coMain = -900 ∧ roleSample idle (codes 0) .coMain = -1100 ∧
      roleSample idle (codes 2000) .coMain = -600 ∧ (fading .clear 6 idle).level.channels.coMain.cmp.run + 1 < 8 ∧
      ¬ (fading .clear 7 idle).level.channels.coMain.cmp.run + 1 < 8 ∧
      (fading .faded 7 idle).level.channels.coMain.cmp.state = .faded ∧ idle.profile.filter = 8 := by
  decide +kernel

theorem test_sampleEvent_runs_the_comparators :
    after (.sampleEvent (codes 0)) (fading .clear 7 idle)
      (fun t => t.level.channels.coMain.cmp.state == .faded && t.site.flags.contains (.fade .coMain)) = true ∧
    after (.sampleEvent (codes 2000)) (fading .faded 7 idle)
      (fun t => t.level.channels.coMain.cmp.state == .clear && t.level.channels.coMain.cmp.run == 0) = true := by
  decide +kernel

/-- The identifier runs with a decision level of -60.1 dBm, a swing w, a sample count n, and a rise 104 ms ago. -/
def comparing (w below n : Nat) : State :=
  onIdent
    (fun d =>
      { d with
        running := true, swing := some w, decision := some (-601), below := below, blockCount := n
        closed := List.replicate 4 { hi := -500, lo := -700 }, ring := List.replicate 7 104
        lastRise := some { second := 0, index := 0 } })
    (atTime 0 103 (inPhase .sweep))

theorem witness_BlockCloses_at_a_sample :
    Quiet (comparing 59 3 0) ∧ Quiet (comparing 60 3 0) ∧ Quiet (comparing 60 2 249) ∧
      (comparing 60 3 0).ident.running = true ∧ (comparing 60 3 0).ident.decision = some (-601) ∧
      roleSample (comparing 60 3 0) (codes 0) .coMain < -601 ∧ ¬ roleSample (comparing 60 3 0) (codes 2000) .coMain < -601 ∧
      249 ≤ (comparing 60 2 249).ident.blockCount ∧ Quiet idle ∧ idle.ident.running = false := by
  unfold Quiet; decide +kernel

theorem test_sampleEvent_compares :
    after (.sampleEvent (codes 2000)) (comparing 60 3 0)
      (fun t => t.ident.ring == List.replicate 8 104 && t.ident.state == .own && t.ident.below == 0 &&
        t.ident.lastRise == some { second := 0, index := 104 } && t.site.flags.contains .ident) = true ∧
    after (.sampleEvent (codes 2000)) (comparing 59 3 0)
      (fun t => t.ident.below == 0 && t.ident.lastRise == some { second := 0, index := 0 }) = true ∧
    after (.sampleEvent (codes 0)) (comparing 60 3 0)
      (fun t => t.ident.below == 4 && t.ident.ring.length == 7 && t.ident.blockCount == 1) = true := by
  decide +kernel

theorem test_blockClose_clears_a_small_swing :
    after (.blockClose (-600))
      (onIdent (fun d => { d with closed := List.replicate 4 { hi := -600, lo := -600 } }) (comparing 60 2 249))
      (fun t => t.ident.swing == some 0 && t.ident.ring == [] && t.ident.lastRise == none && t.ident.below == 0 &&
        t.ident.blockMax == none) = true := by
  decide +kernel

theorem test_sampleEvent_makes_the_keying_edge_due :
    after (.sampleEvent (codes 2000)) (keying 51)
      (fun t => t.src.edgeDue && t.src.keyCount == 51 && t.src.keyOut == (keying 51).src.keyOut &&
        t.src.beaconPin == !(keying 51).src.beaconPin) = true ∧
    after (.sampleEvent (codes 2000)) (keying 50) (fun t => t.src.keyCount == 51 && !t.src.edgeDue) = true ∧
    after .keyingEdge (onSrc (fun x => { x with edgeDue := true }) (keying 51))
      (fun t => t.src.keyCount == 0 && t.src.keyOut == !(keying 51).src.keyOut && !t.src.edgeDue) = true := by
  decide +kernel

/-- The output queue holds a QUERY STATUS reply that clears the SUPPLY flag, the mask as given. -/
def showing (mask : BitVec 19) : State :=
  onSite
    (fun p => { p with flags := [.supply], mask := mask, out := [.accepted .abort [.supply, .phase]] }) idle

theorem witness_OutputQueueTakesAndSends_events :
    (showing (BitVec.allOnes 19)).site.mask.getLsbD 17 = true ∧ (showing 0).site.mask.getLsbD 17 = false ∧ (showing 0).site.out.length < 8 ∧
      8 ≤ (holding 8 idle).site.out.length := by
  decide +kernel

theorem test_an_event_queues_its_report :
    ((showing (BitVec.allOnes 19)).signal (.supply true)).site.out =
        [.accepted .abort [.phase], .report (.supply true)] ∧
      ((showing 0).signal (.supply true)).site.out = [.accepted .abort [.phase]] ∧
      ((showing 0).signal (.supply true)).site.flags = [.supply] ∧
      ((holding 8 idle).signal (.supply true)).site.counters.drops = 1 ∧
      ((holding 8 idle).signal (.supply true)).site.out.length = 8 := by
  decide +kernel

theorem test_the_bytes_of_a_partner_report :
    (SiteMessage.report (.partner .quiet 6)).body = [0x90, 9, 1, 6] := by
  decide +kernel

/-- An unconfigured station that has heard its own number, its partner on the other end, and one more. -/
def unconfigured : State :=
  onSupply (fun w => { w with sense := 10700, debounce := some 7 })
    (onRoute
      (fun r =>
        { r with roster := [RosterEntry.fresh { header with source := 3 }, RosterEntry.fresh header,
                            RosterEntry.fresh { header with source := 9 }] })
      State.reset)

theorem witness_SetupIsAnswered_roster :
    unconfigured.station = none ∧ unconfigured.hop.phase = .idle ∧ Room unconfigured ∧
      (unconfigured.route.roster.find? (fun e => e.station == 3)).isSome = true ∧
      unconfigured.route.roster.find? (fun e => e.station == 5) = some (RosterEntry.fresh header) ∧
      State.reset.route.roster.find? (fun e => e.station == 5) = none ∧ unconfigured.route.clash = false ∧
      unconfigured.route.partner ≠ .live := by
  unfold Room; decide +kernel

theorem test_setup_takes_the_roster :
    after (.setup record) unconfigured
      (fun t => t.route.roster.map RosterEntry.station == [5, 9] && t.route.clash && t.route.counters.clashes == 1 &&
        t.route.partner == .live && !t.route.conflict && t.supply.debounce == some 100 &&
        t.site.flags.contains .clash && t.site.flags.contains .partner &&
        t.route.inFlight == some { frame := buildFrame own (.status (statusShown own t)), resend := false }) = true ∧
    after (.setup { record with hopEnd := 1, supplyLow := 1 }) unconfigured
      (fun t => t.route.conflict && t.site.flags.contains .endsConflict && t.supply.debounce == some 100) = true := by
  constructor <;> rfl

theorem test_setup_body_spells_the_record :
    readRecord (setupBody record) = some record ∧ (setupBody record).length = 86 ∧
      readRecord (setupBody { record with words := some [1, 2, 3, 4, 5, 6, 7, 0x8001] }) =
        some { record with words := some [1, 2, 3, 4, 5, 6, 7, 0x8001] } ∧
      (setupBody { record with words := some [1, 2, 3, 4, 5, 6, 7, 0x8001] }).length = 102 ∧
      (setupBody record).take 8 = [3, 2, 5, 0, 0xFB, 0xB4, 64, 0xFB] := by
  decide +kernel

theorem test_unknownRequest_spells_the_rows :
    exec (.unknownRequest 1 (setupBody record)) State.reset = exec (.setup record) State.reset ∧
    replies (.unknownRequest 2 [4]) idle (.refused 2 .badField none) = true ∧
    replies (.unknownRequest 2 [13]) idle (.refused 2 .badField none) = true ∧
    replies (.unknownRequest 1 (setupBody record).tail) idle (.refused 1 .badField (some 0)) = true := by
  refine ⟨?_, ?_, ?_, ?_⟩ <;> rfl

/-- A full roster in which station 9 is the oldest, and the partner, at 5, asks for LEVEL frames. -/
def fullRoster (p : Phase) : State :=
  onRoute
    (fun r =>
      { r with
        roster :=
          [1, 2, 4, 5, 6, 7, 8, 9, 10, 11, 12, 13, 14, 15].map fun n =>
            { RosterEntry.fresh { header with source := n } with age := if n = 9 then 7 else 3, wantsLevel := true }
        partner := .quiet })
    (inPhase p)

theorem witness_GoodFrameUpdatesTheRoster_entries :
    (fullRoster .idle).route.roster.length = 14 ∧ (heard idle).route.roster.length < 14 ∧
      ((fullRoster .idle).route.roster.find? fun x => x.station == 3) = none ∧
      RosterSound { fullRoster .idle with station := none } ∧ Listening (fullRoster .sweep) ∧
      (fullRoster .sweep).hop.phase = .sweep ∧ (fullRoster .sweep).route.levelTimer = none ∧
      (fullRoster .sweep).route.partner ≠ .live ∧ (heard idle).route.partner = .live ∧
      (FrameBody.level levelBody).kind = .level ∧ idle.route.conflict = false := by
  refine ⟨by decide +kernel, by decide +kernel, by decide +kernel,
    ⟨by decide +kernel, by decide +kernel, (fun st h => nomatch h)⟩, by unfold Listening; decide +kernel, ?_⟩
  decide +kernel

theorem test_a_frame_replaces_the_oldest :
    after (.receiveLevel { header with source := 3 } levelBody) { fullRoster .idle with station := none }
      (fun t => t.route.roster.map RosterEntry.station == [1, 2, 3, 4, 5, 6, 7, 8, 10, 11, 12, 13, 14, 15] &&
        t.route.counters.replacements == 1) = true ∧
    after (.receiveStatus header { statusBody .sweep with lastStation := 5, lastNumber := 8 }) (heard idle)
      (fun t => (t.partnerEntry.bind RosterEntry.lastAccepted) == some { proposer := 5, number := 8 }) = true := by
  decide +kernel

theorem test_a_partner_frame_is_heard :
    after (.receiveVerdict { header with hopEnd := .a } verdictBody) (fullRoster .sweep)
      (fun t => t.route.partner == .live && t.route.conflict && t.site.flags == [.partner, .endsConflict] &&
        t.route.levelTimer == some 250 && queuedKinds t == [.level]) = true := by
  decide +kernel

/-- A STATUS in MARGIN whose done flags are given, the partner transmitting direction 1 at step 6. -/
def progressBody (one two : Bool) : StatusBody :=
  { statusBody .margin with
    progress := { direction := 1, role := .transmitting, step := 6, doneOne := one, doneTwo := two } }

/-- Direction 1 is DONE at its transmitting end, its DONE repeated; the station judges direction 2. -/
def repeatingDone : State :=
  onMargin
    (fun m =>
      { m with
        current := some .two, states := { one := .done, two := .active }, doneTimer := some 700
        doneBody := some (mtestBody 3) })
    (inPhase .margin)

theorem witness_StatusMovesThePhase_margin :
    Delivered { own with hopEnd := .b } { header with hopEnd := .a } (heard judging) ∧
      Delivered own header (heard repeatingDone) ∧ (progressBody true true).wellFormed = true ∧
      judging.margin.current = some .one ∧ judging.margin.states.get .one = .active ∧ roleIn .b .one = .judge ∧
      repeatingDone.margin.current = some .two ∧ repeatingDone.margin.states.get .two = .active ∧
      roleIn .a .two = .judge ∧ HopSound (confirmedMain (heard judging)) ∧
      HopSound (confirmedMain (heard repeatingDone)) ∧ idle.margin.current = none := by
  refine ⟨by unfold Delivered Listening; decide +kernel, by unfold Delivered Listening; decide +kernel, by decide +kernel,
    by decide +kernel, by decide +kernel, by decide +kernel, by decide +kernel, by decide +kernel, by decide +kernel,
    ⟨(fun h => nomatch h), (fun p h => nomatch h), (fun p h => nomatch h), fun _ => by decide +kernel⟩,
    ⟨(fun h => nomatch h), (fun p h => nomatch h), (fun p h => nomatch h), fun _ => by decide +kernel⟩, rfl⟩

theorem test_receiveStatus_tells_the_margin :
    after (.receiveStatus { header with hopEnd := .a } (progressBody false false)) (heard judging)
      (fun t => t.margin.heard == 6 && t.margin.states.one == .active) = true ∧
    after (.receiveStatus { header with hopEnd := .a } (progressBody true false)) (heard judging)
      (fun t => t.margin.states == { one := .done, two := .active } && t.margin.results.one == none &&
        queuedKinds t == [.mtest]) = true ∧
    after (.receiveStatus header (progressBody true false)) (heard repeatingDone)
      (fun t => t.margin.doneTimer == none && t.margin.acknowledged == { one := true, two := false }) = true := by
  refine ⟨?_, ?_, ?_⟩ <;> rfl

theorem test_status_halts_the_blocks :
    after (.receiveStatus header (statusBody .halted)) (heard openFades)
      (fun t => t.hop.haltCause == some .partner && t.soak.state == .incomplete && t.soak.list.length == 2 &&
        t.src.pattern.pending && queuedKinds t == [.digest, .status]) = true ∧
    after (.receiveAnswer header (answerBody .soak true none))
      (proposing .soak 1 (heard (confirmedMain (inPhase .confirm))))
      (fun t => t.hop.phase == .soak && t.soak.state == .waiting && t.src.pattern.staged &&
        queuedKinds t == [.status]) = true := by
  constructor <;> rfl

theorem witness_SweepEntryStartsTheMap_again :
    Delivered own header (answered (heard (inPhase .beacon))) ∧
      (answered (heard (inPhase .beacon))).hop.lastAnswered.map AnsweredRecord.target ≠ some (proposeBody .sweep).target ∧
      (proposing .sweep 1 (heard (inPhase .beacon))).evaluate .sweep .main = none ∧
      (statusBody .sweep).wellFormed = true := by
  unfold Delivered Listening; decide +kernel

theorem test_sweep_entries :
    after (.receivePropose header (proposeBody .sweep)) (answered (heard (inPhase .beacon)))
      (fun t => t.map.state == .recording && t.ident.running) = true ∧
    after (.receivePropose header (proposeBody .sweep)) (proposing .sweep 1 (heard (inPhase .beacon)))
      (fun t => t.hop.phase == .sweep && t.map.state == .recording && t.src.beacon.live == .keyed) = true := by
  constructor <;> rfl

theorem witness_AnswerIsTaken_declines :
    HopSound (proposing .beacon 1 (heard idle)) ∧ (answerBody .beacon false (some .crossed)).wellFormed = true ∧
      (answerBody .beacon false (some .notReady)).wellFormed = true ∧ (heard idle).hop.phase = .idle ∧
      (heard idle).hop.outstanding = none ∧ (inPhase .halted).hop.phase = .halted ∧
      ({ answerBody .beacon true none with proposer := 4 } : AnswerBody).wellFormed = true := by
  refine ⟨⟨(fun h => nomatch h), ?_, (fun p h => nomatch h), by decide +kernel⟩, ?_⟩
  · intro p h
    cases h
    exact ⟨rfl, (fun h => nomatch h)⟩
  · decide +kernel

theorem test_a_crossed_proposal_is_withdrawn :
    after (.receiveAnswer header (answerBody .beacon false (some .crossed))) (proposing .beacon 1 (heard idle))
      (fun t => t.site.out == [.report (.proposal 9 .beacon .withdrawn none)]) = true := by
  decide +kernel

theorem test_an_incomplete_digest_gives_fail :
    overallAfter { digestBody with incomplete := true } .pending .fail = true := by
  decide +kernel

/-- Direction d is ABORTED in MARGIN. -/
def abortedIn (d : Direction) (s : State) : State :=
  onMargin (fun m => { m with current := some d, states := m.states.set d .aborted }) s

/-- End A judges direction 2, direction 1 having its result. -/
def lastDirection : State :=
  onMargin
    (fun m =>
      { m with
        current := some .two, states := { one := .done, two := .active }
        results := { one := some { margin := some 40, capped := false, atZero := false, outcome := .pass }, two := none } })
    (inPhase .margin)

/-- The result of direction 1 is not yet known at end B, where it is DONE and direction 2 stands as given. -/
def lateJudge (x : DirectionState) : State :=
  onMargin (fun m => { m with current := some .two, states := { one := .done, two := x } }) judging

theorem witness_MtestFramesAreTaken_further :
    Delivered own header (heard lastDirection) ∧ ({ mtestBody 3 with direction := .two } : MtestBody).wellFormed = true ∧
      lastDirection.margin.states.get .two = .active ∧ roleIn .a .two = .judge ∧
      (heard lastDirection).hop.outstanding = none ∧ (proposing .handover 1 (heard lastDirection)).hop.outstanding ≠ none ∧
      (abortedIn .one (heard (transmitting 3))).margin.states.get .one = .aborted ∧
      (abortedIn .one (heard (transmitting 3))).hop.phase = .margin ∧
      abortedDirection (lateJudge .active) = none ∧ abortedDirection (lateJudge .aborted) = some .two ∧
      (lateJudge .active).margin.states.get .one = .done ∧ (lateJudge .active).margin.results.get .one = none := by
  unfold Delivered Listening; decide +kernel

theorem test_an_aborted_direction_runs_again :
    after (.mtestLimit header (mtestBody 3)) (abortedIn .one (heard (transmitting 3)))
      (fun t => t.margin.states.one == .active && t.margin.stepIndex == 0 && t.margin.results.one == none &&
        queuedKinds t == [.mtest]) = true ∧
    after (.mtestDone { header with hopEnd := .a } (mtestBody 3)) (heard (lateJudge .aborted))
      (fun t => t.margin.results.one.isSome && t.margin.states == { one := .done, two := .active }) = true := by
  constructor <;> rfl

theorem test_the_last_done_brings_a_proposal :
    after (.mtestDone header { mtestBody 3 with direction := .two }) (heard lastDirection)
      (fun t => (t.hop.outstanding.map Proposal.target) == some .handover && t.hop.answerTimer == some 2000 &&
        queuedKinds t == [.propose]) = true ∧
    after (.mtestDone { header with hopEnd := .a } { mtestBody 3 with direction := .two }) (heard lastDirection)
      (fun t => t.hop.outstanding == none && t.hop.autoTimer == some 10000) = true := by
  constructor <;> rfl

/-- The soak completes at this second event. -/
def completing (s : State) : State := secondDue (totalled 1000 0 16000 0 0 s)

theorem witness_SoakSecondsAreCounted_proposals :
    (completing (heard (soaking .available 0 .bad 3599))).station = some own ∧ own.hopEnd = .a ∧
      AttenuationSound (completing (heard (soaking .available 0 .bad 3599))) ∧
      (completing (heard (soaking .available 0 .bad 3599))).hop.outstanding = none ∧
      (heard (soaking .available 0 .bad 3599)).route.conflict = false ∧ (judging).station = some { own with hopEnd := .b } ∧
      (completing (heard (soaking .available 0 .bad 3599))).settleChecker =
        completing (heard (soaking .available 0 .bad 3599)) := by
  refine ⟨rfl, rfl, ⟨by decide +kernel, by decide +kernel, by decide +kernel, fun d h => nomatch h⟩, ?_⟩
  decide +kernel

theorem test_a_completed_soak_brings_a_proposal :
    after .secondEvent (completing (heard (soaking .available 0 .bad 3599)))
      (fun t => (t.hop.outstanding.map Proposal.target) == some .margin && t.hop.autoTimer == none &&
        queuedKinds t == [.digest, .propose]) = true ∧
    after .secondEvent (completing (soaking .available 0 .bad 3599))
      (fun t => t.hop.outstanding == none && t.hop.autoTimer == some 10000 && queuedKinds t == [.digest]) = true := by
  constructor <;> rfl

/-! ### The map's geometry, a restart in HANDOVER, the confirmed set, and a row of many characters -/

/-- The default geometry covers AZ -32..31 and EL -16..15, and 0, 0 lies at the lowest counts of cell 8, 4 (R49). -/
theorem test_the_default_geometry_places :
    let g := idle.settings.geometry
    g.place 0 0 = some { column := 8, row := 4 } ∧ g.place (-1) (-1) = some { column := 7, row := 3 } ∧
      g.place 3 3 = some { column := 8, row := 4 } ∧ g.place 4 4 = some { column := 9, row := 5 } ∧
      g.place 31 15 = some { column := 15, row := 7 } ∧ g.place (-32) (-16) = some { column := 0, row := 0 } ∧
      g.place 32 0 = none ∧ g.place (-33) 0 = none ∧ g.place 0 16 = none ∧ g.place 0 (-17) = none := by
  decide +kernel

theorem witness_SampleIsMapped_geometry :
    GeometrySound { columns := 8, rows := 4, cellWidth := 1, cellHeight := 64 } ∧
      GeometrySound idle.settings.geometry := by
  unfold GeometrySound; decide +kernel

theorem witness_RestartReturnsToIdle_handover :
    Room (handedOver .pending) ∧ (handedOver .pending).hop.phase = .handover ∧
      ((handedOver .pending).handover.map HandoverRecord.overall) = some .pending ∧
      ((handedOver .pass).handover.map HandoverRecord.overall) = some .pass := by
  unfold Room; decide +kernel

theorem test_a_restart_in_handover :
    after .restart (handedOver .pending)
      (fun t => (t.handover.map HandoverRecord.overall) == some .incomplete && t.site.flags == [.handover] &&
        t.site.out == [.accepted .restart []]) = true ∧
    after .restart (handedOver .pass)
      (fun t => (t.handover.map HandoverRecord.overall) == some .pass && t.site.flags == []) = true := by
  constructor <;> rfl

/-- The bytes of an ABORT and of a RESTART: one row, two messages, and the phase changes twice (R191; log 17). -/
theorem test_one_row_brings_two_messages :
    after (.siteChecksumError [0xA7, 0, 1, 4, 0xFB]) (inPhase .beacon) (fun t => t.hop.phase == .halted) = true ∧
    after (.siteChecksumError [0xA7, 0, 1, 4, 0xFB, 0xA7, 0, 1, 5, 0xFA]) (inPhase .beacon)
      (fun t => t.hop.phase == .idle && t.site.out == [.accepted .restart []]) = true := by
  constructor <;> rfl

theorem witness_PhasesChangeLegally_characters :
    HopSound { idle with pending := [.siteChecksumError [0xA7]] } ∧
      steps { idle with pending := [.siteChecksumError [0xA7]] } = true ∧
      after (.siteChecksumError [0xA7, 0, 1, 4, 0xFB]) (inPhase .beacon) (fun _ => true) = true ∧
      after (.routeFrameDiscarded [0x9E]) idle (fun _ => true) = true := by
  refine ⟨⟨(fun h => nomatch h), (fun p h => nomatch h), (fun p h => nomatch h), by decide +kernel⟩, ?_⟩
  decide +kernel


end Sys2Proof.Tests
end

section
/-! PROOFS. What one sample event does to the inputs and to the measurement channels (R1 to R11), and from it the
seeding of a fresh channel. -/

namespace Sys2Proof.Machine

/-! ### The inputs at a sample event (R1 to R6) -/

/-- The warning's work leaves the converted sample as it is (R3). -/
@[simp] theorem InputState.watch_sample (x : InputState) : x.watch.1.sample = x.sample := by
  unfold InputState.watch InputState.countIn
  split
  · split <;> rfl
  · rfl

/-- An input's sample is the conversion of its code, whatever its range state (R4). -/
@[simp] theorem InputState.take_sample (cal : Calibration) (code : Nat) (x : InputState) :
    (x.take cal code).1.sample = convert cal code := by
  simp only [InputState.take, InputState.watch_sample]

/-- One input's conversion changes that input's register alone in the level unit (R2 to R4). -/
theorem State.sampleInput_level (codes : ByInput Nat) (i : Input) (s : State) :
    (s.sampleInput codes i).level =
      { s.level with
        inputs :=
          s.level.inputs.set i ((s.level.inputs.get i).take (s.settings.calibration.get i) (codes.get i)).1 } := by
  dsimp only [State.sampleInput]
  split
  · simp
  · rfl

@[simp] theorem State.sampleInput_sample_same (codes : ByInput Nat) (i : Input) (s : State) :
    ((s.sampleInput codes i).level.inputs.get i).sample =
      convert (s.settings.calibration.get i) (codes.get i) := by
  simp [State.sampleInput_level]

theorem State.sampleInput_input_ne (codes : ByInput Nat) {i j : Input} (s : State) (h : j ≠ i) :
    (s.sampleInput codes i).level.inputs.get j = s.level.inputs.get j := by
  rw [State.sampleInput_level]
  exact ByInput.get_set_ne _ _ h

/-- Each input holds the sample of its own code once all four have converted (R1, R4). -/
theorem State.sampleInputs_sample (codes : ByInput Nat) (i : Input) (s : State) :
    ((s.sampleInputs codes).level.inputs.get i).sample =
      convert (s.settings.calibration.get i) (codes.get i) := by
  cases i <;> simp [State.sampleInputs, State.sampleInput_input_ne]

/-- The conversions leave the steering choice and the channels as they are (R1). -/
@[simp] theorem State.sampleInputs_level_kept (codes : ByInput Nat) (s : State) :
    (s.sampleInputs codes).level.steering = s.level.steering ∧
      (s.sampleInputs codes).level.channels = s.level.channels := by
  simp [State.sampleInputs, State.sampleInput_level]

/-- The sample a role's channel is handed is the role's input converted (R4, R6). -/
theorem State.sampleInputs_roleInput (codes : ByInput Nat) (r : Role) (s : State) :
    ((s.sampleInputs codes).roleInput r).sample = roleSample s codes r := by
  simp [State.roleInput, State.sampleInputs_sample, roleSample]

/-! ### The channels at a sample event (R9, R10) -/

/-- What a role's channel becomes when it takes its input's sample under a gate (R9, R17). -/
def State.channelTaken (gate : Option Level) (r : Role) (s : State) : Channel :=
  ((s.level.channels.get r).take s.profile r (roleGate gate s.level.steering r) s.time.now (s.roleInput r).sample).1

/-- One channel's sample changes that channel alone in the level unit (R9, R17). -/
theorem State.sampleChannel_level (gate : Option Level) (r : Role) (s : State) :
    (s.sampleChannel gate r).level =
      { s.level with channels := s.level.channels.set r (s.channelTaken gate r) } := by
  simp [State.sampleChannel, State.channelTaken]

@[simp] theorem State.sampleChannel_get_same (gate : Option Level) (r : Role) (s : State) :
    (s.sampleChannel gate r).level.channels.get r = s.channelTaken gate r := by
  simp [State.sampleChannel_level]

theorem State.sampleChannel_get_ne (gate : Option Level) {q r : Role} (s : State) (h : r ≠ q) :
    (s.sampleChannel gate q).level.channels.get r = s.level.channels.get r := by
  rw [State.sampleChannel_level]
  exact ByRole.get_set_ne _ _ h

/-- What one channel takes does not depend on another having taken its sample before (R1). -/
theorem State.sampleChannel_channelTaken_ne (gate : Option Level) {q r : Role} (s : State) (h : r ≠ q) :
    (s.sampleChannel gate q).channelTaken gate r = s.channelTaken gate r := by
  rw [State.channelTaken, State.sampleChannel_get_ne gate s h]
  simp [State.channelTaken, State.profile, State.roleInput, State.sampleChannel_level]

/-- Each of the four channels takes its own sample once (R1, R9). -/
theorem State.sampleChannels_get (gate : Option Level) (r : Role) (s : State) :
    (s.sampleChannels gate).level.channels.get r = s.channelTaken gate r := by
  cases r <;>
    simp [State.sampleChannels, State.sampleChannel_get_ne, State.sampleChannel_channelTaken_ne]

/-- The identifier, the snapshot and the map leave the channels as the sample made them (R1). -/
theorem State.measure_get (codes : ByInput Nat) (r : Role) (s : State) :
    (s.measure codes).level.channels.get r = (s.sampleInputs codes).channelTaken s.ident.gate r := by
  simp [State.measure, State.sampleChannels_get]

/-- A channel after a SAMPLE_EVENT: it has taken its role's sample under the gate and the steering choice that stood
before the event, as what was due changes neither (R1, R9, R10; log 3). -/
theorem State.sampleEvent_get (codes : ByInput Nat) (r : Role) (s : State) :
    (s.settle.sampleWork codes).level.channels.get r =
      ((s.level.channels.get r).take s.settle.profile r (roleGate s.ident.gate s.level.steering r)
        s.settle.time.sample.now (roleSample s codes r)).1 := by
  simp [State.sampleWork, State.measure_get, State.channelTaken, State.sampleInputs_roleInput, roleSample,
    State.profile, State.tickTimers]

/-! ### Admission and the average (R9, R11) -/

/-- The gate refuses a role's sample exactly when the sample is skipped in the words of the statements (R9). -/
theorem admits_roleGate_eq_false_iff (s : State) (r : Role) (x : Level) :
    admits (roleGate s.ident.gate s.level.steering r) x = false ↔ Skipped s r x := by
  by_cases steers : r = steeringRole s.level.steering
  · cases active : identGates s.ident.state
    · simp [roleGate, steers, Identifier.gate, active, admits, Skipped]
    · cases level : s.ident.decision <;>
        simp [roleGate, steers, Identifier.gate, active, level, admits, Skipped]
  · simp [roleGate, steers, admits, Skipped]

/-- The comparator's work leaves the averager's registers as the average made them (R17). -/
@[simp] theorem Channel.take_averager (p : ProfileSettings) (r : Role) (gate : Option Level) (t : SampleTime)
    (x : Level) (c : Channel) :
    (c.take p r gate t x).1.acc = (c.takeAverage p.shift gate x).acc ∧
      (c.take p r gate t x).1.fresh = (c.takeAverage p.shift gate x).fresh := ⟨rfl, rfl⟩

/-- A fresh channel that admits a sample is seeded, and the seed takes no account of the shift (R11). -/
theorem Channel.takeAverage_seeds {k : Nat} {gate : Option Level} {x : Level} {c : Channel}
    (fresh : c.fresh = true) (admitted : admits gate x = true) :
    (c.takeAverage k gate x).acc = x * 256 ∧ (c.takeAverage k gate x).fresh = false := by
  simp [Channel.takeAverage, Channel.average, fresh, admitted]

/-- A skipped sample leaves the accumulator and the fresh flag as they are (R9, R11). -/
theorem Channel.takeAverage_skipped {k : Nat} {gate : Option Level} {x : Level} {c : Channel}
    (skipped : admits gate x = false) :
    (c.takeAverage k gate x).acc = c.acc ∧ (c.takeAverage k gate x).fresh = c.fresh := by
  simp [Channel.takeAverage, skipped]

end Sys2Proof.Machine

namespace Sys2Proof.Proofs

open Sys2Proof Sys2Proof.Machine

/-- Settles O9: the event's channel is the fresh one having taken its role's sample, and the gate's answer decides
between the seed and the channel as it was (R9, R11). -/
theorem firstAdmittedSampleSeeds : Obligations.FirstAdmittedSampleSeeds := by
  intro codes r s fresh
  refine ⟨s.settle.sampleWork codes, rfl, fun notSkipped => ?_, fun skipped => ?_⟩
  · have admitted := eq_true_of_ne_false (mt (admits_roleGate_eq_false_iff s r _).mp notSkipped)
    simpa [State.sampleEvent_get] using Channel.takeAverage_seeds fresh admitted
  · have refused := (admits_roleGate_eq_false_iff s r _).mpr skipped
    simp [State.sampleEvent_get, Channel.takeAverage_skipped refused, fresh]

end Sys2Proof.Proofs
end

section
/-! PROOFS. What a ZERO does to the position counter, and its refusal in SWEEP (R44). -/

namespace Sys2Proof.Machine

/-! ### The zero of the position counter (R44) -/

/-- A zeroed position: each axis keeps its slip count and its lines, and the snapshot shows counts of 0 (R44). -/
theorem Position.zero_eq (p : Position) :
    p.zero =
      { axes :=
          { az := { p.axes.az with count := 0, saturated := false, slipped := false }
            el := { p.axes.el with count := 0, saturated := false, slipped := false } }
        snapshot := { az := 0, el := 0, azSaturated := false, elSaturated := false } } := rfl

/-! ### The ZERO request (R44, R192) -/

/-- Outside SWEEP the request zeroes the position and is answered ACCEPTED (R44). -/
theorem State.answerZero_accepted {s : State} (h : s.hop.phase ≠ .sweep) :
    s.answerZero = { s.accept .zero with pos := s.pos.zero } := if_neg h

/-- In SWEEP the refusal is the request's one effect (R44). -/
theorem State.answerZero_refused {s : State} (h : s.hop.phase = .sweep) :
    s.answerZero = s.refuse typeZero .notNow := if_pos h

/-- With room in the output queue, ZERO is its request answered, the framer hunting again (R192). -/
theorem exec_zero_taken {s : State} (room : Room s) :
    exec .zero s = .next { s with site := { s.site with framer := .hunting } }.answerZero :=
  congrArg Host.Outcome.next (State.request_taken State.answerZero s room)

end Sys2Proof.Machine

namespace Sys2Proof.Proofs

open Sys2Proof Sys2Proof.Machine

/-- Settles O29: the taken request, split by the phase; the framer's return to hunting changes neither the phase nor the
position (R44). -/
theorem zeroZeroesBothAxes : Obligations.ZeroZeroesBothAxes := by
  intro s room
  refine ⟨fun notSweep => ?_, fun sweep => ?_⟩
  · rw [exec_zero_taken room, State.answerZero_accepted (by exact notSweep), Position.zero_eq]
    rfl
  · rw [exec_zero_taken room, State.answerZero_refused (by exact sweep)]
    rfl

end Sys2Proof.Proofs
end

section
/-! PROOFS. What the fades of one sample event leave of the soak recorder, and from it the joint-fade count at a sample
event (R177, R178). -/

namespace Sys2Proof.Machine

/-! ### What a fade leaves of the recorder (R177, R179) -/

/-- An entry in the fade list reaches the list and its discards alone (R179). -/
@[simp] theorem Soak.enterFade_state_joint (x : FadeEntry) (k : Soak) :
    (k.enterFade x).state = k.state ∧ (k.enterFade x).joint = k.joint := by
  dsimp only [Soak.enterFade]
  split
  · exact ⟨rfl, rfl⟩
  · split
    · exact ⟨rfl, rfl⟩
    · split <;> exact ⟨rfl, rfl⟩

/-- A comparator's event is recorded in its role's record and the fade list: it neither starts nor closes a soak, nor
counts a joint fade (R177, R179). -/
@[simp] theorem Soak.takeFade_state_joint (st : Settings) (r : Role) (e : FadeEvent) (k : Soak) :
    (k.takeFade st r e).state = k.state ∧ (k.takeFade st r e).joint = k.joint := by
  unfold Soak.takeFade
  split
  · split
    · simp [Soak.fadeFinish]
    · exact ⟨rfl, rfl⟩
  · exact ⟨rfl, rfl⟩

@[simp] theorem State.deliverFades_state_joint (r : Role) (e : Option FadeEvent) (s : State) :
    (s.deliverFades r e).soak.state = s.soak.state ∧ (s.deliverFades r e).soak.joint = s.soak.joint := by
  cases e with
  | none => exact ⟨rfl, rfl⟩
  | some e => simp [State.deliverFades, State.deliverFade]

@[simp] theorem State.sampleChannel_state_joint (gate : Option Level) (r : Role) (s : State) :
    (s.sampleChannel gate r).soak.state = s.soak.state ∧ (s.sampleChannel gate r).soak.joint = s.soak.joint := by
  simp [State.sampleChannel]

/-- The measuring blocks leave the soak's state and its joint-fade count to the recorder's own work (R1, R178). -/
@[simp] theorem State.measure_state_joint (codes : ByInput Nat) (s : State) :
    (s.measure codes).soak.state = s.soak.state ∧ (s.measure codes).soak.joint = s.soak.joint := by
  simp [State.measure, State.sampleChannels]

/-! ### The joint-fade count (R178) -/

/-- When a joint fade is counted: in a running soak, with diversity fitted, both co-polar comparators FADED (R178). -/
def JointFade (k : Soak) (st : Settings) (c : ByRole Channel) : Prop :=
  k.running = true ∧ st.diversity = true ∧ c.coMain.cmp.state = .faded ∧ c.coDiv.cmp.state = .faded

/-- The recorder counts a joint fade, and counts nothing else as one (R178). -/
theorem Soak.sample_joint (st : Settings) (low : Bool) (u : LevelUnit) (k : Soak) :
    (JointFade k st u.channels → (k.sample st low u).joint = satInc max32 k.joint) ∧
      (¬ JointFade k st u.channels → (k.sample st low u).joint = k.joint) := by
  constructor
  · rintro ⟨running, diversity, main, div⟩
    simp [Soak.sample, Channel.faded, running, diversity, main, div]
  · intro notJoint
    by_cases running : k.running = true
    · have noFade : (st.diversity && u.channels.coMain.faded && u.channels.coDiv.faded) = false := by
        simpa [JointFade, Channel.faded, running] using notJoint
      simp [Soak.sample, running, noFade]
    · simp [Soak.sample, running]

/-- The counters of a sample event hand the recorder the settings, the supply state and the comparators (R169, R178). -/
@[simp] theorem State.sampleCounters_soak (s : State) :
    s.sampleCounters.soak = s.soak.sample s.settings s.supply.low s.level := rfl

/-- The recorder's work after measuring that left the soak's state, its joint-fade count and the settings as they stood:
the comparators it left decide (R178). -/
theorem State.sampleCounters_joint {s m : State} (state : m.soak.state = s.soak.state)
    (joint : m.soak.joint = s.soak.joint) (settings : m.settings = s.settings) :
    (JointFade s.soak s.settings m.sampleCounters.level.channels →
        m.sampleCounters.soak.joint = satInc max32 s.soak.joint) ∧
      (¬ JointFade s.soak s.settings m.sampleCounters.level.channels →
        m.sampleCounters.soak.joint = s.soak.joint) := by
  have counted := Soak.sample_joint m.settings m.supply.low m.level m.soak
  simpa only [State.sampleCounters_frame, State.sampleCounters_soak, JointFade, Soak.running, state, joint,
    settings] using counted

/-- A sample event's joint-fade count: the soak and the settings that stood before it, and the comparators as it leaves
them, decide (R1, R178). -/
theorem State.sampleWork_joint (codes : ByInput Nat) (s : State) :
    (JointFade s.soak s.settings (s.sampleWork codes).level.channels →
        (s.sampleWork codes).soak.joint = satInc max32 s.soak.joint) ∧
      (¬ JointFade s.soak s.settings (s.sampleWork codes).level.channels →
        (s.sampleWork codes).soak.joint = s.soak.joint) := by
  unfold State.sampleWork
  exact State.sampleCounters_joint (by simp) (by simp) (by simp)

end Sys2Proof.Machine

namespace Sys2Proof.Proofs

open Sys2Proof Sys2Proof.Machine

/-- Settles O14: with nothing due the event is its own work alone, and each of the four ways in which the count stays
is the failure of one condition of a joint fade (R178). -/
theorem jointFadesAreCounted : Obligations.JointFadesAreCounted := by
  intro codes s quiet
  obtain ⟨counts, stays⟩ := s.sampleWork_joint codes
  refine ⟨s.settle.sampleWork codes, rfl, ?_⟩
  rw [show s.settle = s from quiet]
  refine ⟨fun running diversity main div => counts ⟨running, diversity, main, div⟩, fun missing => stays ?_⟩
  rintro ⟨running, diversity, main, div⟩
  simp [running, diversity, main, div] at missing

end Sys2Proof.Proofs
end

section
/-! PROOFS. The queue, the tick, the two resets, and that every command answers a next state on the queue it found. -/

namespace Sys2Proof.Machine

/-! ### The outcome of a command -/

/-- A frame's arrival leaves the waiting commands to the queue, whatever its kind delivers. -/
theorem exec_receive_pending (f : Frame) (s : State) :
    ∃ t, exec (receiveRow f) s = .next t ∧ t.pending = s.pending := by
  rcases f with ⟨h, b⟩
  rcases b with b | b | b | b | b | b | ⟨e, b⟩
  case mtest =>
    cases e
    all_goals exact ⟨_, rfl, State.receive_pending _ _ (by simp) s⟩
  all_goals exact ⟨_, rfl, State.receive_pending _ _ (by simp) s⟩

/-- A request keeps the waiting commands when its handler does (R192). -/
theorem State.request_pending {handle : State → State} (kept : ∀ x, (handle x).pending = x.pending) (s : State) :
    (s.request handle).pending = s.pending := by
  unfold State.request
  dsimp only
  split
  · exact kept _
  · rfl

/-- The cut of a message or a frame keeps the waiting commands (R108, R191). -/
theorem exec_cut_pending (cut : LineCut) (s : State) :
    (∃ t, exec (.siteGapTimeout cut) s = .next t ∧ t.pending = s.pending) ∧
      ∃ t, exec (.routeGapTimeout cut) s = .next t ∧ t.pending = s.pending := by
  constructor
  · refine ⟨_, rfl, ?_⟩
    split <;> simp
  · refine ⟨_, rfl, ?_⟩
    split <;> simp

/-! ### The hard reset -/

/-- The debounce after a hard reset starts when the input stands below the lowest LOW level (R198; log 8). -/
theorem Supply.hardReset_eq (x : Supply) :
    x.hardReset = { low := false, debounce := if x.sense < 10800 then some 100 else none, sense := x.sense } := by
  simp [Supply.hardReset, supplyDebounce, supplyCondition, supplyLevel]

end Sys2Proof.Machine

namespace Sys2Proof.Proofs

open Sys2Proof Sys2Proof.Machine

/-- Settles O1: the queue's front is what the step looks at. -/
theorem stepRunsTheFrontCommand : Obligations.StepRunsTheFrontCommand := fun _ _ _ => rfl

/-- Settles O2: the first tick and every other are the two branches of the tick; with nothing due the second begins with
no change of its own (R37, R47, R95, R99, R155). -/
theorem emptyQueueStepIsOneTick : Obligations.EmptyQueueStepIsOneTick := by
  intro s empty
  have tick : step s = .next s.cueTick := by simp [step, empty]
  refine ⟨fun first => ?_, fun later quiet => ?_⟩
  · rw [tick, State.cueTick, if_pos first]
    simp [State.firstTick, Cue.tick, Cue.periodWraps, LineState.settleFirst]
    rfl
  · have settled : s.settleTick = s := quiet
    have line : LineState.tick = fun l => { l with candidate := if l.raw = l.filtered then 0 else l.candidate + 1 } := by
      funext l
      unfold LineState.tick
      split <;> rfl
    rw [tick, State.cueTick, if_neg (by simp [later])]
    simp [settled, State.tickLines, Cue.tick, Cue.periodWraps, line]

/-- Settles O3: a frame's row keeps the queue by its delivery, a request's by its handler, and every other row is one of
the model's functions that leave the queue as it is (log 25). -/
theorem everyCommandAnswersAndKeepsTheQueue : Obligations.EveryCommandAnswersAndKeepsTheQueue := by
  intro c s
  cases c
  case receiveStatus h b => exact exec_receive_pending { header := h, body := .status b } s
  case receiveLevel h b => exact exec_receive_pending { header := h, body := .level b } s
  case receivePropose h b => exact exec_receive_pending { header := h, body := .propose b } s
  case receiveAnswer h b => exact exec_receive_pending { header := h, body := .answer b } s
  case receiveVerdict h b => exact exec_receive_pending { header := h, body := .verdict b } s
  case receiveDigest h b => exact exec_receive_pending { header := h, body := .digest b } s
  case mtestStep h b => exact exec_receive_pending { header := h, body := .mtest .step b } s
  case mtestLimit h b => exact exec_receive_pending { header := h, body := .mtest .limit b } s
  case mtestDone h b => exact exec_receive_pending { header := h, body := .mtest .done b } s
  case siteGapTimeout cut => exact (exec_cut_pending cut s).1
  case routeGapTimeout cut => exact (exec_cut_pending cut s).2
  case setup | queryStatus | queryLevels | queryPosition | queryMapCell | queryMapSummary | queryLobes | queryVerdict |
    queryRoster | querySoak | queryFades | queryMargin | queryHandover | advance | abort | restart | zero | cue |
    reports | unknownRequest =>
    exact ⟨_, rfl, State.request_pending (by simp) s⟩
  case blockClose | transmissionComplete =>
    refine ⟨_, rfl, ?_⟩
    split <;> simp
  all_goals exact ⟨_, rfl, by simp⟩

/-- Settles O4: each block's state after a hard reset is the one its chapter gives. -/
theorem resetState : Obligations.ResetState := by
  refine ⟨rfl, rfl, rfl, fun i => ?_, rfl, fun r => ?_, rfl, fun x => ?_, rfl, rfl, rfl, rfl, rfl, rfl, rfl, rfl, rfl,
    rfl, rfl, rfl, rfl, rfl, rfl⟩
  · cases i <;> exact ⟨rfl, rfl, rfl, rfl⟩
  · cases r <;> exact ⟨rfl, rfl, rfl, rfl, rfl⟩
  · cases x <;> rfl

/-- Settles O5: but for the debounce of the supply watch, the pins as they stand fill the reset state (log 6, 8). -/
theorem hardResetReturnsEveryBlock : Obligations.HardResetReturnsEveryBlock := by
  intro s
  show Host.Outcome.next s.hardReset = _
  rw [State.hardReset, Supply.hardReset_eq]
  rfl

/-- Settles O55: the queues and the roster are empty, and no proposal or direction is open. -/
theorem resetHasTheInvariants : Obligations.ResetHasTheInvariants := by
  have empty : OutputBounded State.reset ∧ WaitingOrdered State.reset ∧ RosterSound State.reset := by
    simp [OutputBounded, WaitingOrdered, RosterSound, State.reset, Site.reset, Route.reset]
  have axis : AxisSound AxisState.reset := by simp [AxisSound, AxisState.reset]
  have levels : LevelsSound State.reset := by
    refine ⟨fun i => ?_, fun r => ?_⟩
    · cases i <;> exact ⟨by decide, by decide⟩
    · cases r <;> exact fun fresh => absurd fresh (by decide)
  have half : HalfSound 640 := ⟨0, by omega, rfl⟩
  have geometry : GeometrySound State.reset.settings.geometry := by
    simp [GeometrySound, State.reset, Settings.beforeSetup]
  have soak : SoakSound State.reset := by simp [SoakSound, State.reset, Soak.reset]
  have hop : HopSound State.reset := by simp [HopSound, State.reset, Coordinator.reset]
  have atten : AttenuationSound State.reset := by simp [AttenuationSound, State.reset, Source.reset, Margin.reset]
  exact ⟨empty.1, empty.2.1, empty.2.2, ⟨geometry, axis, axis, levels, half, half⟩, soak, hop, atten⟩

end Sys2Proof.Proofs
end

section
/-! PROOFS. What the step functions keep of the queues, the roster, the measured figures and the soak's counts: one
lemma a function, composed up to the step (O56, O57, O58). -/

namespace Sys2Proof.Machine

/-! ### The laws kept from one state to a later one -/

/-- Each of the five laws that holds in s holds in t. -/
structure Keeps (s t : State) : Prop where
  output : OutputBounded s → OutputBounded t
  waiting : WaitingOrdered s → WaitingOrdered t
  roster : RosterSound s → RosterSound t
  figures : FiguresSound s → FiguresSound t
  soak : SoakSound s → SoakSound t

namespace Keeps

variable {s t u : State}

theorem refl (s : State) : Keeps s s := ⟨id, id, id, id, id⟩

theorem trans (h : Keeps s t) (g : Keeps t u) : Keeps s u :=
  ⟨g.output ∘ h.output, g.waiting ∘ h.waiting, g.roster ∘ h.roster, g.figures ∘ h.figures, g.soak ∘ h.soak⟩

theorem ite {p : Prop} [Decidable p] (h : p → Keeps s t) (g : ¬ p → Keeps s u) : Keeps s (if p then t else u) := by
  split
  · exact h ‹_›
  · exact g ‹_›

/-- A change made under a condition alone. -/
theorem when {p : Prop} [Decidable p] (h : p → Keeps s t) : Keeps s (if p then t else s) := ite h fun _ => refl s

/-- The blocks of which no law speaks are free. -/
theorem rest
    (h : t.station = s.station ∧ t.settings = s.settings ∧ t.level = s.level ∧ t.pos = s.pos ∧ t.cue = s.cue ∧
      t.route = s.route ∧ t.soak = s.soak ∧ t.site = s.site) : Keeps s t := by
  obtain ⟨station, settings, level, pos, cue, route, soak, site⟩ := h
  constructor <;>
    simp only [OutputBounded, WaitingOrdered, RosterSound, FiguresSound, LevelsSound, SoakSound, station, settings,
      level, pos, cue, route, soak, site] <;> exact id

theorem ofSite {p : Site} (h : s.site.out.length ≤ 8 → p.out.length ≤ 8) : Keeps s { s with site := p } :=
  ⟨h, id, id, id, id⟩

theorem ofRoute {r : Route} (waiting : WaitingOrdered s → WaitingOrdered { s with route := r })
    (roster : RosterSound s → RosterSound { s with route := r }) : Keeps s { s with route := r } :=
  ⟨id, waiting, roster, id, id⟩

/-- The registers of the controller but the waiting queue and the roster are free. -/
theorem ofRouteFields {r : Route} (waiting : r.waiting = s.route.waiting) (roster : r.roster = s.route.roster) :
    Keeps s { s with route := r } :=
  ofRoute (by simp [WaitingOrdered, waiting]) (by simp [RosterSound, roster])

theorem ofSoak {k : Soak} (h : SoakSound s → SoakSound { s with soak := k }) : Keeps s { s with soak := k } :=
  ⟨id, id, id, id, h⟩

theorem ofFigures {l : LevelUnit} {p : Position} {c : Cue}
    (h : FiguresSound s → FiguresSound { s with level := l, pos := p, cue := c }) :
    Keeps s { s with level := l, pos := p, cue := c } :=
  ⟨id, id, id, h, id⟩

end Keeps

/-! ### The site port: events and replies (R193, R194) -/

theorem State.signal_keeps (r : Report) (s : State) : Keeps s (s.signal r) :=
  Keeps.ofSite fun h => by have := (s.site.signal_length r).2; simp only [outLimit] at this; omega

/-- A reply joins the queue only while there is room (R192, R193). -/
theorem State.queueReply_keeps (m : SiteMessage) {s : State} (room : s.site.out.length < 8) :
    Keeps s { s with site := s.site.queueReply m } :=
  Keeps.ofSite fun _ => by
    rw [Site.queueReply, List.length_append]
    exact room

theorem State.accept_keeps (r : Reply) {s : State} (room : s.site.out.length < 8) : Keeps s (s.accept r) :=
  State.queueReply_keeps _ room

theorem State.refuse_keeps (type : Byte) (reason : RefuseReason) {s : State} (room : s.site.out.length < 8) :
    Keeps s (s.refuse type reason) :=
  State.queueReply_keeps _ room

/-- A request's handler finds room in the output queue (R192). -/
theorem State.request_keeps {handle : State → State}
    (h : ∀ x : State, x.site.out.length < 8 → Keeps x (handle x)) (s : State) : Keeps s (s.request handle) := by
  have hunted : Keeps s { s with site := s.site.hunt } := Keeps.ofSite id
  unfold State.request
  exact hunted.trans (Keeps.ite (fun room => h _ room) fun _ => Keeps.ofSite id)

/-! ### The waiting queue (R117, R118) -/

/-- The law of the waiting queue, of a list of frames. -/
def QueueOrdered (ws : List QFrame) : Prop :=
  ws.length ≤ 6 ∧ (ws.filter fun q => q.kind == .status).length ≤ 1 ∧
    (ws.filter fun q => q.kind == .level).length ≤ 1 ∧ ws.Pairwise fun a b => a.classNumber ≤ b.classNumber

theorem waitingOrdered_iff (s : State) : WaitingOrdered s ↔ QueueOrdered s.route.waiting := Iff.rfl

/-- Frames that leave the queue leave the others in their order. -/
theorem QueueOrdered.sublist {vs ws : List QFrame} (h : QueueOrdered ws) (sub : vs.Sublist ws) : QueueOrdered vs := by
  obtain ⟨len, status, level, ordered⟩ := h
  exact ⟨Nat.le_trans sub.length_le len, Nat.le_trans (sub.filter _).length_le status,
    Nat.le_trans (sub.filter _).length_le level, ordered.sublist sub⟩

/-- A new STATUS or LEVEL in the place of a waiting one stands in the same class. -/
theorem QueueOrdered.replace {ws : List QFrame} (h : QueueOrdered ws) (q : QFrame) :
    QueueOrdered (ws.map fun w => if w.kind = q.kind then q else w) := by
  have kind : ∀ w : QFrame, (if w.kind = q.kind then q else w).kind = w.kind := by
    intro w; split <;> simp_all
  have count : ∀ k : FrameKind,
      ((ws.map fun w => if w.kind = q.kind then q else w).filter fun w => w.kind == k).length =
        (ws.filter fun w => w.kind == k).length := by
    intro k
    simp [List.filter_map, Function.comp_def, kind]
  obtain ⟨len, status, level, ordered⟩ := h
  refine ⟨by simpa using len, by rw [count]; exact status, by rw [count]; exact level, ?_⟩
  rw [List.pairwise_map]
  exact ordered.imp fun hab => by simpa [QFrame.classNumber, kind] using hab

/-- A frame with none of its kind to replace takes its class's place in a queue with room. -/
theorem QueueOrdered.insert {ws : List QFrame} (h : QueueOrdered ws) (q : QFrame) (room : ws.length < 6)
    (new : ¬ (replacesKind q.kind = true ∧ ws.any (fun w => w.kind == q.kind) = true)) :
    QueueOrdered (insertByClass q ws) := by
  have none : replacesKind q.kind = true → (ws.filter fun w => w.kind == q.kind).length = 0 := by
    intro r
    have := mt (And.intro r) new
    rw [List.length_eq_zero_iff, List.filter_eq_nil_iff]
    simpa using this
  obtain ⟨len, status, level, ordered⟩ := h
  refine ⟨by simp only [insertByClass_length]; exact room, ?_, ?_, insertByClass_ordered q ws ordered⟩
  · rw [insertByClass_kind_count]
    split
    · next k => have := none (by simp [k, replacesKind]); rw [k] at this; omega
    · exact status
  · rw [insertByClass_kind_count]
    split
    · next k => have := none (by simp [k, replacesKind]); rw [k] at this; omega
    · exact level

/-- A frame that joins the queue leaves it in order, its length within the limit (R117, R118). -/
theorem Route.joinQueue_ordered (q : QFrame) (r : Route) (h : QueueOrdered r.waiting) :
    QueueOrdered (r.joinQueue q).waiting := by
  by_cases replaces : replacesKind q.kind = true ∧ r.waiting.any (fun w => w.kind == q.kind) = true
  · rw [Route.joinQueue_replaces q r replaces.1 replaces.2]
    exact h.replace q
  by_cases room : r.waiting.length < 6
  · rw [Route.joinQueue_room q r replaces room]
    exact h.insert q room replaces
  · rw [Route.joinQueue_full q r replaces room]
    unfold Route.joinFull
    dsimp only
    split
    · exact h
    · next last he =>
      split
      · have shorter : r.waiting.dropLast.length < 6 := by
          have := h.1
          rw [List.length_dropLast]; omega
        refine (h.sublist (List.dropLast_sublist _)).insert q shorter fun ⟨kind, waits⟩ => replaces ⟨kind, ?_⟩
        obtain ⟨w, mem, is⟩ := List.any_eq_true.mp waits
        exact List.any_eq_true.mpr ⟨w, (List.dropLast_sublist _).mem mem, is⟩
      · exact h

/-- The head of the queue enters the slot, or nothing moves (R117). -/
theorem Route.feedSlot_sublist (draws : Nat) (r : Route) : (r.feedSlot draws).2.waiting.Sublist r.waiting := by
  rcases r.feedSlot_waiting draws with same | ⟨q, rest, whole, -, left, -⟩
  · exact same ▸ List.Sublist.refl _
  · rw [left, whole]
    exact List.sublist_cons_self q rest

/-- Frames leave the waiting queue, the roster standing. -/
theorem Keeps.ofWaiting {s : State} {r : Route} (sub : r.waiting.Sublist s.route.waiting)
    (roster : r.roster = s.route.roster) : Keeps s { s with route := r } :=
  Keeps.ofRoute (fun h => QueueOrdered.sublist h sub) (by simp [RosterSound, roster])

theorem State.feedSlot_keeps (draws : Nat) (s : State) :
    Keeps s { s with draws := (s.route.feedSlot draws).1, route := (s.route.feedSlot draws).2 } := by
  have route : Keeps s { s with route := (s.route.feedSlot draws).2 } :=
    Keeps.ofWaiting (s.route.feedSlot_sublist draws) (s.route.feedSlot_kept draws).1
  exact route.trans (Keeps.rest (by simp))

theorem State.queueBody_keeps (resend : Bool) (body : FrameBody) (s : State) : Keeps s (s.queueBody resend body) := by
  unfold State.queueBody
  split
  · exact Keeps.refl s
  · next st _ =>
    let q : QFrame := { frame := buildFrame st body, resend := resend }
    have roster : (s.route.joinQueue q).roster = s.route.roster := by rw [Route.joinQueue_frame]
    have join : Keeps s { s with route := s.route.joinQueue q } :=
      Keeps.ofRoute (s.route.joinQueue_ordered q) (by simp [RosterSound, roster])
    exact join.trans (State.feedSlot_keeps s.draws { s with route := s.route.joinQueue q })

theorem State.send_keeps (body : FrameBody) (s : State) : Keeps s (s.send body) := s.queueBody_keeps false body

theorem State.startStatusTimer_keeps (s : State) : Keeps s s.startStatusTimer :=
  (Keeps.ofRouteFields (s := s) (r := s.startStatusTimer.route) rfl rfl).trans (Keeps.rest (by simp))

theorem State.sendStatus_keeps (s : State) : Keeps s s.sendStatus :=
  Keeps.when fun _ => (s.send_keeps _).trans (State.startStatusTimer_keeps _)

theorem State.sendLevel_keeps (s : State) : Keeps s s.sendLevel :=
  (s.send_keeps _).trans (Keeps.ofRouteFields rfl rfl)

theorem State.updateLevelCondition_keeps (s : State) : Keeps s s.updateLevelCondition := by
  unfold State.updateLevelCondition
  split
  · split
    · exact s.sendLevel_keeps
    · exact Keeps.refl s
  · exact Keeps.ofRouteFields rfl rfl

theorem State.sendDigest_keeps (final : Bool) (s : State) : Keeps s (s.sendDigest final) := s.send_keeps _

theorem State.withdrawPropose_keeps (s : State) : Keeps s { s with route := s.route.withdrawPropose } :=
  Keeps.ofWaiting List.filter_sublist rfl

theorem State.finishTransmission_keeps (s : State) : Keeps s s.finishTransmission :=
  (Keeps.ofRouteFields (s := s) (r := s.route.clearSlot) rfl rfl).trans (State.feedSlot_keeps s.draws _)

/-! ### The soak's counts (R169 to R173) -/

/-- The figures of the law of R170. -/
def Soak.counts (k : Soak) : Nat × Nat × Nat × Nat × Nat × Availability × List PendingSecond :=
  (k.clean, k.errored, k.bad, k.outage, k.elapsed, k.availability, k.pending)

/-- The law of R170, of a recorder. -/
def Soak.Counted (k : Soak) : Prop :=
  k.released + k.pending.length = k.elapsed ∧ k.pending.length ≤ 9 ∧
    ∀ p ∈ k.pending, (p.provisional = .bad ↔ k.availability = .available)

theorem soakSound_iff (s : State) : SoakSound s ↔ s.soak.Counted := Iff.rfl

theorem Soak.Counted.congr {j k : Soak} (same : k.counts = j.counts) (h : j.Counted) : k.Counted := by
  simp only [Soak.counts, Prod.mk.injEq] at same
  obtain ⟨clean, errored, bad, outage, elapsed, availability, pending⟩ := same
  simpa only [Soak.Counted, Soak.released, clean, errored, bad, outage, elapsed, availability, pending] using h

/-- A recorder with nothing pending is counted when it has released every second. -/
theorem Soak.Counted.ofReleased {k : Soak} (none : k.pending = []) (all : k.released = k.elapsed) : k.Counted := by
  simp [Soak.Counted, none, all]

/-- A soak second is counted once, and the pending seconds stay of the kind that their availability holds (R169 to
R172). -/
theorem Soak.Counted.second {k : Soak} (h : k.Counted) (c : SecondClass) : ((k.count c).place c).1.Counted := by
  obtain ⟨sum, few, kind⟩ := h
  obtain ⟨placed, elapsed⟩ := (k.count c).place_counts c
  have counted : (k.count c).released + (k.count c).pending.length + 1 = (k.count c).elapsed :=
    congrArg (· + 1) sum
  refine ⟨by omega, ?_⟩
  have pending : (k.count c).pending = k.pending := rfl
  have held : ((k.count c).hold c).pending.length = k.pending.length + 1 := ((k.count c).hold_counts c).2.1
  unfold Soak.place
  split
  · next available =>
    have available : k.availability = .available := available
    unfold Soak.placeAvailable
    split
    · dsimp only
      split
      · simp [Soak.startOutage]
      · refine ⟨by dsimp only; omega, ?_⟩
        simp only [Soak.hold, pending, List.mem_append, List.mem_singleton]
        rintro p (old | rfl)
        · exact kind p old
        · simp_all [Soak.count]
    · simp [Soak.pendingAsBad]
  · next outage =>
    have outage : k.availability = .outage := outage
    unfold Soak.placeOutage
    split
    · simp [Soak.pendingAsOutage]
    · dsimp only
      split
      · simp [Soak.finishOutage, Soak.releasePending]
      · refine ⟨by dsimp only; omega, ?_⟩
        simp only [Soak.hold, pending, List.mem_append, List.mem_singleton]
        rintro p (old | rfl)
        · exact kind p old
        · simp_all [Soak.count]

/-- The fade list and its records are no part of the counts (R179). -/
@[simp] theorem Soak.enterFade_counts (x : FadeEntry) (k : Soak) : (k.enterFade x).counts = k.counts := by
  unfold Soak.enterFade
  split
  · rfl
  · dsimp only
    split
    · rfl
    · split <;> rfl

@[simp] theorem Soak.fadeFinish_counts (x : FadeEntry) (k : Soak) : (k.fadeFinish x).counts = k.counts :=
  Soak.enterFade_counts ..

@[simp] theorem Soak.fadeStart_counts (r : Role) (t : SampleTime) (level : Level) (k : Soak) :
    (k.fadeStart r t level).counts = k.counts := rfl

@[simp] theorem Soak.takeFade_counts (st : Settings) (r : Role) (e : FadeEvent) (k : Soak) :
    (k.takeFade st r e).counts = k.counts := by
  unfold Soak.takeFade
  split
  · split <;> simp
  · rfl

@[simp] theorem Soak.cutRole_counts (st : Settings) (now : SampleTime) (cmp : Comparator) (r : Role) (k : Soak) :
    (k.cutRole st now cmp r).counts = k.counts := by
  unfold Soak.cutRole
  split
  · rfl
  · split <;> simp

@[simp] theorem Soak.cutFades_counts (st : Settings) (now : SampleTime) (u : LevelUnit) (k : Soak) :
    (k.cutFades st now u).counts = k.counts := by
  simp [Soak.cutFades]

@[simp] theorem Soak.takeOver_counts (st : Settings) (cmp : Comparator) (r : Role) (k : Soak) :
    (k.takeOver st cmp r).counts = k.counts := by
  unfold Soak.takeOver
  split <;> simp

@[simp] theorem Soak.sample_counts (st : Settings) (low : Bool) (u : LevelUnit) (k : Soak) :
    (k.sample st low u).counts = k.counts := by
  unfold Soak.sample
  split <;> rfl

/-- A soak begins with nothing counted (R167). -/
theorem Soak.begin_counted (st : Settings) (u : LevelUnit) : (Soak.begin st u).Counted := by
  have reset : ({ Soak.reset with state := .waiting } : Soak).Counted := by simp [Soak.Counted, Soak.released, Soak.reset]
  exact reset.congr (by simp [Soak.begin])

/-- A close releases every pending second (R173). -/
theorem Soak.closePending_counted {k : Soak} (h : k.Counted) : k.closePending.Counted := by
  obtain ⟨sum, -, -⟩ := h
  unfold Soak.closePending
  split
  · obtain ⟨released, pending, elapsed, -⟩ := k.pendingAsBad_counts
    exact .ofReleased pending (by omega)
  · obtain ⟨released, pending, elapsed, -⟩ := k.pendingAsOutage_counts
    have all : k.pendingAsOutage.Counted := .ofReleased pending (by omega)
    exact all.congr rfl

theorem Soak.close_counted (st : Settings) (now : SampleTime) (u : LevelUnit) (halted : Bool) {k : Soak}
    (h : k.Counted) : (k.close st now u halted).Counted := by
  have cut : (k.closePending.cutFades st now u).Counted := (Soak.closePending_counted h).congr (by simp)
  unfold Soak.close
  dsimp only
  split
  · exact cut.congr rfl
  · exact cut.congr rfl

/-- The recorder's other registers are free. -/
theorem Keeps.ofCounts {s : State} {k : Soak} (same : k.counts = s.soak.counts) : Keeps s { s with soak := k } :=
  Keeps.ofSoak fun h => Soak.Counted.congr same h

theorem State.closeSoak_keeps (halted : Bool) (s : State) : Keeps s (s.closeSoak halted) := by
  have closed : Keeps s { s with soak := s.soak.close s.settings s.time.now s.level halted } :=
    Keeps.ofSoak fun h => Soak.close_counted _ _ _ _ h
  exact closed.trans ((State.sendDigest_keeps true _).trans (State.signal_keeps _ _))

theorem State.closeRunningSoak_keeps (halted : Bool) (s : State) : Keeps s (s.closeRunningSoak halted) :=
  Keeps.when fun _ => s.closeSoak_keeps halted

theorem State.afterSoakSecond_keeps (s : State) : Keeps s s.afterSoakSecond :=
  Keeps.ite (fun _ => s.closeSoak_keeps false) fun _ => Keeps.when fun _ => s.sendDigest_keeps false

theorem State.soakSecond_keeps (d : Totals) (s : State) : Keeps s (s.soakSecond d) := by
  have placed : Keeps s { s with soak := (s.soak.second d).1 } := Keeps.ofSoak fun h => Soak.Counted.second h _
  unfold State.soakSecond
  dsimp only
  split
  · exact placed.trans (State.afterSoakSecond_keeps _)
  · exact placed.trans ((State.signal_keeps _ _).trans (State.afterSoakSecond_keeps _))

theorem State.deliverToSoak_keeps (d : Delivery) (s : State) : Keeps s (s.deliverToSoak d) := by
  unfold State.deliverToSoak
  split
  · split
    · have opened : Keeps s { s with soak := s.soak.openUp d } := Keeps.ofCounts rfl
      exact opened.trans (State.soakSecond_keeps _ _)
    · exact Keeps.ofCounts rfl
  · exact s.soakSecond_keeps _
  · exact Keeps.refl s

theorem State.deliverFade_keeps (r : Role) (e : FadeEvent) (s : State) : Keeps s (s.deliverFade r e) :=
  (Keeps.ofCounts (by simp)).trans (State.signal_keeps _ _)

theorem State.deliverFades_keeps (r : Role) (e : Option FadeEvent) (s : State) : Keeps s (s.deliverFades r e) := by
  cases e with
  | none => exact Keeps.refl s
  | some e => exact s.deliverFade_keeps r e

end Sys2Proof.Machine
end

section
/-! PROOFS. The laws of O56 to O58 through the margin procedure, the handover record, the roster, the level unit, the
position counter and the cue unit. -/

namespace Sys2Proof.Machine

/-- A change that keeps the laws, and its event. -/
theorem Keeps.signal {s t : State} {r : Report} (h : Keeps s t) : Keeps s (t.signal r) := h.trans (t.signal_keeps r)

/-! ### The margin procedure and the handover record -/

theorem State.restoreAtten_keeps (s : State) : Keeps s s.restoreAtten := Keeps.rest (by simp)

theorem State.beginDirection_keeps (d : Direction) (s : State) : Keeps s (s.beginDirection d) := by
  have begin : Keeps s { s.restoreAtten with margin := s.margin.beginTransmit d } := Keeps.rest (by simp)
  exact Keeps.ite (fun _ => begin.trans (State.send_keeps _ _)) fun _ => Keeps.rest (by simp)

theorem State.signalMargin_keeps (d : Direction) (r : MarginResult) (s : State) : Keeps s (s.signalMargin d r) :=
  s.signal_keeps _

theorem State.transmitDone_keeps (body : MtestBody) (s : State) : Keeps s (s.transmitDone body) := by
  have done : Keeps s
      { s.restoreAtten with margin := s.margin.recordDone body.direction (resultOf s.settings body) body } :=
    Keeps.rest (by simp)
  have told := done.trans ((State.send_keeps (.mtest .done body) _).trans
    (State.signalMargin_keeps body.direction (resultOf s.settings body) _))
  exact Keeps.ite (fun _ => told.trans (State.beginDirection_keeps _ _)) fun _ => told

theorem State.takeLimit_keeps (b : MtestBody) (s : State) : Keeps s (s.takeLimit b) :=
  Keeps.when fun _ => s.transmitDone_keeps _

theorem State.secondMargin_keeps (s : State) : Keeps s s.secondMargin := Keeps.rest (by simp)

theorem State.writeStep_keeps (s : State) : Keeps s s.writeStep := by
  unfold State.writeStep
  split
  · exact Keeps.refl s
  · exact Keeps.ite (fun _ => s.transmitDone_keeps _) fun _ => Keeps.rest (by simp)

theorem State.announceStep_keeps (s : State) : Keeps s s.announceStep := by
  unfold State.announceStep
  split
  · exact Keeps.refl s
  · exact (Keeps.rest (by simp)).trans (State.send_keeps _ _)

theorem State.repeatDone_keeps (s : State) : Keeps s s.repeatDone := by
  unfold State.repeatDone
  split
  · exact Keeps.rest (by simp)
  · exact (Keeps.rest (by simp)).trans (State.send_keeps _ _)

theorem State.takeStep_keeps (b : MtestBody) (s : State) : Keeps s (s.takeStep b) := Keeps.rest (by simp)

theorem State.judgeResult_keeps (b : MtestBody) (s : State) : Keeps s (s.judgeResult b) :=
  (Keeps.rest (by simp)).trans (State.signalMargin_keeps _ _ _)

theorem State.afterJudge_keeps (d : Direction) (s : State) : Keeps s (s.afterJudge d) :=
  Keeps.when fun _ => s.beginDirection_keeps _

theorem State.takeDone_keeps (b : MtestBody) (s : State) : Keeps s (s.takeDone b) :=
  Keeps.ite (fun _ => (s.judgeResult_keeps b).trans (State.afterJudge_keeps _ _)) fun _ =>
    Keeps.when fun _ => s.judgeResult_keeps b

theorem State.judgeBad_keeps (d : Direction) (s : State) : Keeps s (s.judgeBad d) :=
  (Keeps.rest (by simp)).trans (State.send_keeps _ _)

theorem State.deliverToJudge_keeps (dl : Delivery) (s : State) : Keeps s (s.deliverToJudge dl) := by
  unfold State.deliverToJudge
  split
  · exact Keeps.refl s
  · exact Keeps.when fun _ => s.judgeBad_keeps _

theorem State.statusToJudge_keeps (d : Direction) (p : MarginProgress) (s : State) :
    Keeps s (s.statusToJudge d p) := by
  unfold State.statusToJudge
  refine Keeps.when fun _ => ?_
  dsimp only
  have raised : Keeps s
      (if p.direction = d.code ∧ p.role = .transmitting then { s with margin := s.margin.raiseHeard p.step } else s) :=
    Keeps.when fun _ => Keeps.rest (by simp)
  exact Keeps.ite (fun _ => raised.trans ((Keeps.rest (by simp)).trans (State.afterJudge_keeps _ _))) fun _ => raised

theorem State.marginStatus_keeps (p : MarginProgress) (s : State) : Keeps s (s.marginStatus p) := by
  have told : Keeps s ((s.statusToTransmitter .one p).statusToTransmitter .two p) := Keeps.rest (by simp)
  unfold State.marginStatus
  dsimp only
  split
  · exact told
  · exact told.trans (State.statusToJudge_keeps _ _ _)

theorem State.silenceAbort_keeps (d : Direction) (s : State) : Keeps s (s.silenceAbort d) :=
  Keeps.ite (fun _ => (Keeps.rest (by simp)).trans (State.signalMargin_keeps _ _ _)) fun _ =>
    (Keeps.rest (by simp)).trans (State.signalMargin_keeps _ _ _)

theorem State.abortCurrent_keeps (s : State) : Keeps s s.abortCurrent := by
  unfold State.abortCurrent
  split
  · exact Keeps.refl s
  · exact Keeps.when fun _ => s.silenceAbort_keeps _

theorem State.exitMargin_keeps (s : State) : Keeps s s.exitMargin := by
  have stopped : Keeps s { s.restoreAtten with margin := { s.margin with doneTimer := none } } :=
    Keeps.rest (by simp)
  unfold State.exitMargin
  dsimp only
  split
  · exact stopped
  · exact Keeps.ite
      (fun _ => stopped.trans ((Keeps.rest (by simp)).trans (State.signalMargin_keeps _ _ _))) fun _ => stopped

theorem State.rerun_keeps (s : State) : Keeps s s.rerun := by
  unfold State.rerun
  split
  · exact Keeps.refl s
  · exact Keeps.when fun _ => s.beginDirection_keeps _

theorem State.setOverall_keeps (h : HandoverRecord) (v : Overall) (s : State) : Keeps s (s.setOverall h v) :=
  (Keeps.rest (by simp)).trans (State.signal_keeps _ _)

theorem State.decideHandover_keeps (h : HandoverRecord) (s : State) : Keeps s (s.decideHandover h) :=
  Keeps.ite (fun _ => s.setOverall_keeps _ _) fun _ => Keeps.rest (by simp)

theorem State.openHandover_keeps (s : State) : Keeps s s.openHandover := by
  unfold State.openHandover
  split
  · exact Keeps.refl s
  · exact s.decideHandover_keeps _

theorem State.handoverIncomplete_keeps (s : State) : Keeps s s.handoverIncomplete := by
  unfold State.handoverIncomplete
  split
  · exact Keeps.refl s
  · exact Keeps.when fun _ => s.setOverall_keeps _ _

theorem State.digestToRecord_keeps (d : HeldDigest) (s : State) : Keeps s (s.digestToRecord d) := by
  unfold State.digestToRecord
  split
  · exact Keeps.refl s
  · exact Keeps.ite (fun _ => s.decideHandover_keeps _) fun _ => Keeps.rest (by simp)

theorem State.takeDigest_keeps (b : DigestBody) (s : State) : Keeps s (s.takeDigest b) := by
  refine Keeps.when fun _ => ?_
  have held : Keeps s
      { s with soak := { s.soak with partnerDigest := some { body := b, arrival := s.time.now } } } :=
    Keeps.ofCounts rfl
  exact Keeps.ite (fun _ => held.trans (State.digestToRecord_keeps _ _)) fun _ => held

/-! ### The roster (R113 to R115) -/

theorem State.refreshPartner_keeps (s : State) : Keeps s s.refreshPartner := by
  have told : Keeps s
      ({ s with route := { s.route with partner := s.partnerShows } }.signal (.partner s.partnerShows s.partnerAge)) :=
    Keeps.signal (Keeps.ofRouteFields rfl rfl)
  exact Keeps.ite (fun _ => Keeps.refl s) fun _ =>
    Keeps.ite (fun _ => told.trans (State.handoverIncomplete_keeps _)) fun _ => told

theorem State.decideConflict_keeps (s : State) : Keeps s s.decideConflict := by
  unfold State.decideConflict
  split
  · exact Keeps.ite (fun _ => Keeps.signal (Keeps.ofRouteFields rfl rfl)) fun _ => Keeps.ofRouteFields rfl rfl
  · exact Keeps.ofRouteFields rfl rfl

theorem State.partnerEntryChanged_keeps (s : State) : Keeps s s.partnerEntryChanged :=
  (s.refreshPartner_keeps.trans (State.decideConflict_keeps _)).trans (State.updateLevelCondition_keeps _)

theorem State.noteClash_keeps (kind : Option FrameKind) (hop : Nat) (e : HopEnd) (s : State) :
    Keeps s (s.noteClash kind hop e) := by
  have counted : Keeps s
      { s with
        route :=
          { s.route with
            clash := true
            counters := { s.route.counters with clashes := satInc max16 s.route.counters.clashes } } } :=
    Keeps.ofRouteFields rfl rfl
  exact Keeps.ite (fun _ => counted) fun _ => counted.trans (State.signal_keeps _ _)

/-- A good frame that is no clash brings no entry of the own number (R109, R113). -/
theorem State.hearFrame_keeps (f : Frame) (s : State) (other : s.clashesWith f.header = false) :
    Keeps s (s.hearFrame f) := by
  have waiting : (s.route.updateRoster s.time.now f).waiting = s.route.waiting := by
    unfold Route.updateRoster Route.makeRoom
    split
    · rfl
    · dsimp only
      split
      · rfl
      · split <;> rfl
  refine Keeps.ofRoute (fun h => ?_) (fun h => ?_)
  · exact QueueOrdered.sublist h (by simp [waiting])
  · obtain ⟨len, ordered, others⟩ := h
    obtain ⟨len', ordered', sources⟩ := s.route.updateRoster_sound s.time.now f len ordered
    refine ⟨len', ordered', fun st hst e he => ?_⟩
    have hst : s.station = some st := hst
    rcases sources e he with source | ⟨old, mem, same⟩
    · simp only [State.clashesWith, hst, beq_eq_false_iff_ne] at other
      rwa [source]
    · rw [← same]
      exact others st hst old mem

theorem State.ageRoster_keeps (s : State) : Keeps s s.ageRoster := by
  have aged : Keeps s { s with route := s.route.ageRoster } := by
    refine Keeps.ofRoute id fun h => ?_
    obtain ⟨len, ordered, others⟩ := h
    obtain ⟨len', ordered', stations⟩ := s.route.ageRoster_sound len ordered
    refine ⟨len', ordered', fun st hst e he => ?_⟩
    obtain ⟨old, mem, same⟩ := stations e he
    rw [← same]
    exact others st hst old mem
  exact aged.trans (State.partnerEntryChanged_keeps _)

theorem State.hearPartner_keeps (s : State) : Keeps s s.hearPartner :=
  (Keeps.rest (by simp)).trans (State.partnerEntryChanged_keeps _)

/-! ### The measured figures: the level unit (R4, R13) -/

theorem Keeps.ofLevel {s : State} {l : LevelUnit} (h : LevelsSound s → LevelsSound { s with level := l }) :
    Keeps s { s with level := l } :=
  ⟨id, id, id, fun ⟨g, az, el, levels, staged, live⟩ => ⟨g, az, el, h levels, staged, live⟩, id⟩

/-- A converted sample lies in its range (R4). -/
theorem convert_sound (cal : Calibration) (code : Nat) : -1200 ≤ convert cal code ∧ convert cal code ≤ -100 :=
  clampInt_bounds (-1200) (-100) _ (by omega)

/-- A seeded channel's accumulator lies in the range of the levels, times 256 (R13). -/
def Channel.Sound (c : Channel) : Prop := c.fresh = false → -307200 ≤ c.acc ∧ c.acc ≤ -25600

/-- A part of the way from one number to another stays between the two. -/
theorem Int.add_ediv_between {a b lo hi n : Int} (ha : lo ≤ a ∧ a ≤ hi) (hb : lo ≤ b ∧ b ≤ hi) (hn : 0 < n) :
    lo ≤ a + (b - a) / n ∧ a + (b - a) / n ≤ hi := by
  rcases Int.le_total a b with up | down
  · have nonneg : 0 ≤ (b - a) / n := Int.ediv_nonneg (by omega) (Int.le_of_lt hn)
    have small : (b - a) / n ≤ b - a := Int.ediv_le_self _ (by omega)
    omega
  · have nonpos : (b - a) / n ≤ 0 := Int.ediv_nonpos_of_nonpos_of_neg (by omega) hn
    have small : b - a ≤ (b - a) / n := by
      rw [Int.le_ediv_iff_mul_le hn]
      calc (b - a) * n ≤ (b - a) * 1 := Int.mul_le_mul_of_nonpos_left (by omega) (by omega)
        _ = b - a := Int.mul_one _
    omega

/-- The averager keeps the accumulator in range when the sample lies in its own (R11 to R13). -/
theorem Channel.takeAverage_sound {k : Nat} {gate : Option Level} {x : Int} {c : Channel}
    (hx : -1200 ≤ x ∧ x ≤ -100) (h : c.Sound) : (c.takeAverage k gate x).Sound := by
  unfold Channel.takeAverage
  split
  · intro _
    unfold Channel.average
    dsimp only
    split
    · omega
    · next seeded =>
      exact Int.add_ediv_between (h (by simpa using seeded)) ⟨by omega, by omega⟩
        (Int.natCast_pos.mpr (Nat.two_pow_pos k))
  · exact h

theorem State.sampleInput_keeps (codes : ByInput Nat) (i : Input) (s : State) : Keeps s (s.sampleInput codes i) := by
  have taken : Keeps s
      { s with
        level :=
          { s.level with
            inputs :=
              s.level.inputs.set i
                ((s.level.inputs.get i).take (s.settings.calibration.get i) (codes.get i)).1 } } := by
    refine Keeps.ofLevel fun ⟨inputs, channels⟩ => ⟨fun j => ?_, channels⟩
    by_cases same : j = i
    · subst same
      simpa using convert_sound _ _
    · rw [ByInput.get_set_ne _ _ same]
      exact inputs j
  exact Keeps.ite (fun _ => taken.trans (State.signal_keeps _ _)) fun _ => taken

theorem State.sampleInputs_keeps (codes : ByInput Nat) (s : State) : Keeps s (s.sampleInputs codes) :=
  (((s.sampleInput_keeps codes .detA).trans (State.sampleInput_keeps codes .detB _)).trans
    (State.sampleInput_keeps codes .detC _)).trans (State.sampleInput_keeps codes .detD _)

/-- A channel set to a sound value keeps the law of the levels. -/
theorem Keeps.ofChannel {s : State} {r : Role} {c : Channel} (h : LevelsSound s → c.Sound) :
    Keeps s { s with level := { s.level with channels := s.level.channels.set r c } } := by
  refine Keeps.ofLevel fun levels => ⟨levels.1, fun q => ?_⟩
  by_cases same : q = r
  · subst same
    simpa [Channel.Sound] using h levels
  · have other := ByRole.get_set_ne s.level.channels c same
    simpa only [other] using levels.2 q

theorem State.sampleChannel_keeps (gate : Option Level) (r : Role) (s : State) : Keeps s (s.sampleChannel gate r) := by
  have taken : Keeps s
      { s with
        level :=
          { s.level with
            channels :=
              s.level.channels.set r
                ((s.level.channels.get r).take s.profile r (roleGate gate s.level.steering r) s.time.now
                  (s.roleInput r).sample).1 } } :=
    Keeps.ofChannel fun levels => Channel.takeAverage_sound (levels.1 _) (levels.2 r)
  exact taken.trans (State.deliverFades_keeps _ _ _)

theorem State.sampleChannels_keeps (gate : Option Level) (s : State) : Keeps s (s.sampleChannels gate) :=
  (((s.sampleChannel_keeps gate .coMain).trans (State.sampleChannel_keeps gate .xMain _)).trans
    (State.sampleChannel_keeps gate .coDiv _)).trans (State.sampleChannel_keeps gate .xDiv _)

theorem State.takeWarningClear_keeps (i : Input) (s : State) : Keeps s (s.takeWarningClear i) := by
  refine Keeps.when fun _ => Keeps.ofLevel fun ⟨inputs, channels⟩ => ⟨fun j => ?_, channels⟩
  by_cases same : j = i
  · subst same
    have kept : (s.level.inputs.get j).countIn.sample = (s.level.inputs.get j).sample := by
      unfold InputState.countIn
      split <;> rfl
    simpa [kept] using inputs j
  · rw [ByInput.get_set_ne _ _ same]
    exact inputs j

theorem State.setComparator_keeps (r : Role) (c : Comparator) (s : State) : Keeps s (s.setComparator r c) :=
  Keeps.ofChannel fun levels => levels.2 r

theorem State.takeFadeSample_keeps (ended : Bool) (r : Role) (level : Level) (s : State) :
    Keeps s (s.takeFadeSample ended r level) := by
  unfold State.takeFadeSample
  dsimp only
  split
  · exact Keeps.refl s
  · exact Keeps.when fun _ => (s.setComparator_keeps r _).trans (State.deliverFade_keeps _ _ _)

theorem State.switchProfile_keeps (was : Profile) (s : State) : Keeps s (s.switchProfile was) :=
  Keeps.ite (fun _ => Keeps.refl s) fun _ =>
    Keeps.ofLevel fun levels => ⟨levels.1, fun r => by simpa [LevelUnit.profileSwitch, Channel.profileSwitch] using levels.2 r⟩

/-! ### The position counter (R38 to R44) -/

theorem Keeps.ofPos {s : State} {p : Position}
    (h : ∀ x, AxisSound (s.pos.axes.get x) → AxisSound (p.axes.get x)) : Keeps s { s with pos := p } :=
  ⟨id, id, id, fun ⟨g, az, el, levels, staged, live⟩ => ⟨g, h .az az, h .el el, levels, staged, live⟩, id⟩

/-- The lines, the slips and the snapshot are no part of the count's law. -/
theorem AxisSound.congr {x y : AxisState} (h : AxisSound x) (count : y.count = x.count)
    (saturated : y.saturated = x.saturated) : AxisSound y := by
  simpa only [AxisSound, count, saturated] using h

theorem AxisSound.stepUp {x : AxisState} (h : AxisSound x) : AxisSound x.stepUp := by
  obtain ⟨low, high, -⟩ := h
  unfold AxisState.stepUp
  split
  · exact ⟨low, high, fun _ => .inr (by dsimp only; omega)⟩
  · exact ⟨by dsimp only; omega, by dsimp only; omega, fun e => absurd e (by simp)⟩

theorem AxisSound.stepDown {x : AxisState} (h : AxisSound x) : AxisSound x.stepDown := by
  obtain ⟨low, high, -⟩ := h
  unfold AxisState.stepDown
  split
  · exact ⟨low, high, fun _ => .inl (by dsimp only; omega)⟩
  · exact ⟨by dsimp only; omega, by dsimp only; omega, fun e => absurd e (by simp)⟩

/-- Passing lines count one step, or none (R38, R41). -/
theorem AxisSound.pass {x : AxisState} (h : AxisSound x) (n : Nat) : AxisSound (x.pass n).1 := by
  have lines : AxisSound { x with lineA := x.lineA.pass n, lineB := x.lineB.pass n } := h.congr rfl rfl
  unfold AxisState.pass
  dsimp only
  split
  · exact lines
  · exact lines.stepUp
  · exact lines.stepDown
  · exact lines.congr rfl rfl

theorem AxisSound.zeroed {x : AxisState} (count : x.count = 0) (saturated : x.saturated = false) : AxisSound x := by
  simp [AxisSound, count, saturated]

/-- One axis takes a sound value. -/
theorem Keeps.ofAxis {s : State} {x : Axis} {a : AxisState} (h : AxisSound (s.pos.axes.get x) → AxisSound a) :
    Keeps s { s with pos := { s.pos with axes := s.pos.axes.set x a } } := by
  refine Keeps.ofPos fun y hy => ?_
  by_cases same : y = x
  · subst same
    simpa using h hy
  · have other := ByAxis.get_set_ne s.pos.axes a same
    simpa only [other] using hy

theorem State.noteSlip_keeps (x : Axis) (was : Bool) (s : State) : Keeps s (s.noteSlip x was) := by
  have mapped : Keeps s (if s.hop.phase = .sweep then { s with map := s.map.slip x } else s) :=
    Keeps.when fun _ => Keeps.rest (by simp)
  exact Keeps.ite (fun _ => mapped) fun _ => mapped.trans (State.signal_keeps _ _)

theorem State.takeTransition_keeps (x : Axis) (s : State) : Keeps s (s.takeTransition x) := by
  refine Keeps.when fun _ => ?_
  have passed : Keeps s
      { s with
        pos := { s.pos with axes := s.pos.axes.set x ((s.pos.axes.get x).pass s.settings.filterTicks).1 } } :=
    Keeps.ofAxis fun h => h.pass _
  exact Keeps.ite (fun _ => passed.trans (State.noteSlip_keeps _ _ _)) fun _ => passed

theorem State.settleLines_keeps (s : State) : Keeps s s.settleLines :=
  (s.takeTransition_keeps .az).trans (State.takeTransition_keeps .el _)

theorem State.driveLine_keeps (x : Axis) (l : Line) (high : Bool) (s : State) : Keeps s (s.driveLine x l high) :=
  Keeps.ofAxis fun h => by cases l <;> exact h.congr rfl rfl

theorem State.latch_keeps (s : State) : Keeps s s.latch := Keeps.ofPos fun _ h => h

theorem State.zeroPos_keeps (s : State) : Keeps s { s with pos := s.pos.zero } :=
  Keeps.ofPos fun x _ => .zeroed (by cases x <;> rfl) (by cases x <;> rfl)

/-- A change of the lines of both axes. -/
theorem Keeps.ofLines {s : State} (f : LineState → LineState) :
    Keeps s { s with pos := { s.pos with axes := s.pos.axes.map (AxisState.mapLines f) } } :=
  Keeps.ofPos fun x h => by
    have mapped : AxisSound (AxisState.mapLines f (s.pos.axes.get x)) := h.congr rfl rfl
    simpa using mapped

/-! ### The cue unit (R94 to R98) -/

/-- The law of the half-periods, of a cue unit. -/
def Cue.Sound (c : Cue) : Prop := HalfSound c.stagedHalf ∧ HalfSound c.liveHalf

theorem Keeps.ofCue {s : State} {c : Cue} (h : s.cue.Sound → c.Sound) : Keeps s { s with cue := c } :=
  ⟨id, id, id, fun ⟨g, az, el, levels, staged, live⟩ => ⟨g, az, el, levels, h ⟨staged, live⟩⟩, id⟩

theorem halfSound_640 : HalfSound 640 := ⟨0, by omega, rfl⟩

theorem halfSound_136 : HalfSound 136 := ⟨63, by omega, rfl⟩

/-- A pitch step is at most 63 (R94). -/
theorem pitchStep_le (st : Settings) (source : CueSource) (used : Option Level) : pitchStep st source used ≤ 63 := by
  cases used with
  | none => exact Nat.zero_le _
  | some l =>
    have bound : ∀ x : Int, (clampInt 0 63 x).toNat ≤ 63 := fun x => by
      have := clampInt_bounds 0 63 x (by omega); omega
    cases source <;> exact bound _

theorem Cue.silence_sound {c : Cue} (h : c.Sound) : c.silence.Sound := by
  unfold Cue.silence
  split <;> exact h

/-- A resume takes the staged half-period at most (R96). -/
theorem Cue.resume_sound {c : Cue} (h : c.Sound) : c.resume.Sound := by
  unfold Cue.resume
  split
  · exact h
  · exact h
  · exact ⟨h.1, h.1⟩

/-- An update stages a half-period of R94, the longest, or none (R91). -/
theorem Cue.work_sound (st : Settings) (next : ToneState) (used : Option Level) {c : Cue} (h : c.Sound) :
    (c.work st next used).Sound := by
  unfold Cue.work
  dsimp only
  split
  · unfold Cue.workOff
    dsimp only
    split
    · exact Cue.silence_sound h
    · exact h
  · exact Cue.resume_sound ⟨⟨_, pitchStep_le st c.source used, rfl⟩, h.2⟩
  · unfold Cue.workStale
    split
    · exact Cue.resume_sound h
    · exact h
  · unfold Cue.workForeign
    dsimp only
    split
    · exact Cue.resume_sound ⟨halfSound_640, h.2⟩
    · exact Cue.resume_sound h

theorem State.takeCueUpdate_keeps (s : State) : Keeps s s.takeCueUpdate :=
  Keeps.when fun _ =>
    Keeps.ofCue (c := s.updateCue.cue) fun h => Cue.work_sound s.settings s.cueTone s.cueLevel h

theorem State.takeStaleCadence_keeps (s : State) : Keeps s s.takeStaleCadence := by
  refine Keeps.when fun _ => Keeps.ofCue fun h => ?_
  unfold Cue.staleCadence
  dsimp only
  split
  · exact Cue.resume_sound h
  · exact Cue.silence_sound h

theorem State.takeForeignCadence_keeps (s : State) : Keeps s s.takeForeignCadence := by
  refine Keeps.when fun _ => Keeps.ofCue fun h => ⟨?_, h.2⟩
  unfold Cue.foreignCadence
  dsimp only
  split
  · exact halfSound_640
  · exact halfSound_136

theorem State.takeToggle_keeps (s : State) : Keeps s s.takeToggle := by
  refine Keeps.when fun _ => Keeps.ofCue fun h => ?_
  unfold Cue.toggle
  split
  · exact ⟨h.1, h.1⟩
  · exact ⟨h.1, h.1⟩
  · exact h

theorem State.takePeriodStart_keeps (s : State) : Keeps s s.takePeriodStart := Keeps.when fun _ => Keeps.ofCue id

/-- The timers of the cue unit are no part of its law (R91, R97, R98). -/
theorem Cue.sample_sound {c : Cue} (h : c.Sound) : c.sample.Sound := by
  have update : c.tickUpdate.Sound := by
    unfold Cue.tickUpdate
    split <;> exact h
  unfold Cue.sample Cue.tickCadence
  split
  · split
    · exact update
    · split <;> exact update
  · split
    · exact update
    · split <;> exact update
  · exact update

end Sys2Proof.Machine
end

section
/-! PROOFS. The laws of O56 to O58 through the coordinator, the reception, the due events, the sample event and the site
port, up to the step. -/

namespace Sys2Proof.Machine

/-! ### The entries of the phases (section 8.1.1) -/

/-- The DIGEST timer is no part of the counts (R175). -/
theorem State.digestTimer_keeps (n : Timer) (s : State) :
    Keeps s { s with soak := { s.soak with digestTimer := n } } := Keeps.ofCounts rfl

theorem State.signalIdent_keeps (before : IdentState) (s : State) : Keeps s (s.signalIdent before) := by
  unfold State.signalIdent
  split
  · exact Keeps.refl s
  · dsimp only
    split
    · exact (s.signal_keeps _).signal
    · exact s.signal_keeps _

theorem State.identSample_keeps (level : Level) (s : State) : Keeps s (s.identSample level) :=
  Keeps.trans (Keeps.rest (by simp)) (State.signalIdent_keeps s.ident.state _)

theorem State.identEntry_keeps (running : Bool) (s : State) : Keeps s (s.identEntry running) :=
  Keeps.trans (Keeps.rest (by simp)) (State.signalIdent_keeps s.ident.state _)

theorem State.enterBeacon_keeps (s : State) : Keeps s s.enterBeacon :=
  Keeps.trans (Keeps.rest (by simp)) (State.identEntry_keeps true _)

theorem State.enterSweep_keeps (role : Antenna) (s : State) : Keeps s (s.enterSweep role) := by
  have steered : Keeps s { s with level := { s.level with steering := role } } := Keeps.ofLevel id
  exact (steered.trans (State.zeroPos_keeps _)).trans
    ((Keeps.rest (by simp)).trans (State.identEntry_keeps true _))

theorem State.enterConfirm_keeps (id : ProposalId) (s : State) : Keeps s (s.enterConfirm id) :=
  (s.identEntry_keeps false).trans (Keeps.rest (by simp [State.enterConfirm]))

theorem State.enterSoak_keeps (s : State) : Keeps s s.enterSoak := by
  have begun : Keeps (s.identEntry false) { s.identEntry false with soak := Soak.begin s.settings s.level } :=
    Keeps.ofSoak fun _ => Soak.begin_counted _ _
  exact ((s.identEntry_keeps false).trans begun).trans (Keeps.rest (by simp [State.enterSoak]))

theorem State.enterMargin_keeps (s : State) : Keeps s s.enterMargin :=
  ((s.identEntry_keeps false).trans (State.closeRunningSoak_keeps false _)).trans (State.beginDirection_keeps .one _)

theorem State.enterHandover_keeps (s : State) : Keeps s s.enterHandover := by
  have left := (s.identEntry_keeps false).trans (State.exitMargin_keeps _)
  exact (left.trans ((State.digestTimer_keeps (some 60) _).trans (Keeps.rest (by simp)))).trans ((State.sendDigest_keeps true _).trans (State.openHandover_keeps _))

theorem State.enterHalted_keeps (s : State) : Keeps s s.enterHalted := by
  have left := (s.identEntry_keeps false).trans (State.exitMargin_keeps _)
  exact (left.trans (Keeps.rest (by simp))).trans (State.closeRunningSoak_keeps true _)

theorem State.enterBlocks_keeps (target : Phase) (id : Option ProposalId) (role : Antenna) (s : State) :
    Keeps s (s.enterBlocks target id role) := by
  cases target with
  | idle => exact Keeps.refl s
  | beacon => exact s.enterBeacon_keeps
  | sweep => exact s.enterSweep_keeps role
  | confirm => exact s.enterConfirm_keeps _
  | soak => exact s.enterSoak_keeps
  | margin => exact s.enterMargin_keeps
  | handover => exact s.enterHandover_keeps
  | halted => exact s.enterHalted_keeps

theorem State.leaveBlocks_keeps (left : Phase) (s : State) : Keeps s (s.leaveBlocks left) := by
  unfold State.leaveBlocks
  split
  · exact Keeps.rest (by simp)
  · exact (s.digestTimer_keeps none).trans (State.handoverIncomplete_keeps _)
  · exact Keeps.refl s

theorem State.cancelOutstanding_keeps (settled : Bool) (s : State) : Keeps s (s.cancelOutstanding settled) := by
  unfold State.cancelOutstanding
  split
  · exact Keeps.refl s
  · exact Keeps.ite (fun _ => Keeps.refl s) fun _ => s.signal_keeps _

theorem State.enterPhase_keeps (target : Phase) (cause : EntryCause) (id : Option ProposalId) (role : Antenna)
    (settled : Bool) (s : State) : Keeps s (s.enterPhase target cause id role settled) := by
  let x := s.cancelOutstanding settled
  have entered : Keeps s { x with hop := x.hop.enter target cause id, route := x.route.withdrawPropose } :=
    (s.cancelOutstanding_keeps settled).trans (x.withdrawPropose_keeps.trans (Keeps.rest (by simp)))
  have blocks := ((entered.trans (State.leaveBlocks_keeps s.hop.phase _)).trans
    (State.enterBlocks_keeps target id role _)).trans (State.switchProfile_keeps s.hop.profile _)
  exact (blocks.trans (State.sendStatus_keeps _)).signal.trans (State.updateLevelCondition_keeps _)

theorem State.halt_keeps (c : HaltCause) (s : State) : Keeps s (s.halt c) := s.enterPhase_keeps ..

/-! ### The coordinator's proposals and answers (R131 to R145) -/

theorem State.propose_keeps (target : Phase) (role : Antenna) (automatic : Bool) (s : State) :
    Keeps s (s.propose target role automatic) :=
  (Keeps.rest (by simp)).trans (State.send_keeps _ _)

theorem State.endProposal_keeps (s : State) : Keeps s s.endProposal :=
  s.withdrawPropose_keeps.trans (Keeps.rest (by simp [State.endProposal]))

theorem State.closeProposal_keeps (p : Proposal) (o : ProposalOutcome) (r : Option DeclineReason) (s : State) :
    Keeps s (s.closeProposal p o r) := by
  have timer : Keeps s.endProposal (s.endProposal.startAutoTimer p) := Keeps.when fun _ => Keeps.rest (by simp)
  exact (s.endProposal_keeps.trans timer).signal

theorem State.answerTimedOut_keeps (s : State) : Keeps s s.answerTimedOut := by
  unfold State.answerTimedOut
  split
  · exact Keeps.rest (by simp)
  · refine Keeps.ite (fun _ => ?_) fun _ => ?_
    · exact s.withdrawPropose_keeps.trans ((Keeps.rest (by simp)).trans (State.queueBody_keeps _ _ _))
    · exact (Keeps.rest (by simp)).trans (State.closeProposal_keeps _ _ _ _)

theorem State.autoTry_keeps (s : State) : Keeps s s.autoTry := by
  unfold State.autoTry
  split
  · exact Keeps.refl s
  · exact Keeps.ite (fun _ => s.propose_keeps _ _ _) fun _ => Keeps.rest (by simp)

theorem State.autoOnset_keeps {s t : State} (h : Keeps s t) : Keeps s (s.autoOnset t) :=
  Keeps.ite (fun _ => h.trans t.autoTry_keeps) fun _ => h

theorem State.sendAnswer_keeps (a : AnsweredRecord) (s : State) : Keeps s (s.sendAnswer a) := s.send_keeps _

theorem State.answer_keeps (a : AnsweredRecord) (s : State) : Keeps s (s.answer a) :=
  (s.sendAnswer_keeps a).trans (Keeps.rest (by simp [State.answer]))

theorem State.acceptProposal_keeps (proposer : Nat) (b : ProposeBody) (settled : Bool) (s : State) :
    Keeps s (s.acceptProposal proposer b settled) :=
  (s.answer_keeps _).trans (State.enterPhase_keeps _ _ _ _ _ _)

theorem State.evaluateAndAnswer_keeps (proposer : Nat) (b : ProposeBody) (s : State) :
    Keeps s (s.evaluateAndAnswer proposer b) := by
  unfold State.evaluateAndAnswer
  split
  · exact s.answer_keeps _
  · exact s.acceptProposal_keeps _ _ _

theorem State.joinAlike_keeps (proposer : Nat) (b : ProposeBody) (p : Proposal) (s : State) :
    Keeps s (s.joinAlike proposer b p) := by
  unfold State.joinAlike
  split
  · exact s.answer_keeps _
  · exact (s.signal_keeps _).trans (State.acceptProposal_keeps _ _ _ _)

theorem State.cross_keeps (proposer : Nat) (b : ProposeBody) (p : Proposal) (s : State) :
    Keeps s (s.cross proposer b p) :=
  Keeps.ite (fun _ => s.joinAlike_keeps _ _ _) fun _ =>
    Keeps.ite (fun _ => s.answer_keeps _) fun _ =>
      (s.closeProposal_keeps _ _ _).trans (State.evaluateAndAnswer_keeps _ _ _)

theorem State.takePropose_keeps (proposer : Nat) (b : ProposeBody) (s : State) :
    Keeps s (s.takePropose proposer b) := by
  refine Keeps.ite (fun _ => Keeps.rest (by simp)) fun _ => ?_
  split
  · exact s.sendAnswer_keeps _
  · split
    · exact s.evaluateAndAnswer_keeps _ _
    · exact s.cross_keeps _ _ _

theorem State.enterMatched_keeps (number : Nat) (target : Phase) (cause : EntryCause) (s : State) :
    Keeps s (s.enterMatched number target cause) := by
  unfold State.enterMatched
  split
  · exact Keeps.refl s
  · exact (s.signal_keeps _).trans (State.enterPhase_keeps _ _ _ _ _ _)

theorem State.partnerHalt_keeps (s : State) : Keeps s s.partnerHalt := Keeps.when fun _ => s.halt_keeps _

theorem State.takeAnswer_keeps (b : AnswerBody) (s : State) : Keeps s (s.takeAnswer b) := by
  refine Keeps.ite (fun _ => s.partnerHalt_keeps) fun _ => Keeps.ite (fun _ => Keeps.refl s) fun _ =>
    Keeps.ite (fun _ => s.enterMatched_keeps _ _ _) fun _ => ?_
  unfold State.takeDecline
  split
  · exact Keeps.refl s
  · exact Keeps.ite (fun _ => s.closeProposal_keeps _ _ _) fun _ => s.closeProposal_keeps _ _ _

theorem State.haltsOf_keeps (b : StatusBody) (s : State) : Keeps s (s.haltsOf b) := by
  unfold State.haltsOf
  split
  · exact s.partnerHalt_keeps
  · exact Keeps.when fun _ => s.halt_keeps _
  · exact Keeps.refl s

theorem State.countMismatch_keeps (b : StatusBody) (s : State) : Keeps s (s.countMismatch b) := by
  have counted : Keeps s { s with hop := { s.hop with mismatch := s.hop.mismatch + 1 } } := Keeps.rest (by simp)
  exact Keeps.ite (fun _ => Keeps.rest (by simp)) fun _ =>
    Keeps.ite (fun _ => Keeps.refl s) fun _ => Keeps.ite (fun _ => counted.signal) fun _ => counted

theorem State.takeStatus_keeps (b : StatusBody) (s : State) : Keeps s (s.takeStatus b) := by
  have moved : Keeps s ((s.catchUp b).haltsOf b) :=
    (Keeps.when fun _ => s.enterMatched_keeps _ _ _).trans (State.haltsOf_keeps _ _)
  exact Keeps.ite (fun _ => moved.trans (State.countMismatch_keeps _ _)) fun _ => moved

theorem State.runCrossCheck_keeps (s : State) : Keeps s s.runCrossCheck := by
  unfold State.runCrossCheck
  split
  · exact Keeps.signal (Keeps.rest (by simp))
  · exact Keeps.refl s

theorem State.takeVerdict_keeps (r : VerdictRecord) (s : State) : Keeps s (s.takeVerdict r) := by
  unfold State.takeVerdict
  dsimp only
  split
  · exact Keeps.rest (by simp)
  · exact Keeps.ite (fun _ => Keeps.ite (fun _ => (Keeps.rest (by simp)).trans (State.runCrossCheck_keeps _)) fun _ =>
      Keeps.rest (by simp)) fun _ => Keeps.ite (fun _ => Keeps.refl s) fun _ => Keeps.rest (by simp)
  · exact Keeps.rest (by simp)

/-! ### Reception (R108 to R111) -/

/-- A frame keeps the laws when its delivery does; one of the own number reaches no roster entry (R109). -/
theorem State.receive_keeps (f : Frame) {deliver : State → State} (h : ∀ x, Keeps x (deliver x)) (s : State) :
    Keeps s (s.receive f deliver) := by
  refine Keeps.ite (fun _ => Keeps.refl s) fun _ => ?_
  have hunted : Keeps s { s with route := s.route.hunt } := Keeps.ofRouteFields rfl rfl
  refine hunted.trans (Keeps.ite (fun _ => Keeps.ofRouteFields rfl rfl) fun _ =>
    Keeps.ite (fun _ => State.noteClash_keeps _ _ _ _) fun other => ?_)
  refine (State.hearFrame_keeps f _ (by simpa using other)).trans (Keeps.when fun _ => ?_)
  refine (State.hearPartner_keeps _).trans ?_
  have given : ∀ x : State, Keeps x (if x.addressed f.header then deliver x else x) := fun x => Keeps.when fun _ => h x
  exact Keeps.ite (fun _ => (given _).trans (State.rerun_keeps _)) fun _ => given _

theorem State.takeFrame_keeps (f : Frame) (s : State) : Keeps s (s.takeFrame f) := by
  unfold State.takeFrame
  split
  · exact s.receive_keeps f fun x => (x.marginStatus_keeps _).trans (State.takeStatus_keeps _ _)
  · exact s.receive_keeps f Keeps.refl
  · exact s.receive_keeps f fun x => x.takePropose_keeps _ _
  · exact s.receive_keeps f fun x => x.takeAnswer_keeps _
  · exact s.receive_keeps f fun x => x.takeVerdict_keeps _
  · exact s.receive_keeps f fun x => x.takeDigest_keeps _
  · exact s.receive_keeps f fun x => x.takeStep_keeps _
  · exact s.receive_keeps f fun x => State.autoOnset_keeps (x.takeLimit_keeps _)
  · exact s.receive_keeps f fun x => State.autoOnset_keeps (x.takeDone_keeps _)

/-- A row that names a frame's arrival takes that frame (R111). -/
theorem exec_receiveRow (f : Frame) (s : State) : exec (receiveRow f) s = .next (s.takeFrame f) := by
  rcases f with ⟨h, b⟩
  rcases b with b | b | b | b | b | b | ⟨e, b⟩
  case mtest => cases e <;> rfl
  all_goals rfl

theorem State.takeJudged_keeps (j : Judged) (s : State) : Keeps s (s.takeJudged j) := by
  have counted : ∀ j, Keeps s { s with route := { s.route with counters := s.route.counters.countJudged j } } :=
    fun _ => Keeps.ofRouteFields rfl rfl
  cases j with
  | good f => exact s.takeFrame_keeps f
  | truncated => exact counted _
  | oversize => exact counted _
  | crcError => exact counted _
  | malformed => exact counted _

theorem State.takeCharacter_keeps (b : Byte) (s : State) : Keeps s (s.takeCharacter b) := by
  have taken : Keeps s { s with route := { s.route with framer := (s.route.framer.take b).1 } } :=
    Keeps.ofRouteFields rfl rfl
  refine Keeps.ite (fun _ => Keeps.refl s) fun _ => ?_
  dsimp only
  split
  · exact taken
  · exact taken.trans (State.takeJudged_keeps _ _)

theorem State.takeCharacters_keeps (bytes : List Byte) (s : State) : Keeps s (s.takeCharacters bytes) := by
  induction bytes generalizing s with
  | nil => exact Keeps.refl s
  | cons b bs ih => exact (s.takeCharacter_keeps b).trans (ih _)

theorem State.takeGap_keeps (s : State) : Keeps s s.takeGap :=
  Keeps.ite (fun _ => Keeps.refl s) fun _ => Keeps.ofRouteFields rfl rfl

/-! ### Contention and transmission (R104, R105, R120) -/

theorem Keeps.ofCarrier {s : State} {r : Route} (h : r.waiting = s.route.waiting ∧ r.roster = s.route.roster) :
    Keeps s { s with route := r } :=
  Keeps.ofRouteFields h.1 h.2

theorem State.carrierHigh_keeps (s : State) : Keeps s { s with route := s.route.carrierHigh } :=
  Keeps.ofCarrier (by unfold Route.carrierHigh; split <;> exact ⟨rfl, rfl⟩)

theorem State.carrierLow_keeps (s : State) : Keeps s { s with route := s.route.carrierLow } :=
  Keeps.ofCarrier (by
    unfold Route.carrierLow
    split
    · exact ⟨rfl, rfl⟩
    · split <;> exact ⟨rfl, rfl⟩)

theorem State.takeGuardComplete_keeps (s : State) : Keeps s s.takeGuardComplete := by
  refine Keeps.when fun _ => ?_
  have route : Keeps s { s with route := (s.route.takeGuard s.draws).2 } := Keeps.ofCarrier (by simp)
  exact route.trans (Keeps.rest (by simp [State.liftRoute]))

theorem State.takeSlotEnd_keeps (s : State) : Keeps s s.takeSlotEnd :=
  Keeps.when fun _ => Keeps.ofCarrier (by simp [Route.endSlot])

/-! ### The events that are due (log 3) -/

theorem State.takeAnswerTimeout_keeps (s : State) : Keeps s s.takeAnswerTimeout :=
  Keeps.when fun _ => s.answerTimedOut_keeps

theorem State.takeAutoTimer_keeps (s : State) : Keeps s s.takeAutoTimer :=
  Keeps.when fun _ => (Keeps.rest (by simp)).trans (State.autoTry_keeps _)

theorem State.takeCompletion_keeps (s : State) : Keeps s s.takeCompletion := by
  refine Keeps.when fun _ => ?_
  have complete : Keeps s { s with lobe := s.lobe.complete s.settings s.level s.map } := Keeps.rest (by simp)
  refine complete.trans ?_
  unfold State.handOn
  split
  · exact Keeps.refl _
  · exact (State.send_keeps _ _).signal.trans (State.runCrossCheck_keeps _)

theorem State.takeVerdictRepeat_keeps (s : State) : Keeps s s.takeVerdictRepeat := by
  refine Keeps.when fun _ => ?_
  dsimp only
  split
  · exact Keeps.rest (by simp)
  · exact (Keeps.rest (by simp)).trans (State.send_keeps _ _)

theorem State.completeWord_keeps (s : State) : Keeps s s.completeWord := by
  have taken : Keeps s { s with chk := s.chk.takeWord s.settings.words } := Keeps.rest (by simp)
  exact Keeps.ite (fun _ => taken.signal) fun _ => taken

theorem State.settleSyncWork_keeps (s : State) : Keeps s s.settleSyncWork :=
  Keeps.trans (Keeps.rest (by simp)) (Keeps.when fun _ => State.completeWord_keeps _)

theorem State.takeIntervalEnd_keeps (s : State) : Keeps s s.takeIntervalEnd :=
  Keeps.when fun _ => s.settleSyncWork_keeps.trans (Keeps.rest (by simp))

theorem State.settleChecker_keeps (s : State) : Keeps s s.settleChecker :=
  s.settleSyncWork_keeps.trans (State.takeIntervalEnd_keeps _)

theorem State.clockEdge_keeps (bit : Bool) (s : State) : Keeps s (s.clockEdge bit) :=
  Keeps.when fun _ => s.settleChecker_keeps.trans (Keeps.rest (by simp))

theorem State.deliverTotals_keeps (s : State) : Keeps s s.deliverTotals :=
  Keeps.trans (Keeps.rest (by simp)) ((State.deliverToSoak_keeps _ _).trans (State.deliverToJudge_keeps _ _))

theorem State.secondWork_keeps (s : State) : Keeps s s.secondWork := by
  have delivered := (s.settleChecker_keeps.trans (State.deliverTotals_keeps _)).trans (State.ageRoster_keeps _)
  have applied : ∀ x : State, Keeps x x.applySecond.secondMargin := fun x => Keeps.rest (by simp)
  have ticked : ∀ x : State, Keeps x x.tickDigest := fun x => Keeps.ofCounts rfl
  exact (delivered.trans (applied _)).trans (ticked _)

theorem State.takeSecond_keeps (s : State) : Keeps s s.takeSecond :=
  Keeps.when fun _ => State.autoOnset_keeps (Keeps.trans (Keeps.rest (by simp)) (State.secondWork_keeps _))

theorem State.takeDigestTimer_keeps (s : State) : Keeps s s.takeDigestTimer :=
  Keeps.when fun _ =>
    (s.digestTimer_keeps (some 60)).trans (State.sendDigest_keeps true _)

theorem State.takeStepWrite_keeps (s : State) : Keeps s s.takeStepWrite :=
  Keeps.when fun _ => State.autoOnset_keeps s.writeStep_keeps

theorem State.takeSilence_keeps (s : State) : Keeps s s.takeSilence := Keeps.when fun _ => s.abortCurrent_keeps

theorem State.takeSupply_keeps (s : State) : Keeps s s.takeSupply :=
  Keeps.when fun _ => Keeps.signal (Keeps.rest (by simp))

/-! ### The settling of what is due (log 3) -/

theorem State.settleTick_keeps (s : State) : Keeps s s.settleTick := by
  have sync : ∀ x : State, Keeps x x.takeSyncRise.takeSyncFall := fun x => Keeps.rest (by simp)
  exact ((s.settleLines_keeps.trans (sync _)).trans (State.takeToggle_keeps _)).trans (State.takePeriodStart_keeps _)

theorem State.settleSecond_keeps (s : State) : Keeps s s.settleSecond := by
  have edge : Keeps s s.takeKeyingEdge := Keeps.rest (by simp)
  have dwell : ∀ x : State, Keeps x x.takeDwell := fun x => Keeps.rest (by simp)
  have announce : ∀ x : State, Keeps x x.takeAnnounce := fun x => Keeps.when fun _ => x.announceStep_keeps
  exact (((((edge.trans (State.takeSecond_keeps _)).trans (dwell _)).trans (announce _)).trans
    (State.takeDigestTimer_keeps _)).trans (State.takeStepWrite_keeps _)).trans (State.takeSilence_keeps _)

theorem State.settleCue_keeps (s : State) : Keeps s s.settleCue :=
  (s.takeStaleCadence_keeps.trans (State.takeForeignCadence_keeps _)).trans (State.takeCueUpdate_keeps _)

theorem State.settleTimers_keeps (s : State) : Keeps s s.settleTimers := by
  have status : ∀ x : State, Keeps x x.takeStatusTimer := fun x => Keeps.when fun _ => x.sendStatus_keeps
  have level : ∀ x : State, Keeps x x.takeLevelTimer := fun x => Keeps.when fun _ => x.sendLevel_keeps
  have hold : ∀ x : State, Keeps x x.takeEntryHold := fun x => Keeps.rest (by simp)
  have done : ∀ x : State, Keeps x x.takeDoneRepeat := fun x => Keeps.when fun _ => x.repeatDone_keeps
  have frames := ((s.takeVerdictRepeat_keeps.trans (status _)).trans (level _)).trans (State.takeAnswerTimeout_keeps _)
  exact (((frames.trans (hold _)).trans (State.takeAutoTimer_keeps _)).trans (done _)).trans (State.takeSupply_keeps _)

theorem State.settleRoute_keeps (s : State) : Keeps s s.settleRoute := by
  have analysis : Keeps s s.settleAnalysis := Keeps.when fun _ => s.takeCompletion_keeps
  have sent : ∀ x : State, Keeps x x.settleTransmission := fun x => Keeps.when fun _ => x.finishTransmission_keeps
  exact ((analysis.trans (sent _)).trans (State.takeGuardComplete_keeps _)).trans (State.takeSlotEnd_keeps _)

/-- A site port with the output queue of the one before. -/
theorem Keeps.ofOut {s : State} {p : Site} (h : p.out = s.site.out) : Keeps s { s with site := p } :=
  Keeps.ofSite (by simp [h])

theorem State.settle_keeps (s : State) : Keeps s s.settle := by
  have ticks := (s.settleChecker_keeps.trans (State.settleTick_keeps _)).trans (State.settleSecond_keeps _)
  have events : Keeps s s.settleEvents := ((ticks.trans (State.settleCue_keeps _)).trans (State.settleTimers_keeps _)).trans
    (State.settleRoute_keeps _)
  have routeGap : ∀ x : State, Keeps x x.settleRouteGap := fun x => Keeps.when fun _ => x.takeGap_keeps
  exact (events.trans (routeGap _)).trans (Keeps.ofOut (by simp))

/-! ### The sample event and the tick (R1, R197) -/

theorem State.tickTimers_keeps (s : State) : Keeps s s.tickTimers := by
  have route : Keeps s { s with route := s.tickTimers.route } := Keeps.ofRouteFields rfl rfl
  have site : Keeps { s with route := s.tickTimers.route }
      { s with route := s.tickTimers.route, site := s.tickTimers.site } := Keeps.ofOut rfl
  exact (route.trans site).trans (Keeps.rest (by simp))

theorem State.sampleCounters_keeps (s : State) : Keeps s s.sampleCounters := by
  have soak : Keeps s { s with soak := s.soak.sample s.settings s.supply.low s.level } := Keeps.ofCounts (by simp)
  have cue : ∀ x : State, Keeps x { x with cue := x.cue.sample } := fun x => Keeps.ofCue Cue.sample_sound
  have times : ∀ x : State, Keeps x { x with route := x.route.tickTimes } := fun x => Keeps.ofCarrier (by
    unfold Route.tickTimes
    split
    · exact ⟨rfl, rfl⟩
    · split <;> exact ⟨rfl, rfl⟩)
  exact ((soak.trans (cue _)).trans (times _)).trans (Keeps.rest (by simp [State.sampleCounters]))

theorem State.sampleWork_keeps (codes : ByInput Nat) (s : State) : Keeps s (s.sampleWork codes) := by
  have time : Keeps s { s with time := s.time.sample } := Keeps.rest (by simp)
  have mapped : ∀ (admitted : Bool) (x : State), Keeps x (x.mapSample admitted) := fun _ x => Keeps.rest (by simp)
  have measured : ∀ x : State, Keeps x (x.measure codes) := fun x =>
    ((((x.sampleInputs_keeps codes).trans (State.sampleChannels_keeps x.ident.gate _)).trans
      (State.identSample_keeps _ _)).trans (State.latch_keeps _)).trans (mapped _ _)
  exact ((time.trans (State.tickTimers_keeps _)).trans (measured _)).trans (State.sampleCounters_keeps _)

theorem State.cueTick_keeps (s : State) : Keeps s s.cueTick := by
  have first : Keeps s s.firstTick :=
    (Keeps.ofLines LineState.settleFirst).trans (Keeps.rest (by simp [State.firstTick]))
  have later : ∀ x : State, Keeps x { x.tickLines with cue := x.cue.tick x.settings.modulus } := fun x =>
    ((Keeps.ofLines LineState.tick).trans (Keeps.rest (t := x.tickLines) (by simp [State.tickLines]))).trans
      (Keeps.ofCue id)
  unfold State.cueTick
  split
  · exact first.trans (Keeps.ofCue (s := s.firstTick) id)
  · exact s.settleTick_keeps.trans (later s.settleTick)

/-! ### The site port's requests (R192 to R201) -/

/-- A geometry that a record gives is one that R48 allows (R195). -/
theorem takeSettings_geometry (r : SetupRecord) : GeometrySound (takeSettings r).geometry := by
  have columns := clampNat_eq 8 32 (r.columns / 4 * 4) (by omega)
  have rows := clampNat_eq 4 16 (r.rows / 2 * 2) (by omega)
  have width := clampNat_bounds 1 64 r.cellWidth (by omega)
  have height := clampNat_bounds 1 64 r.cellHeight (by omega)
  simp only [GeometrySound, takeSettings, takeColumns, takeRows, columns, rows]
  omega

/-- Acceptance settles the roster against the new number, so that no entry bears it (R115). -/
theorem State.takeRecord_keeps (r : SetupRecord) (s : State) :
    Keeps s ((s.takeRecord r).settleRoster (takeStation r)) := by
  have taken : ∀ roster : List RosterEntry, roster.Sublist s.route.roster →
      (∀ e ∈ roster, e.station ≠ (takeStation r).number) →
      Keeps s { s.takeRecord r with route := { s.route with roster := roster } } := by
    intro roster sub others
    refine ⟨id, id, fun ⟨len, ordered, _⟩ => ⟨Nat.le_trans sub.length_le len, ordered.sublist sub, ?_⟩,
      fun ⟨_, az, el, levels, staged, live⟩ =>
        ⟨takeSettings_geometry r, az.congr rfl rfl, el.congr rfl rfl, ⟨levels.1, ?_⟩, staged, live⟩, id⟩
    · rintro st ⟨⟩
      exact others
    · intro q fresh
      have restarted : ((s.level.restartChannels).channels.get q).fresh = true := by
        simp [LevelUnit.restartChannels, Channel.restart]
      exact absurd (restarted.symm.trans fresh) (by simp)
  unfold State.settleRoster
  dsimp only
  split
  · next none =>
    have whole := taken s.route.roster (List.Sublist.refl _) (entryOf_none (by rw [show s.route = (s.takeRecord r).route from rfl, none]; rfl))
    exact whole.trans (State.partnerEntryChanged_keeps _)
  · have others := taken (s.route.roster.filter fun x => x.station != (takeStation r).number) List.filter_sublist
      fun e he => by simpa using (List.mem_filter.mp he).2
    exact (others.trans (State.noteClash_keeps _ _ _ _)).trans (State.partnerEntryChanged_keeps _)

theorem State.answerSetup_keeps (r : SetupRecord) {s : State} (room : s.site.out.length < 8) :
    Keeps s (s.answerSetup r) := by
  refine Keeps.ite (fun _ => State.queueReply_keeps _ room) fun _ =>
    Keeps.ite (fun _ => State.queueReply_keeps _ room) fun _ => ?_
  split
  · exact State.queueReply_keeps _ room
  · exact (State.accept_keeps _ room).trans (((State.settleLines_keeps _).trans
      (State.takeRecord_keeps r _)).trans (State.sendStatus_keeps _))

theorem State.answerAdvance_keeps (target role : Byte) {s : State} (room : s.site.out.length < 8) :
    Keeps s (s.answerAdvance target role) := by
  unfold State.answerAdvance
  split
  · unfold State.advance
    split
    · exact State.refuse_keeps _ _ room
    · exact (State.accept_keeps _ room).trans (State.propose_keeps _ _ _ _)
  · exact State.refuse_keeps _ _ room

theorem State.answerAbort_keeps {s : State} (room : s.site.out.length < 8) : Keeps s s.answerAbort :=
  Keeps.ite (fun _ => State.refuse_keeps _ _ room) fun _ =>
    Keeps.ite (fun _ => State.accept_keeps _ room) fun _ => (State.accept_keeps _ room).trans (State.halt_keeps _ _)

theorem State.answerZero_keeps {s : State} (room : s.site.out.length < 8) : Keeps s s.answerZero :=
  Keeps.ite (fun _ => State.refuse_keeps _ _ room) fun _ =>
    (State.accept_keeps .zero room).trans (State.zeroPos_keeps (s.accept .zero))

theorem State.answerCue_keeps (b : Byte) {s : State} (room : s.site.out.length < 8) : Keeps s (s.answerCue b) := by
  unfold State.answerCue
  split
  · exact State.refuse_keeps _ _ room
  · next c _ =>
    exact (State.accept_keeps (.cue c) room).trans
      (Keeps.ofCue (s := s.accept (.cue c)) (c := { s.cue with source := c }) id)

theorem State.answerReports_keeps (mask : BitVec 24) {s : State} (room : s.site.out.length < 8) :
    Keeps s (s.answerReports mask) := by
  refine Keeps.ite (fun _ => ?_) fun _ => State.refuse_keeps _ _ room
  have masked : Keeps s { s with site := { s.site with mask := BitVec.ofNat 19 mask.toNat } } := Keeps.ofOut rfl
  exact masked.trans (State.accept_keeps _ room)

/-- The blocks after a restart have every law: the queues are empty, nothing is measured or counted (R201). -/
theorem State.restartBlocks_keeps (s : State) : Keeps s s.restartBlocks := by
  refine ⟨fun _ => Nat.zero_le 8, fun _ => QueueOrdered.sublist (ws := []) (by simp [QueueOrdered]) List.Sublist.slnil, id,
    fun ⟨g, _, _, levels, _, _⟩ => ⟨g, .zeroed rfl rfl, .zeroed rfl rfl, ⟨levels.1, ?_⟩, halfSound_640, halfSound_640⟩,
    fun _ => ?_⟩
  · intro q fresh
    have restarted : (s.level.restart.channels.get q).fresh = true := by
      simp [LevelUnit.restart, LevelUnit.restartChannels, Channel.restart]
    exact absurd (restarted.symm.trans fresh) (by simp)
  · simp [SoakSound, State.restartBlocks, Soak.reset]

theorem State.answerRestart_keeps {s : State} (room : s.site.out.length < 8) : Keeps s s.answerRestart := by
  have left : Keeps s s.leaveByRestart := Keeps.when fun _ => s.handoverIncomplete_keeps
  exact Keeps.ite (fun _ => ((left.trans (State.restartBlocks_keeps _)).trans
    (State.accept_keeps .restart (by simp [State.restartBlocks, Site.restart]))).trans (State.sendStatus_keeps _))
    fun _ => State.refuse_keeps _ _ room

theorem State.handleRequest_keeps (r : Request) {s : State} (room : s.site.out.length < 8) :
    Keeps s (s.handleRequest r) := by
  cases r with
  | setup record => exact State.answerSetup_keeps record room
  | query k =>
    cases k
    case status => exact State.queueReply_keeps _ room
    case lobes => exact Keeps.ite (fun _ => State.refuse_keeps _ _ room) fun _ => State.accept_keeps _ room
    all_goals exact State.accept_keeps _ room
  | mapCell c r => exact Keeps.ite (fun _ => State.accept_keeps _ room) fun _ => State.refuse_keeps _ _ room
  | advance t r => exact State.answerAdvance_keeps t r room
  | abort => exact State.answerAbort_keeps room
  | restart => exact State.answerRestart_keeps room
  | zero => exact State.answerZero_keeps room
  | cue b => exact State.answerCue_keeps b room
  | reports m => exact State.answerReports_keeps m room

theorem State.answerMessage_keeps (type : Byte) (body : List Byte) {s : State} (room : s.site.out.length < 8) :
    Keeps s (s.answerMessage type body) := by
  unfold State.answerMessage
  split
  · exact State.handleRequest_keeps _ room
  · exact Keeps.ite (fun _ => State.queueReply_keeps _ room) fun _ => State.refuse_keeps _ _ room

/-- The framer hunting, and the counts of R193, are no part of the output queue's law. -/
theorem State.takeSiteCharacter_keeps (b : Byte) (s : State) : Keeps s (s.takeSiteCharacter b) := by
  unfold State.takeSiteCharacter
  split
  · exact Keeps.when fun _ => Keeps.ofOut rfl
  · refine Keeps.ite (fun _ => Keeps.ofOut rfl) fun _ => Keeps.ite (fun _ => ?_) fun _ => Keeps.ofOut rfl
    unfold State.takeMessage
    split
    · exact State.request_keeps (fun _ room => State.answerMessage_keeps _ _ room) s
    · exact Keeps.ofOut rfl

theorem State.takeSiteCharacters_keeps (bytes : List Byte) (s : State) : Keeps s (s.takeSiteCharacters bytes) := by
  induction bytes generalizing s with
  | nil => exact Keeps.refl s
  | cons b bs ih => exact (s.takeSiteCharacter_keeps b).trans (ih _)

theorem State.siteGap_keeps (s : State) : Keeps s { s with site := s.site.gap } :=
  Keeps.ofOut (by unfold Site.gap; split <;> rfl)

theorem State.transmit_keeps (s : State) : Keeps s { s with site := s.site.transmit } :=
  Keeps.ofSite fun h => by
    unfold Site.transmit
    split
    · exact h
    · next e =>
      rw [e] at h
      exact Nat.le_trans (Nat.le_succ _) h

/-- The state after a hard reset has every law (R148). -/
theorem State.hardReset_keeps (s : State) : Keeps s s.hardReset := by
  obtain ⟨output, waiting, roster, figures, soak, -, -⟩ := Proofs.resetHasTheInvariants
  obtain ⟨geometry, -, -, levels, staged, live⟩ := figures
  exact ⟨fun _ => output, fun _ => waiting, fun _ => roster,
    fun _ => ⟨geometry, .zeroed rfl rfl, .zeroed rfl rfl, levels, staged, live⟩, fun _ => soak⟩

/-! ### Every command, and the step -/

/-- A command's next state has the laws of the state it found. -/
def ExecKeeps (c : Instr) : Prop := ∀ s t : State, exec c s = .next t → Keeps s t

theorem ExecKeeps.of {c : Instr} {f : State → State} (h : ∀ s, Keeps s (f s)) (runs : ∀ s, exec c s = .next (f s)) :
    ExecKeeps c := by
  intro s t e
  cases (runs s).symm.trans e
  exact h s

theorem receiveRow_keeps (f : Frame) : ExecKeeps (receiveRow f) :=
  .of (fun s => s.takeFrame_keeps f) (exec_receiveRow f)

theorem request_keeps {c : Instr} {handle : State → State} (h : ∀ x : State, x.site.out.length < 8 → Keeps x (handle x))
    (runs : ∀ s, exec c s = .next (s.request handle)) : ExecKeeps c :=
  .of (fun s => State.request_keeps h s) runs

theorem exec_keeps (c : Instr) : ExecKeeps c := by
  have rest : ∀ {f : State → State},
      (∀ s, (f s).station = s.station ∧ (f s).settings = s.settings ∧ (f s).level = s.level ∧ (f s).pos = s.pos ∧
        (f s).cue = s.cue ∧ (f s).route = s.route ∧ (f s).soak = s.soak ∧ (f s).site = s.site) →
      ∀ s, Keeps s (f s) := fun h s => Keeps.rest (h s)
  cases c
  case hardReset => exact .of State.hardReset_keeps fun _ => rfl
  case sampleEvent codes => exact .of (fun s => s.settle_keeps.trans (State.sampleWork_keeps codes _)) fun _ => rfl
  case rangeWarningClear i => exact .of (State.takeWarningClear_keeps i) fun _ => rfl
  case fadeStart r l => exact .of (State.takeFadeSample_keeps false r l) fun _ => rfl
  case fadeEnd r l => exact .of (State.takeFadeSample_keeps true r l) fun _ => rfl
  case blockClose l => exact .of (fun s => Keeps.when fun _ => s.identSample_keeps l) fun _ => rfl
  case encoderTransition x => exact .of (State.takeTransition_keeps x) fun _ => rfl
  case analysisComplete => exact .of State.takeCompletion_keeps fun _ => rfl
  case verdictRepeat => exact .of State.takeVerdictRepeat_keeps fun _ => rfl
  case cueUpdate => exact .of State.takeCueUpdate_keeps fun _ => rfl
  case staleCadence => exact .of State.takeStaleCadence_keeps fun _ => rfl
  case foreignCadence => exact .of State.takeForeignCadence_keeps fun _ => rfl
  case toneToggle => exact .of State.takeToggle_keeps fun _ => rfl
  case meterPeriodStart => exact .of State.takePeriodStart_keeps fun _ => rfl
  case setup r => exact request_keeps (fun _ => State.answerSetup_keeps r) fun _ => rfl
  case queryStatus => exact request_keeps (fun _ => State.handleRequest_keeps (.query .status)) fun _ => rfl
  case queryLevels => exact request_keeps (fun _ => State.handleRequest_keeps (.query .levels)) fun _ => rfl
  case queryPosition => exact request_keeps (fun _ => State.handleRequest_keeps (.query .position)) fun _ => rfl
  case queryMapCell c r => exact request_keeps (fun _ => State.handleRequest_keeps (.mapCell c r)) fun _ => rfl
  case queryMapSummary => exact request_keeps (fun _ => State.handleRequest_keeps (.query .mapSummary)) fun _ => rfl
  case queryLobes => exact request_keeps (fun _ => State.handleRequest_keeps (.query .lobes)) fun _ => rfl
  case queryVerdict => exact request_keeps (fun _ => State.handleRequest_keeps (.query .verdict)) fun _ => rfl
  case queryRoster => exact request_keeps (fun _ => State.handleRequest_keeps (.query .roster)) fun _ => rfl
  case querySoak => exact request_keeps (fun _ => State.handleRequest_keeps (.query .soak)) fun _ => rfl
  case queryFades => exact request_keeps (fun _ => State.handleRequest_keeps (.query .fades)) fun _ => rfl
  case queryMargin => exact request_keeps (fun _ => State.handleRequest_keeps (.query .margin)) fun _ => rfl
  case queryHandover => exact request_keeps (fun _ => State.handleRequest_keeps (.query .handover)) fun _ => rfl
  case advance t r => exact request_keeps (fun _ => State.answerAdvance_keeps t r) fun _ => rfl
  case abort => exact request_keeps (fun _ => State.answerAbort_keeps) fun _ => rfl
  case restart => exact request_keeps (fun _ => State.answerRestart_keeps) fun _ => rfl
  case zero => exact request_keeps (fun _ => State.answerZero_keeps) fun _ => rfl
  case cue b => exact request_keeps (fun _ => State.answerCue_keeps b) fun _ => rfl
  case reports m => exact request_keeps (fun _ => State.answerReports_keeps m) fun _ => rfl
  case unknownRequest type body => exact request_keeps (fun _ => State.answerMessage_keeps type body) fun _ => rfl
  case siteFramingError n =>
    exact .of (fun s => Keeps.ofOut (by unfold Site.framing; split <;> rfl)) fun _ => rfl
  case siteGapTimeout cut =>
    exact .of (fun s => Keeps.when fun _ => s.siteGap_keeps.trans (State.takeSiteCharacters_keeps _ _)) fun _ => rfl
  case siteChecksumError bytes => exact .of (State.takeSiteCharacters_keeps bytes) fun _ => rfl
  case siteMessageTransmit => exact .of State.transmit_keeps fun _ => rfl
  case routeFrameDiscarded bytes => exact .of (State.takeCharacters_keeps bytes) fun _ => rfl
  case routeGapTimeout cut =>
    exact .of (fun s => Keeps.when fun _ => s.takeGap_keeps.trans (State.takeCharacters_keeps _ _)) fun _ => rfl
  case receiveStatus h b => exact receiveRow_keeps { header := h, body := .status b }
  case receiveLevel h b => exact receiveRow_keeps { header := h, body := .level b }
  case receivePropose h b => exact receiveRow_keeps { header := h, body := .propose b }
  case receiveAnswer h b => exact receiveRow_keeps { header := h, body := .answer b }
  case receiveVerdict h b => exact receiveRow_keeps { header := h, body := .verdict b }
  case receiveDigest h b => exact receiveRow_keeps { header := h, body := .digest b }
  case mtestStep h b => exact receiveRow_keeps { header := h, body := .mtest .step b }
  case mtestLimit h b => exact receiveRow_keeps { header := h, body := .mtest .limit b }
  case mtestDone h b => exact receiveRow_keeps { header := h, body := .mtest .done b }
  case carrierBusyHigh => exact .of State.carrierHigh_keeps fun _ => rfl
  case carrierBusyLow => exact .of State.carrierLow_keeps fun _ => rfl
  case guardComplete => exact .of State.takeGuardComplete_keeps fun _ => rfl
  case backoffSlotEnd => exact .of State.takeSlotEnd_keeps fun _ => rfl
  case transmissionComplete => exact .of (fun s => Keeps.when fun _ => s.finishTransmission_keeps) fun _ => rfl
  case statusTimerExpiry => exact .of (fun s => Keeps.when fun _ => s.sendStatus_keeps) fun _ => rfl
  case levelTimerExpiry => exact .of (fun s => Keeps.when fun _ => s.sendLevel_keeps) fun _ => rfl
  case answerTimeout => exact .of State.takeAnswerTimeout_keeps fun _ => rfl
  case entryHoldExpiry => exact .of (rest (f := State.takeEntryHold) (by simp)) fun _ => rfl
  case automaticTimerExpiry => exact .of State.takeAutoTimer_keeps fun _ => rfl
  case secondEvent => exact .of State.takeSecond_keeps fun _ => rfl
  case keyingEdge => exact .of (rest (f := State.takeKeyingEdge) (by simp)) fun _ => rfl
  case syncPin => exact .of (rest (f := State.takeSyncRise) (by simp)) fun _ => rfl
  case syncWordFound => exact .of (rest (f := State.takeSyncWord) (by simp)) fun _ => rfl
  case patternWordComplete => exact .of (fun s => Keeps.when fun _ => s.completeWord_keeps) fun _ => rfl
  case wordIntervalEnd => exact .of State.takeIntervalEnd_keeps fun _ => rfl
  case digestTimerExpiry => exact .of State.takeDigestTimer_keeps fun _ => rfl
  case dwellExpiry => exact .of (rest (f := State.takeDwell) (by simp)) fun _ => rfl
  case marginStepWrite => exact .of State.takeStepWrite_keeps fun _ => rfl
  case stepAnnounce => exact .of (fun s => Keeps.when fun _ => s.announceStep_keeps) fun _ => rfl
  case doneRepeat => exact .of (fun s => Keeps.when fun _ => s.repeatDone_keeps) fun _ => rfl
  case silenceAbort => exact .of State.takeSilence_keeps fun _ => rfl
  case supplyCrossing mv =>
    exact .of (rest (f := fun s => { s with supply := s.supply.take (supplyLevel s.settings.supplyLow) mv }) (by simp))
      fun _ => rfl
  case supplyDebounceExpiry => exact .of State.takeSupply_keeps fun _ => rfl
  case encoderLineChange x l high =>
    exact .of (fun s => (s.takeTransition_keeps x).trans (State.driveLine_keeps x l high _)) fun _ => rfl
  case syncInputChange high =>
    exact .of (rest (f := fun s => s.takeSyncRise.takeSyncFall.driveSync high) (by simp)) fun _ => rfl
  case syncFilteredFall => exact .of (rest (f := State.takeSyncFall) (by simp)) fun _ => rfl
  case patternClockEdge bit => exact .of (State.clockEdge_keeps bit) fun _ => rfl

/-- Every step keeps the five laws: a tick does, and so does the command at the front of the queue. -/
theorem step_keeps {s t : State} (h : step s = .next t) : Keeps s t := by
  unfold step at h
  split at h
  · cases h
    exact s.cueTick_keeps
  · next c rest _ => exact Keeps.trans (Keeps.rest (by simp)) (exec_keeps c { s with pending := rest } t h)

end Sys2Proof.Machine

namespace Sys2Proof.Proofs

open Sys2Proof Sys2Proof.Machine

/-- Settles O56: the queues' and the roster's part of what every step keeps (R113, R117, R193). -/
theorem queuesAndRosterStaySound : Obligations.QueuesAndRosterStaySound := fun _ _ h =>
  ⟨(step_keeps h).output, (step_keeps h).waiting, (step_keeps h).roster⟩

/-- Settles O57: the measured figures' part of what every step keeps (R4, R13, R41, R48, R94). -/
theorem figuresStayInRange : Obligations.FiguresStayInRange := fun _ _ sound h => (step_keeps h).figures sound

/-- Settles O58: the recorder's part of what every step keeps (R170, R171). -/
theorem soakLawIsKept : Obligations.SoakLawIsKept := fun _ _ sound h => (step_keeps h).soak sound

end Sys2Proof.Proofs
end

section
/-! PROOFS. What the step functions do to the phase, the proposals, the margin directions and the attenuation: one
lemma a function that touches them, composed up to the step (O59, O60). -/

namespace Sys2Proof.Machine

/-! ### A change that keeps the coordinator's and the attenuation's laws -/

/-- A configured station whose phase may be followed by the target (R126, R135). -/
def CanEnter (s : State) (target : Phase) : Prop := s.station ≠ none ∧ MayEnter s target

theorem HopSound.outstanding_canEnter {s : State} (sound : HopSound s) {p : Proposal}
    (h : s.hop.outstanding = some p) : CanEnter s p.target :=
  ⟨fun none => by simp [(sound.1 none).2.1] at h, sound.2.1 p h⟩

theorem HopSound.failed_canEnter {s : State} (sound : HopSound s) {p : FailedProposal}
    (h : s.hop.failed = some p) : CanEnter s p.target :=
  ⟨fun none => by simp [(sound.1 none).2.2] at h, sound.2.2.1 p h⟩

/-- From s to t the coordinator's law is kept, and the attenuation's law with it. -/
structure Lawful (s t : State) : Prop where
  hop : HopSound s → HopSound t
  atten : HopSound s → AttenuationSound s → AttenuationSound t

/-- A lawful change that leaves the phase as it is. -/
structure Stays (s t : State) : Prop extends Lawful s t where
  phase : HopSound s → t.hop.phase = s.hop.phase
  settings : t.settings = s.settings

/-- A lawful change of at most one phase entry: the phase stays, or becomes HALTED or a legal successor. -/
structure Moves (s t : State) : Prop extends Lawful s t where
  phase : HopSound s → t.hop.phase = s.hop.phase ∨ t.hop.phase = .halted ∨
    legalSuccessor s.settings.marginEnabled s.hop.phase t.hop.phase = true

theorem Lawful.refl (s : State) : Lawful s s := ⟨id, fun _ => id⟩

theorem Lawful.trans {s t u : State} (h : Lawful s t) (g : Lawful t u) : Lawful s u :=
  ⟨g.hop ∘ h.hop, fun sound a => g.atten (h.hop sound) (h.atten sound a)⟩

theorem Lawful.ite {s t u : State} {p : Prop} [Decidable p] (h : p → Lawful s t) (g : ¬ p → Lawful s u) :
    Lawful s (if p then t else u) := by
  split
  · exact h ‹_›
  · exact g ‹_›

namespace Stays

variable {s t u : State}

theorem refl (s : State) : Stays s s := ⟨.refl s, fun _ => rfl, rfl⟩

theorem trans (h : Stays s t) (g : Stays t u) : Stays s u :=
  ⟨h.toLawful.trans g.toLawful, fun sound => (g.phase (h.hop sound)).trans (h.phase sound),
    g.settings.trans h.settings⟩

theorem ite {p : Prop} [Decidable p] (h : p → Stays s t) (g : ¬ p → Stays s u) : Stays s (if p then t else u) := by
  split
  · exact h ‹_›
  · exact g ‹_›

/-- A change made under a condition alone. -/
theorem when {p : Prop} [Decidable p] (h : p → Stays s t) : Stays s (if p then t else s) := ite h fun _ => refl s

theorem moves (h : Stays s t) : Moves s t := ⟨h.toLawful, fun sound => .inl (h.phase sound)⟩

theorem thenMoves (h : Stays s t) (g : Moves t u) : Moves s u :=
  ⟨h.toLawful.trans g.toLawful, fun sound => by simpa only [h.phase sound, h.settings] using g.phase (h.hop sound)⟩

end Stays

theorem Moves.thenStays {s t u : State} (h : Moves s t) (g : Stays t u) : Moves s u :=
  ⟨h.toLawful.trans g.toLawful, fun sound => by simpa only [g.phase (h.hop sound)] using h.phase sound⟩

theorem Moves.ite {s t u : State} {p : Prop} [Decidable p] (h : p → Moves s t) (g : ¬ p → Moves s u) :
    Moves s (if p then t else u) := by
  split
  · exact h ‹_›
  · exact g ‹_›

theorem Moves.when {s t : State} {p : Prop} [Decidable p] (h : p → Moves s t) : Moves s (if p then t else s) :=
  Moves.ite h fun _ => (Stays.refl s).moves

/-! ### Which registers the laws speak of -/

theorem State.roleOf_congr {s t : State} (station : t.station = s.station) (d : Direction) : t.roleOf d = s.roleOf d := by
  simp only [State.roleOf, station]

theorem State.transmitting_congr {s t : State} (station : t.station = s.station)
    (current : t.margin.current = s.margin.current) (states : t.margin.states = s.margin.states) :
    t.transmitting = s.transmitting := by
  simp only [State.transmitting, State.activeAs, State.roleOf, station, current, states]

theorem State.transmitting_iff (s : State) : s.transmitting = true ↔
    ∃ d, s.margin.current = some d ∧ s.margin.states.get d = .active ∧ s.roleOf d = .transmitting := by
  unfold State.transmitting State.activeAs
  cases s.margin.current <;> simp

/-- The coordinator's law of a later state: the station, the settings and the phase are the same, an antenna once
confirmed stays so, and every open proposal was one or names a target that may be entered. -/
theorem HopSound.congr {s t : State} (station : t.station = s.station) (settings : t.settings = s.settings)
    (phase : t.hop.phase = s.hop.phase)
    (confirmed : confirmedEnough s.settings.diversity s.lobe.confirmed = true →
      confirmedEnough s.settings.diversity t.lobe.confirmed = true)
    (outstanding : ∀ p, t.hop.outstanding = some p → CanEnter s p.target)
    (failed : ∀ p, t.hop.failed = some p → CanEnter s p.target) (sound : HopSound s) : HopSound t := by
  have may : ∀ target, CanEnter s target → MayEnter t target := fun target ⟨_, legal, full⟩ =>
    ⟨by rw [settings, phase]; exact legal, fun soak => by rw [settings]; exact confirmed (full soak)⟩
  have absent : ∀ {α : Type} (target : α → Phase) (o : Option α), (∀ p, o = some p → CanEnter s (target p)) →
      s.station = none → o = none := by
    intro α target o can none
    cases o with
    | none => rfl
    | some p => exact absurd none (can p rfl).1
  refine ⟨fun none => ?_, fun p h => may _ (outstanding p h), fun p h => may _ (failed p h), fun late => ?_⟩
  · rw [station] at none
    exact ⟨phase.trans (sound.1 none).1, absent Proposal.target _ outstanding none,
      absent FailedProposal.target _ failed none⟩
  · rw [settings]
    rw [phase] at late
    exact confirmed (sound.2.2.2 late)

/-- The attenuation's law speaks of the station, the phase, the directions and the attenuation alone. -/
theorem AttenuationSound.congr {s t : State} (station : t.station = s.station) (phase : t.hop.phase = s.hop.phase)
    (current : t.margin.current = s.margin.current) (states : t.margin.states = s.margin.states)
    (atten : t.src.atten = s.src.atten) (sound : AttenuationSound s) : AttenuationSound t := by
  obtain ⟨live, staged, zero, active⟩ := sound
  refine ⟨atten ▸ live, atten ▸ staged, fun off => ?_, ?_⟩
  · rw [atten]
    exact zero ((State.transmitting_congr station current states) ▸ off)
  · rw [current, states, phase]
    exact active

namespace Stays

variable {s t : State}

/-- The blocks of which neither law speaks are free. -/
theorem rest
    (h : t.station = s.station ∧ t.settings = s.settings ∧ t.hop = s.hop ∧ t.lobe = s.lobe ∧ t.margin = s.margin ∧
      t.src = s.src) : Stays s t := by
  obtain ⟨station, settings, hop, lobe, margin, src⟩ := h
  exact ⟨⟨fun sound => sound.congr station settings (by rw [hop]) (by rw [lobe]; exact id)
      (fun p e => sound.outstanding_canEnter (hop ▸ e)) fun p e => sound.failed_canEnter (hop ▸ e),
    fun _ a => a.congr station (by rw [hop]) (by rw [margin]) (by rw [margin]) (by rw [src])⟩,
    fun _ => by rw [hop], settings⟩

/-- A record of the coordinator in the same phase, its open proposals ones that were or that may be entered. -/
theorem ofHop {c : Coordinator} (phase : c.phase = s.hop.phase)
    (outstanding : HopSound s → ∀ p, c.outstanding = some p → CanEnter s p.target)
    (failed : HopSound s → ∀ p, c.failed = some p → CanEnter s p.target) : Stays s { s with hop := c } :=
  ⟨⟨fun sound => HopSound.congr (s := s) rfl rfl phase id (outstanding sound) (failed sound) sound,
    fun _ => AttenuationSound.congr (s := s) rfl phase rfl rfl rfl⟩, fun _ => phase, rfl⟩

/-- A record of the coordinator that differs in its counts and timers alone. -/
theorem ofHopFields {c : Coordinator} (phase : c.phase = s.hop.phase) (outstanding : c.outstanding = s.hop.outstanding)
    (failed : c.failed = s.hop.failed) : Stays s { s with hop := c } :=
  ofHop phase (fun sound _ e => sound.outstanding_canEnter (outstanding ▸ e)) fun sound _ e =>
    sound.failed_canEnter (failed ▸ e)

/-- A state of the analyser in which what was confirmed is confirmed still. -/
theorem ofLobe {a : Analyser} (confirmed : ∀ diversity, confirmedEnough diversity s.lobe.confirmed = true →
    confirmedEnough diversity a.confirmed = true) : Stays s { s with lobe := a } :=
  ⟨⟨fun sound => HopSound.congr (s := s) rfl rfl rfl (confirmed _) (fun _ => sound.outstanding_canEnter)
      (fun _ => sound.failed_canEnter) sound,
    fun _ => AttenuationSound.congr (s := s) rfl rfl rfl rfl rfl⟩, fun _ => rfl, rfl⟩

/-- A change of the directions or of the attenuation that keeps the law of R152. -/
theorem ofMargin {m : Margin} {x : Source} (h : HopSound s → AttenuationSound s →
    AttenuationSound { s with margin := m, src := x }) : Stays s { s with margin := m, src := x } :=
  ⟨⟨fun sound => HopSound.congr (s := s) rfl rfl rfl id (fun _ => sound.outstanding_canEnter)
      (fun _ => sound.failed_canEnter) sound, h⟩, fun _ => rfl, rfl⟩

/-- The figures of the margin procedure but its directions are free, and so is the test source but its attenuation. -/
theorem ofMarginFields {m : Margin} {x : Source} (current : m.current = s.margin.current)
    (states : m.states = s.margin.states) (atten : x.atten = s.src.atten) :
    Stays s { s with margin := m, src := x } :=
  ofMargin fun _ => AttenuationSound.congr (s := s) rfl rfl current states atten

end Stays

end Sys2Proof.Machine
end

section
/-! PROOFS. The margin procedure keeps the attenuation safe (R152, R157, R181 to R188). -/

namespace Sys2Proof.Machine

/-! ### An attenuation of 0 dB with nothing staged -/

/-- No attenuation is in force, staged or pending (R152). -/
def attenZero : Staged Nat := { live := 0, staged := 0, pending := false }

@[simp] theorem State.restoreAtten_zero (s : State) : s.restoreAtten.src.atten = attenZero := rfl

/-- Without attenuation the law asks only that a direction is ACTIVE in MARGIN alone. -/
theorem AttenuationSound.ofZero {s : State} (zero : s.src.atten = attenZero)
    (active : ∀ d, s.margin.current = some d → s.margin.states.get d = .active → s.hop.phase = .margin) :
    AttenuationSound s := by
  refine ⟨?_, ?_, fun _ => zero, active⟩ <;> simp [zero, attenZero]

/-- In MARGIN the law asks nothing of the directions. -/
theorem AttenuationSound.ofZeroInMargin {s : State} (zero : s.src.atten = attenZero) (phase : s.hop.phase = .margin) :
    AttenuationSound s :=
  .ofZero zero fun _ _ _ => phase

/-- A direction that is ACTIVE at this station, in any role, is so in MARGIN. -/
theorem AttenuationSound.phase_of_activeAs {s : State} (sound : AttenuationSound s) {d : Direction} {role : MarginRole}
    (h : s.activeAs d role = true) : s.hop.phase = .margin := by
  simp only [State.activeAs, Bool.and_eq_true, beq_iff_eq] at h
  exact sound.2.2.2 d h.1.1 h.1.2

theorem AttenuationSound.phase_of_transmitting {s : State} (sound : AttenuationSound s) (h : s.transmitting = true) :
    s.hop.phase = .margin := by
  obtain ⟨d, current, active, _⟩ := s.transmitting_iff.mp h
  exact sound.2.2.2 d current active

theorem AttenuationSound.zero_of_not_transmitting {s : State} (sound : AttenuationSound s)
    (h : s.transmitting ≠ true) : s.src.atten = attenZero :=
  sound.2.2.1 (by simpa using h)

/-- Where the current direction is not ACTIVE as transmitting end, no direction is. -/
theorem State.not_transmitting {s : State} {d : Direction} (current : s.margin.current = some d)
    (other : s.margin.states.get d ≠ .active ∨ s.roleOf d ≠ .transmitting) : s.transmitting ≠ true := by
  intro h
  obtain ⟨e, current', active, role⟩ := s.transmitting_iff.mp h
  obtain rfl : d = e := Option.some.inj (current.symm.trans current')
  exact other.elim (· active) (· role)

/-- Outside MARGIN there is no attenuation and no ACTIVE direction. -/
theorem AttenuationSound.idle {s : State} (sound : AttenuationSound s) (out : s.hop.phase ≠ .margin) :
    s.src.atten = attenZero ∧ ∀ d, s.margin.current = some d → s.margin.states.get d ≠ .active :=
  ⟨sound.zero_of_not_transmitting fun h => out (sound.phase_of_transmitting h),
    fun d current active => out (sound.2.2.2 d current active)⟩

/-- Other figures of the directions: none becomes ACTIVE, and one of which this station is the transmitting end stays
so. -/
theorem AttenuationSound.ofStates {s : State} {m : Margin} (current : m.current = s.margin.current)
    (fewer : ∀ d, m.states.get d = .active → s.margin.states.get d = .active)
    (transmits : ∀ d, s.roleOf d = .transmitting → s.margin.states.get d = .active → m.states.get d = .active)
    (sound : AttenuationSound s) : AttenuationSound { s with margin := m } := by
  obtain ⟨live, staged, zero, active⟩ := sound
  refine ⟨live, staged, fun off => zero ?_, fun d now h => active d (current ▸ now) (fewer d h)⟩
  refine Classical.byContradiction fun on => ?_
  obtain ⟨d, now, was, role⟩ := s.transmitting_iff.mp (by simpa using on)
  exact absurd ((State.transmitting_iff { s with margin := m }).mpr ⟨d, current.trans now, transmits d role was, role⟩)
    (by rw [off]; decide)

/-! ### What each function does -/

/-- Functions of the margin procedure touch no other register of the two laws. -/
theorem Stays.ofAtten {s t : State}
    (frame : t.station = s.station ∧ t.settings = s.settings ∧ t.hop = s.hop ∧ t.lobe = s.lobe)
    (atten : AttenuationSound s → AttenuationSound t) : Stays s t := by
  obtain ⟨station, settings, hop, lobe⟩ := frame
  exact ⟨⟨fun sound => sound.congr station settings (by rw [hop]) (by rw [lobe]; exact id)
    (fun _ e => sound.outstanding_canEnter (hop ▸ e)) fun _ e => sound.failed_canEnter (hop ▸ e), fun _ => atten⟩,
    fun _ => by rw [hop], settings⟩

/-- A state that shares every register of the attenuation's law. -/
theorem AttenuationSound.rest {s t : State}
    (h : t.station = s.station ∧ t.hop = s.hop ∧ t.margin = s.margin ∧ t.src = s.src) (sound : AttenuationSound s) :
    AttenuationSound t := by
  obtain ⟨station, hop, margin, src⟩ := h
  exact sound.congr station (by rw [hop]) (by rw [margin]) (by rw [margin]) (by rw [src])

/-- A direction begins at 0 dB: the transmitting end restores, the judge's attenuation is 0 dB already (R157, R181). -/
theorem State.beginDirection_atten {s : State} {d : Direction} (phase : s.hop.phase = .margin)
    (zero : s.roleOf d = .transmitting ∨ s.src.atten = attenZero) : AttenuationSound (s.beginDirection d) := by
  unfold State.beginDirection
  split
  · exact .ofZeroInMargin (by simp) (by simpa using phase)
  · next other => exact .ofZeroInMargin (zero.resolve_left other) phase

/-- This station transmits in one of the directions and judges the other. -/
theorem State.roleOf_two {s : State} (h : s.roleOf .one = .judge) : s.roleOf .two = .transmitting := by
  unfold State.roleOf at h ⊢
  cases hs : s.station with
  | none => simp [hs] at h
  | some st =>
    cases he : st.hopEnd with
    | a => simp [hs, he, roleIn] at h
    | b => simp [he, roleIn]

/-- A result at the transmitting end restores the attenuation (R157, R184). -/
theorem State.transmitDone_atten (body : MtestBody) {s : State} (phase : s.hop.phase = .margin) :
    AttenuationSound (s.transmitDone body) := by
  unfold State.transmitDone
  dsimp only
  split
  · exact State.beginDirection_atten (by simpa using phase) (.inr (by simp))
  · exact .ofZeroInMargin (by simp) (by simpa using phase)

theorem State.takeLimit_stays (b : MtestBody) (s : State) : Stays s (s.takeLimit b) := by
  refine .ofAtten (by simp) fun sound => ?_
  unfold State.takeLimit
  split
  · next h =>
    simp only [Bool.and_eq_true] at h
    exact State.transmitDone_atten _ (sound.phase_of_activeAs h.1)
  · exact sound

theorem State.secondMargin_stays (s : State) : Stays s s.secondMargin :=
  Stays.when fun _ => Stays.ofMarginFields rfl rfl rfl

/-- The value written is at most 63 dB (R152, R182). -/
theorem Source.writeAtten_le {sources : ApplySet} {n : Nat} {x : Source} (h : x.atten.live ≤ 63) :
    (x.writeAtten sources n).atten.live ≤ 63 ∧ (x.writeAtten sources n).atten.staged ≤ 63 := by
  unfold Source.writeAtten
  dsimp only
  split
  · exact ⟨Nat.min_le_right _ _, Nat.min_le_right _ _⟩
  · exact ⟨h, Nat.min_le_right _ _⟩

/-- The transmitting end writes the next step, and is the transmitting end still (R182). -/
theorem State.writeStep_atten {s : State} (on : s.transmitting = true) (sound : AttenuationSound s) :
    AttenuationSound s.writeStep := by
  obtain ⟨live, staged, zero, active⟩ := sound
  unfold State.writeStep
  split
  · exact ⟨live, staged, zero, active⟩
  · split
    · exact State.transmitDone_atten _ (AttenuationSound.phase_of_transmitting ⟨live, staged, zero, active⟩ on)
    · have bounds := Source.writeAtten_le (sources := s.settings.attenSources)
        (n := (s.margin.stepIndex + 1) * s.settings.marginStep) live
      exact ⟨bounds.1, bounds.2, fun off => absurd (on.symm.trans off) (by decide), active⟩

theorem State.announceStep_stays (s : State) : Stays s s.announceStep := by
  refine .ofAtten (by simp) fun sound => ?_
  unfold State.announceStep
  split
  · exact sound
  · exact sound.congr (by simp) (by simp) (by simp) (by simp) (by simp)

theorem State.repeatDone_stays (s : State) : Stays s s.repeatDone := by
  refine .ofAtten (by simp) fun sound => ?_
  unfold State.repeatDone
  split <;> exact sound.congr (by simp) (by simp) (by simp) (by simp) (by simp)

theorem State.takeStep_stays (b : MtestBody) (s : State) : Stays s (s.takeStep b) :=
  Stays.when fun _ => Stays.ofMarginFields rfl rfl rfl

/-- The judge of a direction is not its transmitting end: DONE at the judge ends no transmission (R186). -/
theorem AttenuationSound.judgeDone {s : State} {d : Direction} {m : Margin} (role : s.roleOf d = .judge)
    (current : m.current = s.margin.current) (states : m.states = s.margin.states.set d .done)
    (sound : AttenuationSound s) : AttenuationSound { s with margin := m } := by
  refine sound.ofStates current (fun e h => ?_) fun e transmits was => ?_
  · rw [states] at h
    by_cases same : e = d
    · subst same
      simp at h
    · rwa [ByDirection.get_set_ne _ _ same] at h
  · have other : e ≠ d := by
      rintro rfl
      simp [role] at transmits
    rw [states, ByDirection.get_set_ne _ _ other]
    exact was

theorem State.judgeResult_atten {b : MtestBody} {s : State} (role : s.roleOf b.direction = .judge)
    (sound : AttenuationSound s) : AttenuationSound (s.judgeResult b) := by
  have done := sound.judgeDone (m := { s.margin with
    results := s.margin.results.set b.direction (some (resultOf s.settings b))
    states := s.margin.states.set b.direction .done }) role rfl rfl
  exact done.rest (by simp [State.judgeResult])

/-- End B begins direction 2 as its transmitting end (R186). -/
theorem State.afterJudge_atten (d : Direction) {s : State} (phase : s.hop.phase = .margin)
    (sound : AttenuationSound s) : AttenuationSound (s.afterJudge d) := by
  unfold State.afterJudge
  split
  · next h => exact State.beginDirection_atten phase (.inl (State.roleOf_two h.2))
  · exact sound

theorem State.role_of_activeAs {s : State} {d : Direction} {role : MarginRole} (h : s.activeAs d role = true) :
    s.roleOf d = role := by
  simp only [State.activeAs, Bool.and_eq_true, beq_iff_eq] at h
  exact h.2

theorem State.takeDone_stays (b : MtestBody) (s : State) : Stays s (s.takeDone b) := by
  refine .ofAtten (by simp) fun sound => ?_
  unfold State.takeDone
  split
  · next h =>
    exact State.afterJudge_atten _ (by simpa using sound.phase_of_activeAs h)
      (State.judgeResult_atten (State.role_of_activeAs h) sound)
  · split
    · next h => exact State.judgeResult_atten h.1 sound
    · exact sound

theorem State.deliverToJudge_stays (dl : Delivery) (s : State) : Stays s (s.deliverToJudge dl) := by
  refine .ofAtten (by simp) fun sound => ?_
  unfold State.deliverToJudge State.judgeBad
  split
  · exact sound
  · split
    · exact sound.congr (by simp) (by simp) (by simp) (by simp) (by simp)
    · exact sound

theorem State.statusToJudge_atten (d : Direction) (p : MarginProgress) {s : State} (sound : AttenuationSound s) :
    AttenuationSound (s.statusToJudge d p) := by
  unfold State.statusToJudge
  split
  · next h =>
    have phase := sound.phase_of_activeAs h
    have role := State.role_of_activeAs h
    have raised : AttenuationSound { s with margin := s.margin.raiseHeard p.step } := sound.ofStates rfl (fun _ => id) fun _ _ => id
    dsimp only
    split <;> split
    · exact State.afterJudge_atten _ phase (raised.judgeDone role rfl rfl)
    · exact State.afterJudge_atten _ phase (sound.judgeDone role rfl rfl)
    · exact raised
    · exact sound
  · exact sound

theorem State.statusToTransmitter_atten (d : Direction) (p : MarginProgress) {s : State} (sound : AttenuationSound s) :
    AttenuationSound (s.statusToTransmitter d p) := by
  unfold State.statusToTransmitter
  split
  · exact sound.ofStates rfl (fun _ => id) fun _ _ => id
  · exact sound

theorem State.marginStatus_stays (p : MarginProgress) (s : State) : Stays s (s.marginStatus p) := by
  refine .ofAtten (by simp) fun sound => ?_
  have told := State.statusToTransmitter_atten .two p (State.statusToTransmitter_atten .one p sound)
  unfold State.marginStatus
  dsimp only
  split
  · exact told
  · exact State.statusToJudge_atten _ p told

/-! ### Silence, aborts and exits (R187, R188) -/

/-- A current direction that is ABORTED leaves none ACTIVE. -/
theorem Margin.abort_none_active {m : Margin} {d : Direction} (current : m.current = some d) (transmit : Bool) :
    ∀ e, (m.abort d transmit).current = some e → (m.abort d transmit).states.get e ≠ .active := by
  intro e now
  obtain rfl : d = e := Option.some.inj (current.symm.trans now)
  simp [Margin.abort]

theorem State.abortCurrent_stays (s : State) : Stays s s.abortCurrent := by
  refine .ofAtten (by simp) fun sound => ?_
  unfold State.abortCurrent
  split
  · exact sound
  · next d current =>
    split
    · unfold State.silenceAbort
      split
      · exact .ofZero (by simp) fun e now active =>
          absurd (by simpa using active) (Margin.abort_none_active current true e (by simpa using now))
      · next other =>
        exact .ofZero (by simpa using sound.zero_of_not_transmitting (State.not_transmitting current (.inr other)))
          fun e now active =>
            absurd (by simpa using active) (Margin.abort_none_active current false e (by simpa using now))
    · exact sound

/-- At the exit from MARGIN no direction is ACTIVE and no attenuation is left (R157, R188). -/
theorem State.exitMargin_idle (s : State) : s.exitMargin.src.atten = attenZero ∧
    ∀ d, s.exitMargin.margin.current = some d → s.exitMargin.margin.states.get d ≠ .active := by
  unfold State.exitMargin
  dsimp only
  split
  · next none => exact ⟨rfl, fun d now => by simp [none] at now⟩
  · next d current =>
    split
    · refine ⟨by simp, fun e now => ?_⟩
      obtain rfl : d = e := Option.some.inj (current.symm.trans (by simpa [Margin.abort] using now))
      simp [Margin.abort]
    · next quiet =>
      refine ⟨rfl, fun e now => ?_⟩
      obtain rfl : d = e := Option.some.inj (current.symm.trans now)
      exact quiet

theorem State.rerun_stays (s : State) : Stays s s.rerun := by
  refine .ofAtten (by simp) fun sound => ?_
  unfold State.rerun
  split
  · exact sound
  · next d current =>
    split
    · next waits =>
      simp only [State.rerunWaits, current, Bool.and_eq_true, beq_iff_eq] at waits
      exact State.beginDirection_atten waits.1
        (.inr (sound.zero_of_not_transmitting (State.not_transmitting current (.inl (by simp [waits.2])))))
    · exact sound

/-! ### Apply events (R154, R155) -/

theorem Staged.applyOn_le {event : Bool} {x : Staged Nat} (live : x.live ≤ 63) (staged : x.staged ≤ 63) :
    (x.applyOn event).live ≤ 63 ∧ (x.applyOn event).staged ≤ 63 := by
  unfold Staged.applyOn
  split
  · exact ⟨staged, staged⟩
  · exact ⟨live, staged⟩

/-- An apply event brings no attenuation where nothing is staged. -/
theorem AttenuationSound.apply {s t : State} {named : Bool}
    (h : t.station = s.station ∧ t.hop = s.hop ∧ t.margin = s.margin) (atten : t.src.atten = s.src.atten.applyOn named)
    (sound : AttenuationSound s) : AttenuationSound t := by
  obtain ⟨live, staged, zero, active⟩ := sound
  obtain ⟨station, hop, margin⟩ := h
  have bounds := Staged.applyOn_le (event := named) live staged
  refine ⟨atten ▸ bounds.1, atten ▸ bounds.2, fun off => ?_, by rw [margin, hop]; exact active⟩
  rw [State.transmitting_congr station (by rw [margin]) (by rw [margin])] at off
  rw [atten, Staged.applyOn_idle _ _ (by simp [zero off]), zero off]

theorem State.takeKeyingEdge_stays (s : State) : Stays s s.takeKeyingEdge :=
  Stays.when fun _ => .ofAtten (by simp) (.apply (by simp) rfl)

theorem State.takeSyncRise_stays (s : State) : Stays s s.takeSyncRise :=
  Stays.when fun _ => .ofAtten (by simp) (.apply (by simp) rfl)

theorem State.takeSyncFall_stays (s : State) : Stays s s.takeSyncFall :=
  Stays.when fun _ => Stays.ofMarginFields rfl rfl rfl

theorem State.applySecond_stays (s : State) : Stays s s.applySecond := by
  refine .ofAtten (by simp) (.apply (named := s.settings.attenSources.second) (by simp) ?_)
  unfold State.applySecond Source.applyPattern
  dsimp only
  split <;> rfl

end Sys2Proof.Machine
end

section
/-! PROOFS. The coordinator: a phase entry takes a legal target, and every proposal made names one (R126 to R145). -/

namespace Sys2Proof.Machine

/-! ### Phase entry -/

theorem State.cancelOutstanding_hop (settled : Bool) (s : State) : (s.cancelOutstanding settled).hop = s.hop := by
  simp

theorem State.enterPhase_hop (target : Phase) (cause : EntryCause) (id : Option ProposalId) (role : Antenna)
    (settled : Bool) (s : State) : (s.enterPhase target cause id role settled).hop = s.hop.enter target cause id := by
  simp [State.enterPhase]

/-- Neither a phase's exit nor an entry confirms an antenna or takes one back (R70, R71, R85). -/
theorem State.enterPhase_confirmed (target : Phase) (cause : EntryCause) (id : Option ProposalId) (role : Antenna)
    (settled : Bool) (s : State) :
    (s.enterPhase target cause id role settled).lobe.confirmed = s.lobe.confirmed := by
  have left : ∀ (p : Phase) (x : State), (x.leaveBlocks p).lobe.confirmed = x.lobe.confirmed := by
    intro p x
    cases p
    case confirm =>
      simp only [State.leaveBlocks, Analyser.leaveConfirm]
      split <;> rfl
    all_goals simp [State.leaveBlocks]
  have entered : ∀ x : State, (x.enterBlocks target id role).lobe.confirmed = x.lobe.confirmed := by
    intro x
    cases target
    case sweep => simp [State.enterBlocks, State.enterSweep, Analyser.sweepEntry]
    case confirm => simp [State.enterBlocks, State.enterConfirm, Analyser.start]
    all_goals simp [State.enterBlocks]
  simp [State.enterPhase, entered, left]

/-- At every entry but MARGIN's no direction is ACTIVE and no attenuation is left, when that was so outside MARGIN
(R157, R188). -/
theorem State.enterBlocks_atten {target : Phase} {id : Option ProposalId} {role : Antenna} {s : State}
    (phase : s.hop.phase = target)
    (idle : target = .handover ∨ target = .halted ∨
      s.src.atten = attenZero ∧ ∀ d, s.margin.current = some d → s.margin.states.get d ≠ .active) :
    AttenuationSound (s.enterBlocks target id role) := by
  have keeps : ∀ x : State, x.margin = s.margin → x.src.atten = s.src.atten → target ≠ .handover → target ≠ .halted →
      AttenuationSound x := by
    intro x margin atten notHandover notHalted
    obtain ⟨zero, none⟩ := (idle.resolve_left notHandover).resolve_left notHalted
    exact .ofZero (atten.trans zero) fun d now active => absurd (margin ▸ active) (none d (margin ▸ now))
  have exits : ∀ x : State, x.margin = (s.identEntry false).exitMargin.margin →
      x.src.atten = (s.identEntry false).exitMargin.src.atten → AttenuationSound x := by
    intro x margin atten
    obtain ⟨zero, none⟩ := State.exitMargin_idle (s.identEntry false)
    exact .ofZero (atten.trans zero) fun d now active => absurd (margin ▸ active) (none d (margin ▸ now))
  have beacon : ∀ (m : BeaconMode) (x : Source), (x.writeBeacon m).atten = x.atten := by
    intro m x
    unfold Source.writeBeacon
    split <;> rfl
  cases target
  case idle => exact keeps s rfl rfl (by decide) (by decide)
  case beacon => exact keeps s.enterBeacon (by simp) (by simp [State.enterBeacon, beacon]) (by decide) (by decide)
  case sweep => exact keeps (s.enterSweep role) (by simp) (by simp [State.enterSweep, beacon]) (by decide) (by decide)
  case confirm =>
    exact keeps (s.enterConfirm _) (by simp) (by simp [State.enterConfirm, beacon]) (by decide) (by decide)
  case soak =>
    exact keeps s.enterSoak (by simp) (by simp [State.enterSoak, beacon, Source.writePattern]) (by decide) (by decide)
  case margin =>
    obtain ⟨zero, -⟩ := (idle.resolve_left (by decide)).resolve_left (by decide)
    exact State.beginDirection_atten (by simpa using phase) (.inr (by simpa using zero))
  case handover =>
    exact exits s.enterHandover (by simp [State.enterHandover]) (by simp [State.enterHandover, Source.writePattern])
  case halted =>
    exact exits s.enterHalted (by simp [State.enterHalted]) (by simp [State.enterHalted, beacon, Source.writePattern])

/-- MARGIN is left for HANDOVER alone, HALTED apart (the table of R126). -/
theorem legalSuccessor_margin {enabled : Bool} {target : Phase} (h : legalSuccessor enabled .margin target = true) :
    target = .handover := by
  cases target <;> simp_all [legalSuccessor]

/-- The phases after CONFIRM are entered with the confirmed set full (R126, R135). -/
theorem MayEnter.confirmed {s : State} {target : Phase} (may : MayEnter s target) (sound : HopSound s)
    (late : target = .soak ∨ target = .margin ∨ target = .handover) :
    confirmedEnough s.settings.diversity s.lobe.confirmed = true := by
  obtain ⟨legal, full⟩ := may
  rcases late with rfl | rfl | rfl
  · exact full rfl
  · refine sound.2.2.2 (.inl ?_)
    cases h : s.hop.phase <;> simp_all [legalSuccessor]
  · refine sound.2.2.2 ?_
    cases h : s.hop.phase <;> simp_all [legalSuccessor]

/-- A configured station enters a target that may be entered, or halts. -/
theorem State.enterPhase_moves {target : Phase} (cause : EntryCause) (id : Option ProposalId) (role : Antenna)
    (settled : Bool) {s : State} (configured : s.station ≠ none) (target_ok : target = .halted ∨ MayEnter s target) :
    Moves s (s.enterPhase target cause id role settled) := by
  have hop := s.enterPhase_hop target cause id role settled
  have entered : (s.enterPhase target cause id role settled).hop.phase = target := by rw [hop]; rfl
  refine ⟨⟨fun sound => ⟨fun none => absurd (by simpa using none) configured, ?_, ?_, fun late => ?_⟩,
    fun _ sound => ?_⟩, fun _ => .inr (target_ok.imp (fun halted => entered.trans halted) fun may => ?_)⟩
  · simp [hop, Coordinator.enter]
  · simp [hop, Coordinator.enter]
  · rw [entered] at late
    rw [State.enterPhase_confirmed, (s.enterPhase_frame target cause id role settled).2.2.2.1]
    exact (target_ok.resolve_left (by rintro rfl; simp at late)).confirmed sound late
  · have idle : target = .handover ∨ target = .halted ∨
        s.src.atten = attenZero ∧ ∀ d, s.margin.current = some d → s.margin.states.get d ≠ .active := by
      by_cases inMargin : s.hop.phase = .margin
      · exact target_ok.elim (fun halted => .inr (.inl halted)) fun may =>
          .inl (legalSuccessor_margin (inMargin ▸ may.1))
      · exact .inr (.inr (sound.idle inMargin))
    let x := ({ s.cancelOutstanding settled with
      hop := (s.cancelOutstanding settled).hop.enter target cause id
      route := (s.cancelOutstanding settled).route.withdrawPropose } : State).leaveBlocks s.hop.phase
    have blocks : AttenuationSound (x.enterBlocks target id role) :=
      State.enterBlocks_atten (by simp [x, Coordinator.enter]) (by simpa [x] using idle)
    exact blocks.rest (by simp [State.enterPhase, x])
  · rw [entered]
    exact may.1

theorem State.halt_moves (c : HaltCause) {s : State} (configured : s.station ≠ none) : Moves s (s.halt c) :=
  State.enterPhase_moves _ _ _ _ configured (.inl rfl)

/-! ### Proposing (R130 to R133, R140) -/

/-- A station out of IDLE is configured. -/
theorem HopSound.configured {s : State} (sound : HopSound s) (out : s.hop.phase ≠ .idle) : s.station ≠ none :=
  fun none => out (sound.1 none).1

theorem State.propose_hop (target : Phase) (role : Antenna) (automatic : Bool) (s : State) :
    (s.propose target role automatic).hop = s.hop.propose (s.hop.newProposal target role automatic) := by
  simp [State.propose]

theorem State.send_stays (body : FrameBody) (s : State) : Stays s (s.send body) := Stays.rest (by simp)

/-- A proposal is made for a target that may be entered (R130, R131). -/
theorem State.propose_stays {target : Phase} (role : Antenna) (automatic : Bool) {s : State}
    (can : CanEnter s target) : Stays s (s.propose target role automatic) := by
  have made : Stays s { s with hop := s.hop.propose (s.hop.newProposal target role automatic) } :=
    Stays.ofHop rfl (fun _ p e => by cases e; exact can) fun sound _ => sound.failed_canEnter
  exact made.trans (State.send_stays _ _)

theorem State.endProposal_stays (s : State) : Stays s s.endProposal := by
  have ended : Stays s { s with hop := { s.hop with outstanding := none, answerTimer := none } } :=
    Stays.ofHop rfl (fun _ _ e => by cases e) fun sound _ => sound.failed_canEnter
  exact ended.trans (Stays.rest (by simp [State.endProposal]))

theorem State.closeProposal_stays (p : Proposal) (o : ProposalOutcome) (r : Option DeclineReason) (s : State) :
    Stays s (s.closeProposal p o r) := by
  have auto : ∀ x : State, Stays x (x.startAutoTimer p) := fun x => Stays.when fun _ => .ofHopFields rfl rfl rfl
  exact (s.endProposal_stays.trans (auto _)).trans (Stays.rest (by simp [State.closeProposal]))

theorem State.answerTimedOut_stays (s : State) : Stays s s.answerTimedOut := by
  unfold State.answerTimedOut
  split
  · exact .ofHopFields rfl (by simp [*]) rfl
  · next p e =>
    refine Stays.ite (fun _ => ?_) fun _ => ?_
    · have again : Stays s { s with
          hop := { s.hop with outstanding := some { p with attempts := p.attempts + 1 }, answerTimer := some 2000 } } :=
        Stays.ofHop rfl (fun sound q h => by
          cases h
          exact sound.outstanding_canEnter (p := p) e) fun sound _ => sound.failed_canEnter
      exact again.trans (Stays.rest (by simp [State.resend]))
    · have failed : Stays s { s with
          hop := { s.hop with failed := some { number := p.number, target := p.target, role := p.role } } } :=
        Stays.ofHop rfl (fun sound _ => sound.outstanding_canEnter) fun sound q h => by
          cases h
          exact sound.outstanding_canEnter e
      exact failed.trans (State.closeProposal_stays _ _ _ _)

/-- A target whose precondition holds may be entered when it is a legal successor (R135). -/
theorem State.mayEnter_of_checks {s : State} {target : Phase}
    (legal : legalSuccessor s.settings.marginEnabled s.hop.phase target = true)
    (ready : s.precondition target = none) : MayEnter s target := by
  refine ⟨legal, ?_⟩
  rintro rfl
  simpa [State.precondition] using ready

theorem State.autoTry_stays (s : State) : Stays s s.autoTry := by
  unfold State.autoTry
  split
  · exact Stays.refl s
  · next target auto =>
    refine Stays.ite (fun may => State.propose_stays _ _ ⟨fun none => ?_, ?_⟩) fun _ => .ofHopFields rfl rfl rfl
    · simp [State.autoTarget, none] at auto
    · simp only [State.mayPropose, Bool.and_eq_true, Option.isNone_iff_eq_none] at may
      exact State.mayEnter_of_checks may.1.2 may.2

theorem State.autoOnset_stays {s t : State} (h : Stays s t) : Stays s (s.autoOnset t) :=
  Stays.ite (fun _ => h.trans t.autoTry_stays) fun _ => h

theorem State.takeAnswerTimeout_stays (s : State) : Stays s s.takeAnswerTimeout :=
  Stays.when fun _ => s.answerTimedOut_stays

theorem State.takeAutoTimer_stays (s : State) : Stays s s.takeAutoTimer := by
  have stopped : Stays s { s with hop := { s.hop with autoTimer := none } } := .ofHopFields rfl rfl rfl
  exact Stays.when fun _ => stopped.trans (State.autoTry_stays _)

/-! ### Answering (R134 to R138) -/

theorem State.answer_stays (a : AnsweredRecord) (s : State) : Stays s (s.answer a) := by
  have sent : Stays s (s.sendAnswer a) := Stays.rest (by simp)
  exact sent.trans (.ofHopFields rfl rfl rfl)

theorem State.answer_hop (a : AnsweredRecord) (s : State) :
    (s.answer a).hop = { s.hop with lastAnswered := some a } := by
  simp [State.answer]

/-- The evaluation accepts a target that may be entered alone (R135). -/
theorem State.evaluate_none {s : State} {target : Phase} {role : Antenna} (h : s.evaluate target role = none) :
    MayEnter s target := by
  unfold State.evaluate at h
  split at h
  · cases h
  · split at h
    · cases h
    · next legal =>
      split at h
      · cases h
      · exact State.mayEnter_of_checks (by simpa using legal) h

theorem MayEnter.congr {s t : State} {target : Phase} (may : MayEnter s target) (settings : t.settings = s.settings)
    (phase : t.hop.phase = s.hop.phase) (lobe : t.lobe = s.lobe) : MayEnter t target := by
  unfold MayEnter at may ⊢
  rwa [settings, phase, lobe]

theorem State.acceptProposal_moves (proposer : Nat) {b : ProposeBody} (settled : Bool) {s : State}
    (configured : s.station ≠ none) (may : MayEnter s b.target) : Moves s (s.acceptProposal proposer b settled) :=
  (s.answer_stays _).thenMoves (State.enterPhase_moves _ _ _ _ (by simpa using configured)
    (.inr (may.congr (by simp) (by simp [State.answer_hop]) (by simp))))

theorem State.evaluateAndAnswer_moves (proposer : Nat) (b : ProposeBody) {s : State} (configured : s.station ≠ none) :
    Moves s (s.evaluateAndAnswer proposer b) := by
  unfold State.evaluateAndAnswer
  split
  · exact (s.answer_stays _).moves
  · next ok => exact State.acceptProposal_moves _ _ configured (State.evaluate_none ok)

theorem State.joinAlike_moves (proposer : Nat) (b : ProposeBody) (p : Proposal) {s : State}
    (configured : s.station ≠ none) : Moves s (s.joinAlike proposer b p) := by
  unfold State.joinAlike
  split
  · exact (s.answer_stays _).moves
  · next ok =>
    have told : Stays s (s.signalProposal p.number p.target .joined none) := Stays.rest (by simp)
    exact told.thenMoves (State.acceptProposal_moves _ _ (by simpa using configured)
      ((State.evaluate_none ok).congr (by simp) (by simp) (by simp)))

theorem State.takePropose_moves (proposer : Nat) (b : ProposeBody) {s : State} (configured : s.station ≠ none) :
    Moves s (s.takePropose proposer b) := by
  unfold State.takePropose
  have ignored : Stays s { s with hop := { s.hop with ignored := satInc 255 s.hop.ignored } } :=
    .ofHopFields rfl rfl rfl
  refine Moves.ite (fun _ => ignored.moves) fun _ => ?_
  split
  · exact (State.send_stays _ _).moves
  · split
    · exact State.evaluateAndAnswer_moves _ _ configured
    · next p _ =>
      refine Moves.ite (fun _ => State.joinAlike_moves _ _ _ configured) fun _ =>
        Moves.ite (fun _ => (s.answer_stays _).moves) fun _ => ?_
      exact (s.closeProposal_stays p .withdrawn none).thenMoves
        (State.evaluateAndAnswer_moves _ _ (by simpa using configured))

/-! ### Answers, catch-up and halts (R133, R139, R142 to R145) -/

/-- What a number and a target match is an open proposal of this station, whose target may be entered. -/
theorem HopSound.ownMatch_canEnter {s : State} (sound : HopSound s) {number : Nat} {target : Phase}
    {m : Antenna × Bool} (h : s.hop.ownMatch number target = some m) : CanEnter s target := by
  unfold Coordinator.ownMatch at h
  split at h
  · next p matched =>
    simp only [Coordinator.outstandingMatch, Option.filter_eq_some_iff, Bool.and_eq_true, beq_iff_eq] at matched
    exact matched.2.2 ▸ sound.outstanding_canEnter matched.1
  · split at h
    · next p matched =>
      simp only [Coordinator.failedMatch, Option.filter_eq_some_iff, Bool.and_eq_true, beq_iff_eq] at matched
      exact matched.2.2 ▸ sound.failed_canEnter matched.1
    · cases h

/-- A change that is a lawful move from every state that has the coordinator's law. -/
theorem Moves.ofSound {s t : State} (h : HopSound s → Moves s t) : Moves s t :=
  ⟨⟨fun sound => (h sound).hop sound, fun sound => (h sound).atten sound⟩, fun sound => (h sound).phase sound⟩

theorem State.enterMatched_moves (number : Nat) (target : Phase) (cause : EntryCause) (s : State) :
    Moves s (s.enterMatched number target cause) := by
  refine Moves.ofSound fun sound => ?_
  unfold State.enterMatched
  split
  · exact (Stays.refl s).moves
  · next m own =>
    obtain ⟨configured, may⟩ := sound.ownMatch_canEnter own
    have told : Stays s (s.signalProposal number target .accepted none) := Stays.rest (by simp)
    exact told.thenMoves (State.enterPhase_moves _ _ _ _ (by simpa using configured)
      (.inr (may.congr (by simp) (by simp) (by simp))))

/-- No proposal names HALTED or IDLE, which are no phase's successor. -/
theorem State.enterMatched_unmatched {s : State} (sound : HopSound s) (number : Nat) {target : Phase}
    (cause : EntryCause) (h : target = .halted ∨ target = .idle) : s.enterMatched number target cause = s := by
  unfold State.enterMatched
  split
  · rfl
  · next own =>
    have legal := (sound.ownMatch_canEnter own).2.1
    rcases h with rfl | rfl <;> cases p : s.hop.phase <;> simp [p, legalSuccessor] at legal

theorem State.phaseIn_iff (l : List Phase) (s : State) : s.phaseIn l = true ↔ s.hop.phase ∈ l := by
  simp [State.phaseIn]

theorem State.partnerHalt_moves (s : State) : Moves s s.partnerHalt := by
  refine Moves.ofSound fun sound => Moves.when fun h => State.halt_moves _ (sound.configured fun idle => ?_)
  simp [State.phaseIn, idle] at h

theorem State.partnerRestarted_moves (s : State) : Moves s s.partnerRestarted := by
  refine Moves.ofSound fun sound => Moves.when fun h => State.halt_moves _ (sound.configured fun idle => ?_)
  simp [State.phaseIn, idle] at h

theorem State.takeDecline_stays (b : AnswerBody) (s : State) : Stays s (s.takeDecline b) := by
  unfold State.takeDecline
  split
  · exact Stays.refl s
  · exact Stays.ite (fun _ => s.closeProposal_stays _ _ _) fun _ => s.closeProposal_stays _ _ _

theorem State.takeAnswer_moves (b : AnswerBody) (s : State) : Moves s (s.takeAnswer b) :=
  Moves.ite (fun _ => s.partnerHalt_moves) fun _ => Moves.ite (fun _ => (Stays.refl s).moves) fun _ =>
    Moves.ite (fun _ => s.enterMatched_moves _ _ _) fun _ => (s.takeDecline_stays b).moves

theorem State.countMismatch_stays (b : StatusBody) (s : State) : Stays s (s.countMismatch b) := by
  refine Stays.ite (fun _ => .ofHopFields rfl rfl rfl) fun _ => Stays.ite (fun _ => Stays.refl s) fun _ => ?_
  have counted : Stays s { s with hop := { s.hop with mismatch := s.hop.mismatch + 1 } } := .ofHopFields rfl rfl rfl
  exact Stays.ite (fun _ => counted.trans (Stays.rest (by simp))) fun _ => counted

/-- A STATUS makes one entry at most: the phase of a catch-up is neither HALTED nor IDLE, which alone halt (R139,
R142, R143). -/
theorem State.catchUp_haltsOf_moves (b : StatusBody) (s : State) : Moves s ((s.catchUp b).haltsOf b) := by
  refine Moves.ofSound fun sound => ?_
  have still : b.phase = .halted ∨ b.phase = .idle → s.catchUp b = s := fun h => by
    unfold State.catchUp
    split
    · exact State.enterMatched_unmatched sound _ _ h
    · rfl
  have caught : Moves s (s.catchUp b) := Moves.when fun _ => s.enterMatched_moves _ _ _
  unfold State.haltsOf
  split
  · next halted => rw [still (.inl halted)]; exact s.partnerHalt_moves
  · next idle => rw [still (.inr idle)]; exact s.partnerRestarted_moves
  · exact caught

theorem State.takeStatus_moves (b : StatusBody) (s : State) : Moves s (s.takeStatus b) := by
  unfold State.takeStatus
  dsimp only
  split
  · exact (s.catchUp_haltsOf_moves b).thenStays (State.countMismatch_stays _ _)
  · exact s.catchUp_haltsOf_moves b

/-! ### The cross-check (R81 to R85) -/

/-- An antenna once confirmed stays so: a result adds to the set alone (R85). -/
theorem Analyser.decide_confirmed (st : Settings) (own partner : VerdictRecord) (a : Analyser) (diversity : Bool)
    (h : confirmedEnough diversity a.confirmed = true) :
    confirmedEnough diversity (a.decide st own partner).confirmed = true := by
  simp only [confirmedEnough, Bool.and_eq_true, Bool.or_eq_true] at h ⊢
  unfold Analyser.decide
  dsimp only
  split
  · unfold addAntenna
    split
    · exact ⟨rfl, h.2⟩
    · exact ⟨h.1, .inl rfl⟩
  · exact h

theorem State.runCrossCheck_stays (s : State) : Stays s s.runCrossCheck := by
  unfold State.runCrossCheck
  split
  · next own held _ _ =>
    have decided : Stays s { s with lobe := s.lobe.decide s.settings own held } :=
      .ofLobe fun _ h => Analyser.decide_confirmed _ _ _ _ _ h
    exact decided.trans (Stays.rest (by simp))
  · exact Stays.refl s

theorem State.takeVerdict_stays (r : VerdictRecord) (s : State) : Stays s (s.takeVerdict r) := by
  have held : Stays s { s with lobe := { s.lobe with held := some r } } := .ofLobe fun _ => id
  have ignored : Stays s { s with lobe := s.lobe.countIgnored } := .ofLobe fun _ => id
  unfold State.takeVerdict
  dsimp only
  split
  · exact held
  · exact Stays.ite (fun _ => Stays.ite (fun _ => held.trans (State.runCrossCheck_stays _)) fun _ => ignored) fun _ =>
      Stays.ite (fun _ => Stays.refl s) fun _ => ignored
  · exact ignored

theorem State.takeCompletion_stays (s : State) : Stays s s.takeCompletion := by
  refine Stays.when fun _ => ?_
  have complete : Stays s { s with lobe := s.lobe.complete s.settings s.level s.map } :=
    .ofLobe fun _ h => by unfold Analyser.complete; split <;> exact h
  refine complete.trans ?_
  unfold State.handOn
  split
  · exact Stays.refl _
  · exact (Stays.rest (by simp)).trans (State.runCrossCheck_stays _)

theorem State.takeVerdictRepeat_stays (s : State) : Stays s s.takeVerdictRepeat := by
  refine Stays.when fun _ => ?_
  have again : Stays s { s with lobe := { s.lobe with repeatTimer := some 5000 } } := .ofLobe fun _ => id
  dsimp only
  split
  · exact again
  · exact again.trans (State.send_stays _ _)

end Sys2Proof.Machine
end

section
/-! PROOFS. The laws of O59 and O60 through reception, the second event, the settling of what is due and the site
port, up to the step. -/

namespace Sys2Proof.Machine

/-! ### Reception (R108 to R111) -/

/-- A frame from the partner finds a configured station. -/
theorem State.configured_of_fromPartner {h : Header} {s : State} (partner : s.fromPartner h = true) :
    s.station ≠ none := by
  intro none
  simp [State.fromPartner, none] at partner

theorem State.hearPartner_stays (s : State) : Stays s s.hearPartner := by
  have silent : Stays s { s with margin := { s.margin with silence := 0 } } := Stays.ofMarginFields rfl rfl rfl
  exact silent.trans (Stays.rest (by simp [State.hearPartner]))

/-- A frame makes one phase entry at most when its delivery does. -/
theorem State.receive_moves (f : Frame) {deliver : State → State} (h : ∀ x, x.station ≠ none → Moves x (deliver x))
    (s : State) : Moves s (s.receive f deliver) := by
  refine Moves.ite (fun _ => (Stays.refl s).moves) fun _ => ?_
  have hunted : Stays s { s with route := s.route.hunt } := Stays.rest (by simp)
  refine hunted.thenMoves (Moves.ite (fun _ => (Stays.rest (by simp)).moves) fun _ =>
    Moves.ite (fun _ => (Stays.rest (by simp)).moves) fun _ => ?_)
  have heard : ∀ x : State, Stays x (x.hearFrame f) := fun x => Stays.rest (by simp)
  refine (heard _).thenMoves (Moves.when fun partner => (State.hearPartner_stays _).thenMoves ?_)
  have configured := State.configured_of_fromPartner partner
  have given : ∀ x : State, x.station ≠ none → Moves x (if x.addressed f.header then deliver x else x) :=
    fun x some => Moves.when fun _ => h x some
  exact Moves.ite (fun _ => (given _ (by simpa using configured)).thenStays (State.rerun_stays _)) fun _ =>
    given _ (by simpa using configured)

theorem State.takeFrame_moves (f : Frame) (s : State) : Moves s (s.takeFrame f) := by
  unfold State.takeFrame
  split
  · exact s.receive_moves f fun x _ => (x.marginStatus_stays _).thenMoves (State.takeStatus_moves _ _)
  · exact s.receive_moves f fun x _ => (Stays.refl x).moves
  · exact s.receive_moves f fun x some => State.takePropose_moves _ _ some
  · exact s.receive_moves f fun x _ => x.takeAnswer_moves _
  · exact s.receive_moves f fun x _ => (x.takeVerdict_stays _).moves
  · exact s.receive_moves f fun x _ => (Stays.rest (by simp)).moves
  · exact s.receive_moves f fun x _ => (x.takeStep_stays _).moves
  · exact s.receive_moves f fun x _ => (State.autoOnset_stays (x.takeLimit_stays _)).moves
  · exact s.receive_moves f fun x _ => (State.autoOnset_stays (x.takeDone_stays _)).moves

theorem State.takeJudged_moves (j : Judged) (s : State) : Moves s (s.takeJudged j) := by
  have counted : ∀ j, Stays s { s with route := { s.route with counters := s.route.counters.countJudged j } } :=
    fun _ => Stays.rest (by simp)
  cases j with
  | good f => exact s.takeFrame_moves f
  | truncated => exact (counted _).moves
  | oversize => exact (counted _).moves
  | crcError => exact (counted _).moves
  | malformed => exact (counted _).moves

theorem State.takeCharacter_moves (b : Byte) (s : State) : Moves s (s.takeCharacter b) := by
  have taken : Stays s { s with route := { s.route with framer := (s.route.framer.take b).1 } } := Stays.rest (by simp)
  refine Moves.ite (fun _ => (Stays.refl s).moves) fun _ => ?_
  dsimp only
  split
  · exact taken.moves
  · exact taken.thenMoves (State.takeJudged_moves _ _)

theorem State.takeCharacters_lawful (bytes : List Byte) (s : State) : Lawful s (s.takeCharacters bytes) := by
  induction bytes generalizing s with
  | nil => exact .refl s
  | cons b bs ih => exact (s.takeCharacter_moves b).toLawful.trans (ih _)

/-- One character ends one frame at most. -/
theorem State.takeCharacters_moves {bytes : List Byte} (one : bytes.length ≤ 1) (s : State) :
    Moves s (s.takeCharacters bytes) := by
  match bytes with
  | [] => exact (Stays.refl s).moves
  | [b] => exact s.takeCharacter_moves b
  | _ :: _ :: _ => simp at one

theorem State.takeGap_stays (s : State) : Stays s s.takeGap := Stays.rest (by simp)

/-! ### The second event, the timers and the settling of what is due (log 3) -/

theorem State.clockEdge_stays (bit : Bool) (s : State) : Stays s (s.clockEdge bit) := by
  have sent : ∀ (ws : List (BitVec 16)) (x : Source), (x.sendBit ws).atten = x.atten := by
    intro ws x
    unfold Source.sendBit
    dsimp only
    split <;> rfl
  refine Stays.when fun _ => ?_
  have settled : Stays s s.settleChecker := Stays.rest (by simp)
  have stepped : ∀ x : State, Stays x { x with src := x.src.sendBit x.settings.words } := fun x =>
    Stays.ofMarginFields (s := x) (m := x.margin) rfl rfl (sent _ _)
  exact (settled.trans (stepped _)).trans (Stays.rest (by simp))

theorem State.secondWork_stays (s : State) : Stays s s.secondWork := by
  have checked : Stays s s.settleChecker := Stays.rest (by simp)
  have delivered : ∀ x : State, Stays x x.deliverTotals := fun x =>
    Stays.trans (Stays.rest (by simp)) (State.deliverToJudge_stays x.delivery _)
  have aged : ∀ x : State, Stays x x.ageRoster := fun x => Stays.rest (by simp)
  have ticked : ∀ x : State, Stays x x.tickDigest := fun x => Stays.rest (by simp)
  exact ((((checked.trans (delivered _)).trans (aged _)).trans (State.applySecond_stays _)).trans
    (State.secondMargin_stays _)).trans (ticked _)

theorem State.takeSecond_stays (s : State) : Stays s s.takeSecond :=
  Stays.when fun _ => State.autoOnset_stays (Stays.trans (Stays.rest (by simp)) (State.secondWork_stays _))

theorem State.takeDwell_stays (s : State) : Stays s s.takeDwell :=
  Stays.when fun _ => Stays.ofMarginFields rfl rfl rfl

theorem State.takeAnnounce_stays (s : State) : Stays s s.takeAnnounce := Stays.when fun _ => s.announceStep_stays

theorem State.takeDoneRepeat_stays (s : State) : Stays s s.takeDoneRepeat := Stays.when fun _ => s.repeatDone_stays

theorem State.takeStepWrite_stays (s : State) : Stays s s.takeStepWrite := by
  refine Stays.when fun due => State.autoOnset_stays (Stays.ofAtten (by simp) (State.writeStep_atten ?_))
  simp only [State.stepWriteDue, Bool.and_eq_true] at due
  exact due.1.1

theorem State.takeSilence_stays (s : State) : Stays s s.takeSilence := Stays.when fun _ => s.abortCurrent_stays

theorem State.takeEntryHold_stays (s : State) : Stays s s.takeEntryHold :=
  Stays.when fun _ => .ofHopFields rfl rfl rfl

theorem State.settleTick_stays (s : State) : Stays s s.settleTick := by
  have lines : Stays s s.settleLines := Stays.rest (by simp)
  exact ((lines.trans (State.takeSyncRise_stays _)).trans (State.takeSyncFall_stays _)).trans (Stays.rest (by simp [State.settleTick]))

theorem State.settleSecond_stays (s : State) : Stays s s.settleSecond := by
  have digest : ∀ x : State, Stays x x.takeDigestTimer := fun x => Stays.rest (by simp)
  exact (((((s.takeKeyingEdge_stays.trans (State.takeSecond_stays _)).trans (State.takeDwell_stays _)).trans
    (State.takeAnnounce_stays _)).trans (digest _)).trans (State.takeStepWrite_stays _)).trans
    (State.takeSilence_stays _)

theorem State.settleTimers_stays (s : State) : Stays s s.settleTimers := by
  have frames : ∀ x : State, Stays x x.takeStatusTimer.takeLevelTimer := fun x => Stays.rest (by simp)
  have supply : ∀ x : State, Stays x x.takeSupply := fun x => Stays.rest (by simp)
  have answered := (s.takeVerdictRepeat_stays.trans (frames _)).trans (State.takeAnswerTimeout_stays _)
  exact (((answered.trans (State.takeEntryHold_stays _)).trans (State.takeAutoTimer_stays _)).trans
    (State.takeDoneRepeat_stays _)).trans (supply _)

theorem State.settleRoute_stays (s : State) : Stays s s.settleRoute := by
  have analysis : Stays s s.settleAnalysis := Stays.when fun _ => s.takeCompletion_stays
  exact analysis.trans (Stays.rest (by simp [State.settleRoute]))

theorem State.settle_stays (s : State) : Stays s s.settle := by
  have checked : Stays s s.settleChecker := Stays.rest (by simp)
  have cue : ∀ x : State, Stays x x.settleCue := fun x => Stays.rest (by simp)
  have events : Stays s s.settleEvents := ((((checked.trans (State.settleTick_stays _)).trans
    (State.settleSecond_stays _)).trans (cue _)).trans (State.settleTimers_stays _)).trans (State.settleRoute_stays _)
  exact events.trans (Stays.rest (by simp [State.settle]))

/-! ### The sample event and the tick (R1, R197) -/

theorem State.tickTimers_stays (s : State) : Stays s s.tickTimers := by
  have hop : Stays s { s with hop := s.tickTimers.hop } := .ofHopFields rfl rfl rfl
  have lobe : ∀ x : State, Stays x { x with lobe := { x.lobe with repeatTimer := Timer.tick x.lobe.repeatTimer } } :=
    fun x => .ofLobe fun _ => id
  have margin : ∀ x : State, Stays x { x with margin := { x.margin with doneTimer := Timer.tick x.margin.doneTimer } } :=
    fun x => Stays.ofMarginFields (s := x) (x := x.src) rfl rfl rfl
  exact ((hop.trans (lobe _)).trans (margin _)).trans (Stays.rest (by simp [State.tickTimers]))

theorem State.sampleCounters_stays (s : State) : Stays s s.sampleCounters := by
  have keyed : ∀ (hop : Nat) (x : Source), (x.tickKeying hop).atten = x.atten := by
    intro hop x
    unfold Source.tickKeying
    split
    · split <;> rfl
    · rfl
  have figures : Stays s
      { s with margin := { s.margin with silence := min 10000 (s.margin.silence + 1) }, src := s.src.tickKeying s.ownHop } :=
    Stays.ofMarginFields rfl rfl (keyed _ _)
  have lobe : ∀ (n : Nat) (x : State), Stays x { x with lobe := { x.lobe with elapsed := n } } :=
    fun n x => .ofLobe fun _ => id
  exact (figures.trans (lobe s.sampleCounters.lobe.elapsed _)).trans (Stays.rest (by simp [State.sampleCounters]))

theorem State.sampleWork_stays (codes : ByInput Nat) (s : State) : Stays s (s.sampleWork codes) := by
  have time : Stays s { s with time := s.time.sample } := Stays.rest (by simp)
  have measured : ∀ x : State, Stays x (x.measure codes) := fun x => Stays.rest (by simp)
  exact ((time.trans (State.tickTimers_stays _)).trans (measured _)).trans (State.sampleCounters_stays _)

theorem State.cueTick_stays (s : State) : Stays s s.cueTick := by
  have sync : ∀ (l : LineState) (x : State), Stays x { x with src := { x.src with sync := l } } := fun l x =>
    Stays.ofMarginFields (s := x) (m := x.margin) rfl rfl rfl
  unfold State.cueTick
  split
  · exact (sync s.src.sync.settleFirst s).trans (Stays.rest (by simp [State.firstTick]))
  · exact s.settleTick_stays.trans ((sync s.settleTick.src.sync.tick s.settleTick).trans (Stays.rest (by simp [State.tickLines])))

/-! ### The site port's requests (R192 to R201) -/

/-- The changes of phase that a command may make: one entry at most, or the return to IDLE by a restart or a hard
reset (R126, R148, R149). -/
def PhaseLegal (s t : State) : Prop :=
  t.hop.phase = s.hop.phase ∨ t.hop.phase = .halted ∨
    legalSuccessor s.settings.marginEnabled s.hop.phase t.hop.phase = true ∨
    t.hop = s.hop.restart ∨ t.hop = Coordinator.reset

/-- A lawful change with a legal change of phase. -/
structure Acts (s t : State) : Prop extends Lawful s t where
  phase : HopSound s → PhaseLegal s t

theorem Moves.acts {s t : State} (h : Moves s t) : Acts s t :=
  ⟨h.toLawful, fun sound => (h.phase sound).imp_right fun g => g.imp_right .inl⟩

theorem Stays.acts {s t : State} (h : Stays s t) : Acts s t := h.moves.acts

theorem Acts.ite {s t u : State} {p : Prop} [Decidable p] (h : p → Acts s t) (g : ¬ p → Acts s u) :
    Acts s (if p then t else u) := by
  split
  · exact h ‹_›
  · exact g ‹_›

/-- A command's work after one that left every register of the laws as it was. -/
theorem Acts.afterRest {s x t : State} (h : Stays s x) (hop : x.hop = s.hop) (g : Acts x t) : Acts s t :=
  ⟨h.toLawful.trans g.toLawful, fun sound => by
    simpa only [PhaseLegal, hop, h.settings] using g.phase (h.hop sound)⟩

theorem State.request_acts {handle : State → State} (h : ∀ x, Acts x (handle x)) (s : State) :
    Acts s (s.request handle) := by
  have hunted : Stays s { s with site := s.site.hunt } := Stays.rest (by simp)
  exact .afterRest hunted rfl (Acts.ite (fun _ => h _) fun _ => (Stays.rest (by simp)).acts)

/-- A record is accepted in IDLE, with no proposal open and no attenuation (R191, R196). -/
theorem State.takeRecord_moves (r : SetupRecord) {s : State} (unconfigured : s.station = none) :
    Moves s (s.takeRecord r) := by
  refine ⟨⟨fun sound => ?_, fun sound a => ?_⟩, fun _ => .inl rfl⟩
  · obtain ⟨idle, outstanding, failed⟩ := sound.1 unconfigured
    exact ⟨nofun, fun p e => absurd (outstanding.symm.trans e) (by simp),
      fun p e => absurd (failed.symm.trans e) (by simp), fun late => by simp [idle] at late⟩
  · obtain ⟨zero, none⟩ := a.idle (by simp [(sound.1 unconfigured).1])
    exact .ofZero zero fun d now active => absurd active (none d now)

theorem State.answerSetup_acts (r : SetupRecord) (s : State) : Acts s (s.answerSetup r) := by
  refine Acts.ite (fun _ => (Stays.rest (by simp)).acts) fun _ =>
    Acts.ite (fun _ => (Stays.rest (by simp)).acts) fun unconfigured => ?_
  have free : s.station = none := by simpa [State.configured] using unconfigured
  split
  · exact (Stays.rest (by simp)).acts
  · have settled : Stays s (s.accept (.setup (clampedFields r))).settleLines := Stays.rest (by simp)
    have roster : ∀ x : State, Stays x (x.settleRoster (takeStation r)).sendStatus := fun x => Stays.rest (by simp)
    exact ((settled.thenMoves (State.takeRecord_moves r (by simpa using free))).thenStays (roster _)).acts

/-- The checks of R130 pass a target that may be entered alone. -/
theorem State.canEnter_of_accepted {s : State} {target : Phase} {role : Antenna}
    (h : s.advanceRefusal target role = none) : CanEnter s target := by
  unfold State.advanceRefusal at h
  split at h
  · cases h
  · next configured =>
    repeat
      split at h
      · cases h
    next legal =>
      exact ⟨by simpa [State.configured, Option.isSome_iff_ne_none] using configured,
        State.mayEnter_of_checks (by simpa using legal) (by simpa using h)⟩

theorem State.answerAdvance_acts (target role : Byte) (s : State) : Acts s (s.answerAdvance target role) := by
  unfold State.answerAdvance
  split
  · unfold State.advance
    split
    · exact (Stays.rest (by simp)).acts
    · next p r _ _ _ accepted =>
      obtain ⟨configured, may⟩ := State.canEnter_of_accepted accepted
      exact ((Stays.rest (by simp)).trans (State.propose_stays _ _ ⟨by simpa using configured,
        may.congr (by simp) (by simp) (by simp)⟩)).acts
  · exact (Stays.rest (by simp)).acts

theorem State.answerAbort_acts (s : State) : Acts s s.answerAbort := by
  refine Acts.ite (fun _ => (Stays.rest (by simp)).acts) fun configured =>
    Acts.ite (fun _ => (Stays.rest (by simp)).acts) fun _ => ?_
  have taken : Stays s (s.accept .abort) := Stays.rest (by simp)
  exact (taken.thenMoves (State.halt_moves _ (by
    simpa [State.configured, Option.isSome_iff_ne_none] using configured))).acts

/-- A restart leaves no proposal, no ACTIVE direction and no attenuation (R149, R165, R190). -/
theorem State.answerRestart_acts (s : State) : Acts s s.answerRestart := by
  refine Acts.ite (fun _ => ?_) fun _ => (Stays.rest (by simp)).acts
  have left : Stays s s.leaveByRestart := Stays.rest (by simp)
  have blocks : ∀ x : State, Acts x x.restartBlocks := fun x =>
    ⟨⟨fun _ => ⟨fun _ => ⟨rfl, rfl, rfl⟩, nofun, nofun, by rintro (h | h | h) <;> cases h⟩, fun _ _ => .ofZero rfl fun d now => by cases now⟩,
      fun _ => .inr (.inr (.inr (.inl rfl)))⟩
  have told : ∀ x : State, Stays x (x.accept .restart).sendStatus := fun x => Stays.rest (by simp)
  refine .afterRest left (by simp) ⟨(blocks _).toLawful.trans (told _).toLawful, fun _ => ?_⟩
  exact .inr (.inr (.inr (.inl (by simp [State.restartBlocks]))))

theorem State.handleRequest_acts (r : Request) (s : State) : Acts s (s.handleRequest r) := by
  cases r with
  | setup record => exact s.answerSetup_acts record
  | query k => cases k <;> exact (Stays.rest (by simp [State.handleRequest])).acts
  | mapCell c r => exact (Stays.rest (by simp [State.handleRequest])).acts
  | advance t r => exact s.answerAdvance_acts t r
  | abort => exact s.answerAbort_acts
  | restart => exact s.answerRestart_acts
  | zero => exact (Stays.rest (by simp [State.handleRequest])).acts
  | cue b => exact (Stays.rest (by simp [State.handleRequest])).acts
  | reports m => exact (Stays.rest (by simp [State.handleRequest])).acts

theorem State.answerMessage_acts (type : Byte) (body : List Byte) (s : State) : Acts s (s.answerMessage type body) := by
  unfold State.answerMessage
  split
  · exact s.handleRequest_acts _
  · exact (Stays.rest (by simp)).acts

theorem State.takeSiteCharacter_acts (b : Byte) (s : State) : Acts s (s.takeSiteCharacter b) := by
  have site : ∀ p : Site, Acts s { s with site := p } := fun _ => (Stays.rest (by simp)).acts
  unfold State.takeSiteCharacter
  split
  · exact Acts.ite (fun _ => site _) fun _ => (Stays.refl s).acts
  · refine Acts.ite (fun _ => site _) fun _ => Acts.ite (fun _ => ?_) fun _ => site _
    unfold State.takeMessage
    split
    · exact s.request_acts fun x => x.answerMessage_acts _ _
    · exact site _

theorem State.takeSiteCharacters_lawful (bytes : List Byte) (s : State) : Lawful s (s.takeSiteCharacters bytes) := by
  induction bytes generalizing s with
  | nil => exact .refl s
  | cons b bs ih => exact (s.takeSiteCharacter_acts b).toLawful.trans (ih _)

theorem State.takeSiteCharacters_acts {bytes : List Byte} (one : bytes.length ≤ 1) (s : State) :
    Acts s (s.takeSiteCharacters bytes) := by
  match bytes with
  | [] => exact (Stays.refl s).acts
  | [b] => exact s.takeSiteCharacter_acts b
  | _ :: _ :: _ => simp at one

theorem State.hardReset_acts (s : State) : Acts s s.hardReset := by
  obtain ⟨-, -, -, -, -, hop, -⟩ := Proofs.resetHasTheInvariants
  exact ⟨⟨fun _ => hop, fun _ _ => .ofZero rfl fun d now => by cases now⟩,
    fun _ => .inr (.inr (.inr (.inr rfl)))⟩

/-! ### Every command, and the step -/

/-- A row that brings one character at most, where it brings characters at all (log 16, 17). -/
def OneCharacter (c : Instr) : Prop :=
  ∀ bytes, c = .routeFrameDiscarded bytes ∨ c = .siteChecksumError bytes → bytes.length ≤ 1

/-- A command keeps the laws, and changes the phase legally when it brings one character at most. -/
structure ExecActs (c : Instr) : Prop where
  lawful : ∀ s t : State, exec c s = .next t → Lawful s t
  acts : OneCharacter c → ∀ s t : State, exec c s = .next t → Acts s t

theorem ExecActs.of {c : Instr} {f : State → State} (h : ∀ s, Acts s (f s)) (runs : ∀ s, exec c s = .next (f s)) :
    ExecActs c := by
  have acts : ∀ s t : State, exec c s = .next t → Acts s t := by
    intro s t e
    cases (runs s).symm.trans e
    exact h s
  exact ⟨fun s t e => (acts s t e).toLawful, fun _ => acts⟩

theorem ExecActs.stays {c : Instr} {f : State → State} (h : ∀ s, Stays s (f s)) (runs : ∀ s, exec c s = .next (f s)) :
    ExecActs c :=
  .of (fun s => (h s).acts) runs

theorem receiveRow_acts (f : Frame) : ExecActs (receiveRow f) :=
  .of (fun s => (s.takeFrame_moves f).acts) (exec_receiveRow f)

theorem request_acts {c : Instr} {handle : State → State} (h : ∀ x : State, Acts x (handle x))
    (runs : ∀ s, exec c s = .next (s.request handle)) : ExecActs c :=
  .of (fun s => s.request_acts h) runs

/-- A query's reply changes none of the laws' registers. -/
theorem query_acts {c : Instr} {k : QueryKind}
    (runs : ∀ s, exec c s = .next (s.request (State.handleRequest (.query k)))) : ExecActs c :=
  request_acts (State.handleRequest_acts (.query k)) runs

theorem exec_acts (c : Instr) : ExecActs c := by
  have rest : ∀ {f : State → State},
      (∀ s, (f s).station = s.station ∧ (f s).settings = s.settings ∧ (f s).hop = s.hop ∧ (f s).lobe = s.lobe ∧
        (f s).margin = s.margin ∧ (f s).src = s.src) → ∀ s, Stays s (f s) := fun h s => Stays.rest (h s)
  cases c
  case hardReset => exact .of State.hardReset_acts fun _ => rfl
  case sampleEvent codes => exact .stays (fun s => s.settle_stays.trans (State.sampleWork_stays codes _)) fun _ => rfl
  case rangeWarningClear i => exact .stays (rest (f := State.takeWarningClear i) (by simp)) fun _ => rfl
  case fadeStart r l => exact .stays (rest (f := State.takeFadeSample false r l) (by simp)) fun _ => rfl
  case fadeEnd r l => exact .stays (rest (f := State.takeFadeSample true r l) (by simp)) fun _ => rfl
  case blockClose l => exact .stays (fun s => Stays.when fun _ => Stays.rest (t := s.identSample l) (by simp)) fun _ => rfl
  case encoderTransition x => exact .stays (rest (f := State.takeTransition x) (by simp)) fun _ => rfl
  case analysisComplete => exact .stays State.takeCompletion_stays fun _ => rfl
  case verdictRepeat => exact .stays State.takeVerdictRepeat_stays fun _ => rfl
  case cueUpdate => exact .stays (rest (f := State.takeCueUpdate) (by simp)) fun _ => rfl
  case staleCadence => exact .stays (rest (f := State.takeStaleCadence) (by simp)) fun _ => rfl
  case foreignCadence => exact .stays (rest (f := State.takeForeignCadence) (by simp)) fun _ => rfl
  case toneToggle => exact .stays (rest (f := State.takeToggle) (by simp)) fun _ => rfl
  case meterPeriodStart => exact .stays (rest (f := State.takePeriodStart) (by simp)) fun _ => rfl
  case setup r => exact request_acts (State.answerSetup_acts r) fun _ => rfl
  case queryStatus => exact query_acts (k := .status) fun _ => rfl
  case queryLevels => exact query_acts (k := .levels) fun _ => rfl
  case queryPosition => exact query_acts (k := .position) fun _ => rfl
  case queryMapCell c r => exact request_acts (State.handleRequest_acts (.mapCell c r)) fun _ => rfl
  case queryMapSummary => exact query_acts (k := .mapSummary) fun _ => rfl
  case queryLobes => exact query_acts (k := .lobes) fun _ => rfl
  case queryVerdict => exact query_acts (k := .verdict) fun _ => rfl
  case queryRoster => exact query_acts (k := .roster) fun _ => rfl
  case querySoak => exact query_acts (k := .soak) fun _ => rfl
  case queryFades => exact query_acts (k := .fades) fun _ => rfl
  case queryMargin => exact query_acts (k := .margin) fun _ => rfl
  case queryHandover => exact query_acts (k := .handover) fun _ => rfl
  case advance t r => exact request_acts (State.answerAdvance_acts t r) fun _ => rfl
  case abort => exact request_acts State.answerAbort_acts fun _ => rfl
  case restart => exact request_acts State.answerRestart_acts fun _ => rfl
  case zero => exact request_acts (State.handleRequest_acts .zero) fun _ => rfl
  case cue b => exact request_acts (State.handleRequest_acts (.cue b)) fun _ => rfl
  case reports m => exact request_acts (State.handleRequest_acts (.reports m)) fun _ => rfl
  case unknownRequest type body => exact request_acts (State.answerMessage_acts type body) fun _ => rfl
  case siteFramingError n =>
    exact .stays (rest (f := fun s => { s with site := s.site.framing n }) (by simp)) fun _ => rfl
  case siteGapTimeout cut =>
    have gap : ∀ s : State, Acts s ({ s with site := s.site.gap }.takeSiteCharacters cut.next.toList) := fun s =>
      .afterRest (Stays.rest (t := { s with site := s.site.gap }) (by simp)) rfl
        (State.takeSiteCharacters_acts Option.length_toList_le _)
    exact .of (fun s => Acts.ite (fun _ => gap s) fun _ => (Stays.refl s).acts) fun _ => rfl
  case siteChecksumError bytes =>
    refine ⟨fun s t e => ?_, fun one s t e => ?_⟩ <;> cases e
    · exact s.takeSiteCharacters_lawful bytes
    · exact State.takeSiteCharacters_acts (one bytes (.inr rfl)) s
  case siteMessageTransmit => exact .stays (rest (f := fun s => { s with site := s.site.transmit }) (by simp)) fun _ => rfl
  case routeFrameDiscarded bytes =>
    refine ⟨fun s t e => ?_, fun one s t e => ?_⟩ <;> cases e
    · exact s.takeCharacters_lawful bytes
    · exact (State.takeCharacters_moves (one bytes (.inl rfl)) s).acts
  case routeGapTimeout cut =>
    exact .of (fun s => (Moves.when fun _ => s.takeGap_stays.thenMoves
      (State.takeCharacters_moves Option.length_toList_le _)).acts) fun _ => rfl
  case receiveStatus h b => exact receiveRow_acts { header := h, body := .status b }
  case receiveLevel h b => exact receiveRow_acts { header := h, body := .level b }
  case receivePropose h b => exact receiveRow_acts { header := h, body := .propose b }
  case receiveAnswer h b => exact receiveRow_acts { header := h, body := .answer b }
  case receiveVerdict h b => exact receiveRow_acts { header := h, body := .verdict b }
  case receiveDigest h b => exact receiveRow_acts { header := h, body := .digest b }
  case mtestStep h b => exact receiveRow_acts { header := h, body := .mtest .step b }
  case mtestLimit h b => exact receiveRow_acts { header := h, body := .mtest .limit b }
  case mtestDone h b => exact receiveRow_acts { header := h, body := .mtest .done b }
  case carrierBusyHigh => exact .stays (rest (f := fun s => { s with route := s.route.carrierHigh }) (by simp)) fun _ => rfl
  case carrierBusyLow => exact .stays (rest (f := fun s => { s with route := s.route.carrierLow }) (by simp)) fun _ => rfl
  case guardComplete => exact .stays (rest (f := State.takeGuardComplete) (by simp)) fun _ => rfl
  case backoffSlotEnd => exact .stays (rest (f := State.takeSlotEnd) (by simp)) fun _ => rfl
  case transmissionComplete =>
    exact .stays (fun s => Stays.when fun _ => Stays.rest (t := s.finishTransmission) (by simp)) fun _ => rfl
  case statusTimerExpiry => exact .stays (rest (f := State.takeStatusTimer) (by simp)) fun _ => rfl
  case levelTimerExpiry => exact .stays (rest (f := State.takeLevelTimer) (by simp)) fun _ => rfl
  case answerTimeout => exact .stays State.takeAnswerTimeout_stays fun _ => rfl
  case entryHoldExpiry => exact .stays State.takeEntryHold_stays fun _ => rfl
  case automaticTimerExpiry => exact .stays State.takeAutoTimer_stays fun _ => rfl
  case secondEvent => exact .stays State.takeSecond_stays fun _ => rfl
  case keyingEdge => exact .stays State.takeKeyingEdge_stays fun _ => rfl
  case syncPin => exact .stays State.takeSyncRise_stays fun _ => rfl
  case syncWordFound => exact .stays (rest (f := State.takeSyncWord) (by simp)) fun _ => rfl
  case patternWordComplete => exact .stays (rest (f := State.takeWordComplete) (by simp)) fun _ => rfl
  case wordIntervalEnd => exact .stays (rest (f := State.takeIntervalEnd) (by simp)) fun _ => rfl
  case digestTimerExpiry => exact .stays (rest (f := State.takeDigestTimer) (by simp)) fun _ => rfl
  case dwellExpiry => exact .stays State.takeDwell_stays fun _ => rfl
  case marginStepWrite => exact .stays State.takeStepWrite_stays fun _ => rfl
  case stepAnnounce => exact .stays State.takeAnnounce_stays fun _ => rfl
  case doneRepeat => exact .stays State.takeDoneRepeat_stays fun _ => rfl
  case silenceAbort => exact .stays State.takeSilence_stays fun _ => rfl
  case supplyCrossing mv =>
    exact .stays (rest (f := fun s => { s with supply := s.supply.take (supplyLevel s.settings.supplyLow) mv }) (by simp))
      fun _ => rfl
  case supplyDebounceExpiry => exact .stays (rest (f := State.takeSupply) (by simp)) fun _ => rfl
  case encoderLineChange x l high =>
    exact .stays (rest (f := fun s => (s.takeTransition x).driveLine x l high) (by simp)) fun _ => rfl
  case syncInputChange high =>
    have driven : ∀ s : State, Stays s (s.driveSync high) := fun s => Stays.ofMarginFields (m := s.margin) rfl rfl rfl
    exact .stays (fun s => (s.takeSyncRise_stays.trans (State.takeSyncFall_stays _)).trans (driven _)) fun _ => rfl
  case syncFilteredFall => exact .stays State.takeSyncFall_stays fun _ => rfl
  case patternClockEdge bit => exact .stays (State.clockEdge_stays bit) fun _ => rfl

/-- Every step keeps the coordinator's and the attenuation's laws. -/
theorem step_lawful {s t : State} (h : step s = .next t) : Lawful s t := by
  unfold step at h
  split at h
  · cases h
    exact s.cueTick_stays.toLawful
  · next c rest _ =>
    have taken : Stays s { s with pending := rest } := Stays.rest (by simp)
    exact taken.toLawful.trans ((exec_acts c).lawful { s with pending := rest } t h)

/-- A step whose row brings one character at most changes the phase legally. -/
theorem step_phaseLegal {s t : State} (h : step s = .next t) (sound : HopSound s)
    (one : ∀ c, s.pending.head? = some c → OneCharacter c) : PhaseLegal s t := by
  unfold step at h
  split at h
  · cases h
    exact s.cueTick_stays.acts.phase sound
  · next c rest pending =>
    have taken : Stays s { s with pending := rest } := Stays.rest (by simp)
    exact (Acts.afterRest taken rfl ((exec_acts c).acts (one c (by simp [pending])) _ t h)).phase sound

end Sys2Proof.Machine

namespace Sys2Proof.Proofs

open Sys2Proof Sys2Proof.Machine

/-- Settles O59: a phase entry is made for a legal target alone, and a row of many characters is its characters one
after another (R85, R126, R131, R148, R149). -/
theorem phasesChangeLegally : Obligations.PhasesChangeLegally := by
  refine ⟨fun s t first rest => ⟨fun h => ?_, fun h => ?_⟩, fun s t sound h => ⟨(step_lawful h).hop sound, fun one => ?_⟩⟩
  · cases h
    exact congrArg Host.Outcome.next (State.takeCharacters_append first rest s)
  · cases h
    exact congrArg Host.Outcome.next (State.takeSiteCharacters_append first rest s)
  · refine step_phaseLegal h sound fun c head bytes row => one bytes ?_
    rw [head]
    exact row.imp (congrArg _) (congrArg _)

/-- Settles O60: the attenuation's part of what every step keeps (R152, R157, R187, R188). -/
theorem attenuationStaysSafe : Obligations.AttenuationStaysSafe := fun _ _ sound safe h =>
  (step_lawful h).atten sound safe

end Sys2Proof.Proofs
end

section
/-! PROOFS. RESTART (R125, R149, R165, R190, R200, R201): the blocks after it, and the STATUS that stands in the slot
alone (O6). -/

namespace Sys2Proof.Machine

/-- The queue being empty and the channel's idle time 0, a frame waits in the slot for the guard (R117, R120). -/
theorem Route.enqueue_restart (draws : Nat) (q : QFrame) (r : Route) :
    r.restart.enqueue draws q = (draws, { r.restart with inFlight := some q, contention := .defer }) := by
  have joined : r.restart.joinQueue q = { r.restart with waiting := [q] } :=
    Route.joinQueue_room q r.restart (by simp [Route.restart]) (by simp [Route.restart])
  rw [Route.enqueue, joined]
  simp [Route.feedSlot, Route.enterSlot, Route.restart, Route.guardPassed]

/-- The exit from HANDOVER touches the record and the site port alone (R200). -/
theorem State.leaveByRestart_eq (s : State) :
    s.leaveByRestart = { s with handover := s.leaveByRestart.handover, site := s.leaveByRestart.site } := by
  unfold State.leaveByRestart State.handoverIncomplete
  split
  · split
    · rfl
    · split <;> rfl
  · rfl

/-- A record still PENDING in HANDOVER turns INCOMPLETE, with its event; any other stays (R200). -/
theorem State.leaveByRestart_record (s : State) :
    let pending := s.hop.phase = .handover ∧ ∃ h, s.handover = some h ∧ h.overall = .pending
    (¬ pending → s.leaveByRestart = s) ∧
      (∀ h, pending → s.handover = some h →
        s.leaveByRestart = s.setOverall h .incomplete) := by
  unfold State.leaveByRestart State.handoverIncomplete
  constructor
  · intro settled
    split
    · next handover =>
      split
      · rfl
      · next h record => exact if_neg fun pending => settled ⟨handover, h, record, pending⟩
    · rfl
  · rintro h ⟨handover, g, record, pending⟩ found
    obtain rfl : g = h := Option.some.inj (record.symm.trans found)
    simp [handover, record, pending]

/-- An event whose report finds room in the queue changes no counter (R193). -/
theorem Site.signal_counters (r : Report) {p : Site} (room : p.out.length < 8) : (p.signal r).counters = p.counters := by
  unfold Site.signal Site.queueReport
  dsimp only
  split
  · rw [Site.raiseFlag_length, if_pos (by simpa [outLimit] using room)]
    rfl
  · rfl

/-- A configured station's RESTART, with the STATUS and its timer's draw (R121, R125, R149, R201). -/
theorem State.answerRestart_configured {st : Station} {s : State} (h : s.station = some st) :
    ∃ n, 2000 ≤ n ∧ n ≤ 2499 ∧
      let x := s.leaveByRestart.restartBlocks.accept .restart
      s.answerRestart =
        { x with
          draws := s.draws + 1
          route :=
            { s.route.restart with
              inFlight := some { frame := buildFrame st (.status (statusShown st x)), resend := false }
              contention := .defer, statusTimer := some n } } := by
  have station : (s.leaveByRestart.restartBlocks.accept .restart).station = some st := by simp [h]
  obtain ⟨n, low, high, sent⟩ := State.sendStatus_queuedFor st _ station
  refine ⟨n, low, high, ?_⟩
  have route : (s.leaveByRestart.restartBlocks.accept .restart).route = s.route.restart := by
    simp [State.restartBlocks]
  simp only [State.answerRestart, State.configured, h, Option.isSome_some, if_true, sent, route, queuedFor,
    Route.enqueue_restart]
  simp

end Sys2Proof.Machine

namespace Sys2Proof.Proofs

open Sys2Proof Sys2Proof.Machine

/-- Settles O6: each block takes its state after a restart, and the STATUS that is queued last fills the empty slot. -/
theorem restartReturnsToIdle : Obligations.RestartReturnsToIdle := by
  refine ⟨fun s unconfigured room => ?_, fun st s configured room => ?_⟩
  · show Host.Outcome.next (s.request State.answerRestart) = _
    rw [State.request_taken _ _ room]
    simp [State.answerRestart, State.configured, unconfigured, State.refuse, Site.queueReply, typeRestart]
  · let x : State := { s with site := { s.site with framer := .hunting } }
    obtain ⟨n, low, high, answer⟩ := State.answerRestart_configured (s := x) configured
    refine ⟨x.answerRestart, congrArg Host.Outcome.next (State.request_taken _ _ room), ?_⟩
    obtain ⟨record, port, left⟩ : ∃ r p, x.leaveByRestart = { x with handover := r, site := p } :=
      ⟨_, _, x.leaveByRestart_eq⟩
    obtain ⟨settled, pending⟩ := x.leaveByRestart_record
    have same : port.sending = s.site.sending ∧ port.mask = s.site.mask ∧ port.counters = s.site.counters := by
      by_cases open_ : s.hop.phase = .handover ∧ ∃ h, s.handover = some h ∧ h.overall = .pending
      · obtain ⟨inside, h, found, overall⟩ := open_
        have told := congrArg State.site (left.symm.trans (pending h ⟨inside, h, found, overall⟩ found))
        obtain ⟨-, sending, mask⟩ := Site.signal_fields (.handover .incomplete) x.site
        rw [show port = x.site.signal (.handover .incomplete) from told]
        exact ⟨sending, mask, Site.signal_counters _ room⟩
      · have stays := congrArg State.site (left.symm.trans (settled open_))
        rw [show port = x.site from stays]
        exact ⟨rfl, rfl, rfl⟩
    rw [left] at answer settled pending
    rw [answer]
    refine ⟨rfl, rfl, rfl, rfl, fun r => ?_, fun a => ?_, rfl, rfl, ⟨n, rfl, low, high⟩, rfl, rfl, same.1, same.2.1,
      same.2.2, fun out => ?_, fun h inside found => ?_⟩
    · cases r <;> exact ⟨rfl, rfl, rfl, rfl, rfl⟩
    · cases a <;> rfl
    · have stays := settled out
      exact ⟨(congrArg State.handover stays :), (congrArg (fun y => y.site.flags) stays :)⟩
    · have told := pending h inside found
      refine ⟨(congrArg State.handover told :), fun f => ?_⟩
      rw [show port = x.site.signal (.handover .incomplete) from (congrArg State.site told :)]
      exact (Site.mem_signal_flags _ _ _).trans or_comm

end Sys2Proof.Proofs
end

section
/-! PROOFS. What a sample event does to each block (R1, R31): the layer that the statements about sample events use. -/

namespace Sys2Proof.Machine

/-! ### Flags stay set (R194) -/

/-- Every flag set in s is set in t. -/
def FlagsKept (s t : State) : Prop := ∀ f, f ∈ s.site.flags → f ∈ t.site.flags

theorem FlagsKept.refl (s : State) : FlagsKept s s := fun _ => id

theorem FlagsKept.trans {s t u : State} (h : FlagsKept s t) (g : FlagsKept t u) : FlagsKept s u := fun f => g f ∘ h f

theorem FlagsKept.ofFlags {s t : State} (h : t.site.flags = s.site.flags) : FlagsKept s t := fun f => by rw [h]; exact id

theorem FlagsKept.ofSite {s t : State} (h : t.site = s.site) : FlagsKept s t := .ofFlags (by rw [h])

theorem FlagsKept.ite {s t u : State} {p : Prop} [Decidable p] (h : FlagsKept s t) (g : FlagsKept s u) :
    FlagsKept s (if p then t else u) := by
  split
  · exact h
  · exact g

theorem State.signal_flagsKept (r : Report) (s : State) : FlagsKept s (s.signal r) := fun f h =>
  (s.site.mem_signal_flags r f).mpr (.inr h)

/-- An event's own flag is set. -/
theorem State.event_mem_signal (r : Report) (s : State) : r.event ∈ (s.signal r).site.flags :=
  (s.site.mem_signal_flags r r.event).mpr (.inl rfl)

theorem State.sampleInput_flagsKept (codes : ByInput Nat) (i : Input) (s : State) :
    FlagsKept s (s.sampleInput codes i) := by
  unfold State.sampleInput
  exact .ite (State.signal_flagsKept _ _) (.refl _)

theorem State.deliverFades_flagsKept (r : Role) (e : Option FadeEvent) (s : State) :
    FlagsKept s (s.deliverFades r e) := by
  cases e with
  | none => exact .refl s
  | some e => exact State.signal_flagsKept _ _

theorem State.sampleChannel_flagsKept (gate : Option Level) (r : Role) (s : State) :
    FlagsKept s (s.sampleChannel gate r) := fun f h =>
  State.deliverFades_flagsKept r _ { s with level := _ } f h

theorem State.signalIdent_flagsKept (before : IdentState) (s : State) : FlagsKept s (s.signalIdent before) := by
  unfold State.signalIdent
  refine .ite (.refl s) ?_
  dsimp only
  split
  · exact (s.signal_flagsKept _).trans (State.signal_flagsKept _ _)
  · exact s.signal_flagsKept _

theorem State.identSample_flagsKept (level : Level) (s : State) : FlagsKept s (s.identSample level) := fun f h =>
  State.signalIdent_flagsKept _ { s with ident := _ } f h

theorem State.sampleCounters_flagsKept (s : State) : FlagsKept s s.sampleCounters := .ofFlags rfl

/-- From the first input on, a sample event's own work clears no flag. -/
theorem State.sampleChannels_flagsKept (gate : Option Level) (s : State) : FlagsKept s (s.sampleChannels gate) :=
  (((s.sampleChannel_flagsKept gate _).trans (State.sampleChannel_flagsKept gate _ _)).trans
    (State.sampleChannel_flagsKept gate _ _)).trans (State.sampleChannel_flagsKept gate _ _)

/-! ### The inputs (R2 to R4) -/

/-- Each input has taken its own code once all four have converted, and nothing else of the level unit moved (R1). -/
theorem State.sampleInputs_get (codes : ByInput Nat) (i : Input) (s : State) :
    (s.sampleInputs codes).level.inputs.get i =
      ((s.level.inputs.get i).take (s.settings.calibration.get i) (codes.get i)).1 := by
  cases i <;> simp [State.sampleInputs, State.sampleInput_level, ByInput.get_set_ne]

/-- The rest of the measuring leaves the inputs as they converted (R1). -/
theorem State.measure_inputs (codes : ByInput Nat) (s : State) :
    (s.measure codes).level.inputs = (s.sampleInputs codes).level.inputs := by
  simp [State.measure, State.sampleChannels, State.sampleChannel_level]

/-- An input after a SAMPLE_EVENT (R2 to R4). -/
theorem State.sampleWork_input (codes : ByInput Nat) (i : Input) (s : State) :
    (s.sampleWork codes).level.inputs.get i =
      ((s.level.inputs.get i).take (s.settings.calibration.get i) (codes.get i)).1 := by
  simp [State.sampleWork, State.measure_inputs, State.sampleInputs_get, State.tickTimers]

/-- The warning's event of one input (R3). -/
theorem State.sampleInput_event {codes : ByInput Nat} {i : Input} {s : State}
    (raised : ((s.level.inputs.get i).take (s.settings.calibration.get i) (codes.get i)).2 = true) :
    EventFlag.range i ∈ (s.sampleInput codes i).site.flags := by
  simp only [State.sampleInput, raised, if_true]
  exact State.event_mem_signal _ _

/-- An input whose warning is raised has its event's flag set (R3). -/
theorem State.sampleInputs_event {codes : ByInput Nat} {i : Input} {s : State}
    (raised : ((s.level.inputs.get i).take (s.settings.calibration.get i) (codes.get i)).2 = true) :
    EventFlag.range i ∈ (s.sampleInputs codes).site.flags := by
  have later : ∀ (j : Input) (x : State), EventFlag.range i ∈ x.site.flags →
      EventFlag.range i ∈ (x.sampleInput codes j).site.flags := fun j x => x.sampleInput_flagsKept codes j _
  unfold State.sampleInputs
  cases i
  case detA => exact later _ _ (later _ _ (later _ _ (State.sampleInput_event raised)))
  case detB =>
    refine later _ _ (later _ _ (State.sampleInput_event ?_))
    simpa [State.sampleInput_input_ne] using raised
  case detC =>
    refine later _ _ (State.sampleInput_event ?_)
    simpa [State.sampleInput_input_ne] using raised
  case detD =>
    refine State.sampleInput_event ?_
    simpa [State.sampleInput_input_ne] using raised

/-- The measuring blocks clear none of the flags that the inputs set. -/
theorem State.measure_flagsKept (codes : ByInput Nat) (s : State) : FlagsKept (s.sampleInputs codes) (s.measure codes) := by
  have mapped : ∀ (admitted : Bool) (x : State), FlagsKept x (x.latch.mapSample admitted) := fun admitted x =>
    .ofSite (by simp)
  exact ((State.sampleChannels_flagsKept _ _).trans (State.identSample_flagsKept _ _)).trans (mapped _ _)

/-- The warning's event at a SAMPLE_EVENT (R3). -/
theorem State.sampleWork_range_event {codes : ByInput Nat} {i : Input} {s : State}
    (raised : ((s.level.inputs.get i).take (s.settings.calibration.get i) (codes.get i)).2 = true) :
    EventFlag.range i ∈ (s.sampleWork codes).site.flags := by
  have measured : ∀ x : State, EventFlag.range i ∈ (x.sampleInputs codes).site.flags →
      EventFlag.range i ∈ (x.measure codes).sampleCounters.site.flags := fun x h =>
    State.sampleCounters_flagsKept _ _ (x.measure_flagsKept codes _ h)
  unfold State.sampleWork
  exact measured _ (State.sampleInputs_event (by simpa [State.tickTimers] using raised))

/-! ### One input (R2 to R4) -/

/-- A code above 15 and below 4080 is IN range (R2). -/
theorem rangeOf_in {code : Nat} (low : 15 < code) (high : code < 4080) : rangeOf code = .inRange := by
  rw [rangeOf, if_neg (by omega), if_neg (by omega)]

theorem rangeOf_out {code : Nat} (out : code ≤ 15 ∨ 4080 ≤ code) : rangeOf code ≠ .inRange := by
  unfold rangeOf
  split
  · decide
  · rw [if_pos (by omega)]
    decide

/-- What every sample sets of an input (R2, R4). -/
theorem InputState.take_shows (cal : Calibration) (code : Nat) (x : InputState) :
    (x.take cal code).1.code = code ∧ (x.take cal code).1.range = rangeOf code := by
  unfold InputState.take InputState.watch InputState.countIn
  dsimp only
  split
  · split <;> exact ⟨rfl, rfl⟩
  · exact ⟨rfl, rfl⟩

/-- An IN sample counts towards the end of the warning (R3). -/
theorem InputState.take_in (cal : Calibration) {code : Nat} (x : InputState) (h : rangeOf code = .inRange) :
    x.take cal code =
      (({ x with code := code, sample := convert cal code, range := rangeOf code } : InputState).countIn, false) := by
  simp [InputState.take, InputState.watch, h]

/-- A sample out of range sets the warning, with its event when it was not set (R3). -/
theorem InputState.take_out (cal : Calibration) {code : Nat} (x : InputState) (h : rangeOf code ≠ .inRange) :
    (x.take cal code).1.warning = true ∧ (x.take cal code).1.inCount = 0 ∧ (x.take cal code).2 = !x.warning := by
  unfold InputState.take InputState.watch
  dsimp only
  split
  · exact absurd ‹_› h
  · exact ⟨rfl, rfl, rfl⟩


/-- The 1000th IN sample given to the warning alone (R3). -/
theorem InputState.countIn_ends {x : InputState} (warned : x.warning = true) (last : 999 ≤ x.inCount) :
    x.countIn = { x with warning := false, inCount := 1000 } := by
  rw [InputState.countIn, if_pos warned, satInc_eq, Nat.min_eq_left (by omega)]
  simp [show ¬ x.inCount + 1 < 1000 by omega]

end Sys2Proof.Machine

namespace Sys2Proof.Proofs

open Sys2Proof Sys2Proof.Machine

/-- Settles O7: each input takes its own code, whatever was due before the event, and the warning's work follows the
range state (R2 to R4). -/
theorem sampleConvertsAndWatchesRange : Obligations.SampleConvertsAndWatchesRange := by
  refine ⟨fun i s => ⟨fun warned last => ?_, fun quiet => ?_⟩, fun codes s => ⟨_, rfl, fun i => ?_⟩⟩
  · have ends : (s.level.inputs.get i).warningEnds = true := by
      simp only [InputState.warningEnds, warned, Bool.true_and, decide_eq_true_eq]
      omega
    show Host.Outcome.next (s.takeWarningClear i) = _
    simp only [State.takeWarningClear, ends, if_true, InputState.countIn_ends warned last]
  · have stays : (s.level.inputs.get i).warningEnds = false := by
      rcases quiet with off | early
      · simp [InputState.warningEnds, off]
      · simp only [InputState.warningEnds, Bool.and_eq_false_iff, decide_eq_false_iff_not]
        exact .inr (by omega)
    show Host.Outcome.next (s.takeWarningClear i) = _
    simp [State.takeWarningClear, stays]
  · have input := s.settle.sampleWork_input codes i
    simp only [State.settle_frame] at input
    dsimp only
    rw [input]
    obtain ⟨code, range⟩ := InputState.take_shows (s.settings.calibration.get i) (codes.get i) (s.level.inputs.get i)
    refine ⟨code, range, ?_, fun low high off => ?_, fun low high on => ?_, fun low high on => ?_, fun out => ?_⟩
    · rw [InputState.take_sample, convert, clampInt_eq _ _ _ (by omega)]
    · simp [InputState.take_in _ _ (rangeOf_in low high), InputState.countIn, off]
    · simp [InputState.take_in _ _ (rangeOf_in low high), InputState.countIn, on, satInc_eq]
    · simp only [InputState.take_in _ _ (rangeOf_in low high), InputState.countIn, on, if_true,
        decide_eq_false_iff_not]
      omega
    · obtain ⟨warning, count, raised⟩ :=
        InputState.take_out (s.settings.calibration.get i) (s.level.inputs.get i) (rangeOf_out out)
      refine ⟨warning, count, fun off => State.sampleWork_range_event ?_⟩
      simp only [State.settle_frame]
      rw [raised, off]
      rfl

end Sys2Proof.Proofs
end

section
/-! PROOFS. The channels and their comparators at a sample event (R9 to R21), the fade list (R179), and FADE_START and
FADE_END (O8, O10). -/

namespace Sys2Proof.Machine

/-! ### The profile in force as a sample event finds it (R14, log 3) -/

/-- What is due before a sample event makes no phase entry: a proposal, its resend and its end leave the profile. -/
theorem State.answerTimedOut_profile (s : State) : s.answerTimedOut.hop.profile = s.hop.profile := by
  have auto : ∀ (p : Proposal) (x : State), (x.startAutoTimer p).hop.profile = x.hop.profile := by
    intro p x
    unfold State.startAutoTimer
    split <;> rfl
  unfold State.answerTimedOut
  split
  · rfl
  · split
    · simp [State.resend]
    · simp [State.failProposal, State.closeProposal, auto, State.endProposal]

theorem State.autoTry_profile (s : State) : s.autoTry.hop.profile = s.hop.profile := by
  unfold State.autoTry
  split
  · rfl
  · split
    · simp [State.propose_hop, Coordinator.propose]
    · rfl

theorem State.autoOnset_profile (before after : State) : (before.autoOnset after).hop.profile = after.hop.profile := by
  unfold State.autoOnset
  split
  · exact after.autoTry_profile
  · rfl

theorem State.settleSecond_profile (s : State) : s.settleSecond.hop.profile = s.hop.profile := by
  have second : ∀ x : State, x.takeSecond.hop.profile = x.hop.profile := by
    intro x
    unfold State.takeSecond
    split
    · simp [State.autoOnset_profile, State.secondWork]
    · rfl
  have write : ∀ x : State, x.takeStepWrite.hop.profile = x.hop.profile := by
    intro x
    unfold State.takeStepWrite
    split
    · simp [State.autoOnset_profile]
    · rfl
  simp [State.settleSecond, second, write]

theorem State.settleTimers_profile (s : State) : s.settleTimers.hop.profile = s.hop.profile := by
  have answer : ∀ x : State, x.takeAnswerTimeout.hop.profile = x.hop.profile := by
    intro x
    unfold State.takeAnswerTimeout
    split
    · exact x.answerTimedOut_profile
    · rfl
  have hold : ∀ x : State, x.takeEntryHold.hop.profile = x.hop.profile := by
    intro x
    unfold State.takeEntryHold
    split <;> rfl
  have auto : ∀ x : State, x.takeAutoTimer.hop.profile = x.hop.profile := by
    intro x
    unfold State.takeAutoTimer
    split
    · exact State.autoTry_profile _
    · rfl
  simp [State.settleTimers, answer, hold, auto]

/-- The profile in force is the one that stood before what was due. -/
theorem State.settle_profile (s : State) : s.settle.profile = s.profile := by
  have hop : s.settle.hop.profile = s.hop.profile := by
    simp [State.settle, State.settleEvents, State.settleRoute, State.settleTimers_profile,
      State.settleSecond_profile]
  simp only [State.profile, hop, State.settle_frame]

/-! ### A comparator takes a sample (R17 to R19) -/

/-- The sample time at which a run of the comparator began, this sample included (R18). -/
def Comparator.started (t : SampleTime) (c : Comparator) : SampleTime := if c.run = 0 then t else c.runStart

/-- The lowest sample of the run, this sample included (R18). -/
def Comparator.runLow (x : Level) (c : Comparator) : Level := if c.run = 0 then x else min c.runMin x

section

variable {p : ProfileSettings} {r : Role} {t : SampleTime} {x : Level} {c : Comparator}

/-- A sample at or above the threshold abandons a run towards a fade. -/
theorem Comparator.take_clear_high (clear : c.state = .clear) (high : p.thresholds.get r ≤ x) :
    c.take p r t x = ({ c with run := 0 }, none) := by
  simp only [Comparator.take, clear, Comparator.takeClear]
  rw [if_neg (Int.not_lt.mpr high)]

theorem Comparator.take_clear_run (clear : c.state = .clear) (low : x < p.thresholds.get r)
    (goesOn : c.run + 1 < p.filter) :
    c.take p r t x = ({ c with run := c.run + 1, runStart := c.started t, runMin := c.runLow x }, none) := by
  simp only [Comparator.take, clear, Comparator.takeClear]
  rw [if_pos low, if_pos goesOn]
  rfl

/-- The run's last sample starts the fade (R18). -/
theorem Comparator.take_clear_fade (clear : c.state = .clear) (low : x < p.thresholds.get r)
    (ends : ¬ c.run + 1 < p.filter) :
    c.take p r t x =
      ({ state := .faded, run := 0, runStart := c.started t, runMin := c.runLow x, fadeStart := c.started t
         deepest := c.runLow x },
        some { ended := false, start := c.started t, duration := p.filter, deepest := c.runLow x }) := by
  simp only [Comparator.take, clear, Comparator.takeClear]
  rw [if_pos low, if_neg ends]
  rfl

theorem Comparator.take_faded_low (faded : c.state = .faded) (low : x < p.thresholds.get r + p.hysteresis) :
    c.take p r t x = ({ c with run := 0, deepest := min c.deepest x }, none) := by
  simp only [Comparator.take, faded, Comparator.takeFaded]
  rw [if_neg (Int.not_le.mpr low)]

theorem Comparator.take_faded_run (faded : c.state = .faded) (high : p.thresholds.get r + p.hysteresis ≤ x)
    (goesOn : c.run + 1 < p.filter) :
    c.take p r t x =
      ({ c with run := c.run + 1, runStart := c.started t, deepest := min c.deepest x }, none) := by
  simp only [Comparator.take, faded, Comparator.takeFaded]
  rw [if_pos high, if_pos goesOn]
  rfl

/-- The run's last sample ends the fade (R19). -/
theorem Comparator.take_faded_clear (faded : c.state = .faded) (high : p.thresholds.get r + p.hysteresis ≤ x)
    (ends : ¬ c.run + 1 < p.filter) :
    c.take p r t x =
      ({ c with state := .clear, run := 0, runStart := c.started t, deepest := min c.deepest x },
        some
          { ended := true, start := c.fadeStart, duration := min max32 ((c.started t).since c.fadeStart)
            deepest := min c.deepest x }) := by
  simp only [Comparator.take, faded, Comparator.takeFaded]
  rw [if_pos high, if_neg ends]
  rfl

end

/-! ### A channel at a SAMPLE_EVENT (R9 to R13) -/

/-- The channel that a role has after a SAMPLE_EVENT: its role's sample taken under the profile that stood before it. -/
theorem State.sampleEvent_channel (codes : ByInput Nat) (r : Role) (s : State) :
    (s.settle.sampleWork codes).level.channels.get r =
      ((s.level.channels.get r).take s.profile r (roleGate s.ident.gate s.level.steering r)
        (s.settle.sampleWork codes).time.now (roleSample s codes r)).1 := by
  rw [s.sampleEvent_get, State.settle_profile]
  simp [State.sampleWork, State.tickTimers]

/-- A skipped sample is counted and changes no average (R9). -/
theorem Channel.takeAverage_refused {k : Nat} {gate : Option Level} {x : Level} {c : Channel}
    (skipped : admits gate x = false) : c.takeAverage k gate x = { c with gated := satInc max16 c.gated } := by
  simp [Channel.takeAverage, skipped]

/-- An admitted sample is counted and moves the average, or seeds it (R11, R12). -/
theorem Channel.takeAverage_admitted {k : Nat} {gate : Option Level} {x : Level} {c : Channel}
    (admitted : admits gate x = true) : c.takeAverage k gate x = c.average k x := by
  simp [Channel.takeAverage, admitted]

/-- The average leaves the comparator as it is (R17). -/
theorem Channel.takeAverage_cmp (k : Nat) (gate : Option Level) (x : Level) (c : Channel) :
    (c.takeAverage k gate x).cmp = c.cmp := by
  unfold Channel.takeAverage
  split <;> rfl

/-- A channel's comparator takes the sample, admitted or not, and delivers the channel's event (R17). -/
theorem Channel.take_cmp (p : ProfileSettings) (r : Role) (gate : Option Level) (t : SampleTime) (x : Level)
    (c : Channel) : (c.take p r gate t x).1.cmp = (c.cmp.take p r t x).1 := by
  simp [Channel.take, Channel.takeAverage_cmp]

theorem Channel.take_event (p : ProfileSettings) (r : Role) (gate : Option Level) (t : SampleTime) (x : Level)
    (c : Channel) : (c.take p r gate t x).2 = (c.cmp.take p r t x).2 := by
  simp [Channel.take, Channel.takeAverage_cmp]

/-- The counts of a channel are its averager's (R9). -/
theorem Channel.take_counts (p : ProfileSettings) (r : Role) (gate : Option Level) (t : SampleTime) (x : Level)
    (c : Channel) : (c.take p r gate t x).1.admitted = (c.takeAverage p.shift gate x).admitted ∧
      (c.take p r gate t x).1.gated = (c.takeAverage p.shift gate x).gated := ⟨rfl, rfl⟩

/-- Each channel's fade event is raised as the channel takes its sample (R18, R19). -/
theorem State.sampleChannel_event {gate : Option Level} {r : Role} {s : State} {e : FadeEvent}
    (faded : ((s.level.channels.get r).take s.profile r (roleGate gate s.level.steering r) s.time.now
      (s.roleInput r).sample).2 = some e) :
    EventFlag.fade r ∈ (s.sampleChannel gate r).site.flags := by
  unfold State.sampleChannel
  dsimp only
  rw [faded]
  exact State.event_mem_signal _ _

/-- The event that a role's channel delivers does not depend on another having taken its sample before (R1). -/
theorem State.sampleChannel_take_ne (gate : Option Level) {q r : Role} (s : State) (h : r ≠ q) :
    let x := s.sampleChannel gate q
    (x.level.channels.get r).take x.profile r (roleGate gate x.level.steering r) x.time.now (x.roleInput r).sample =
      (s.level.channels.get r).take s.profile r (roleGate gate s.level.steering r) s.time.now
        (s.roleInput r).sample := by
  dsimp only
  rw [State.sampleChannel_get_ne gate s h]
  simp [State.profile, State.roleInput, State.sampleChannel_level]

theorem State.sampleChannels_event {gate : Option Level} {r : Role} {s : State} {e : FadeEvent}
    (faded : ((s.level.channels.get r).take s.profile r (roleGate gate s.level.steering r) s.time.now
      (s.roleInput r).sample).2 = some e) :
    EventFlag.fade r ∈ (s.sampleChannels gate).site.flags := by
  have later : ∀ (q : Role) (x : State), EventFlag.fade r ∈ x.site.flags →
      EventFlag.fade r ∈ (x.sampleChannel gate q).site.flags := fun q x => x.sampleChannel_flagsKept gate q _
  unfold State.sampleChannels
  cases r
  case coMain => exact later _ _ (later _ _ (later _ _ (State.sampleChannel_event faded)))
  case xMain =>
    refine later _ _ (later _ _ (State.sampleChannel_event (e := e) ?_))
    rwa [State.sampleChannel_take_ne gate s (by decide)]
  case coDiv =>
    refine later _ _ (State.sampleChannel_event (e := e) ?_)
    rwa [State.sampleChannel_take_ne gate _ (by decide), State.sampleChannel_take_ne gate s (by decide)]
  case xDiv =>
    refine State.sampleChannel_event (e := e) ?_
    rwa [State.sampleChannel_take_ne gate _ (by decide), State.sampleChannel_take_ne gate _ (by decide),
      State.sampleChannel_take_ne gate s (by decide)]

/-- A role's fade event at a SAMPLE_EVENT (R18, R19). -/
theorem State.sampleEvent_fade {codes : ByInput Nat} {r : Role} {s : State} {e : FadeEvent}
    (faded : ((s.level.channels.get r).cmp.take s.profile r (s.settle.sampleWork codes).time.now
      (roleSample s codes r)).2 = some e) :
    EventFlag.fade r ∈ (s.settle.sampleWork codes).site.flags := by
  let x := { s.settle with time := s.settle.time.sample }.tickTimers
  have channels : EventFlag.fade r ∈ ((x.sampleInputs codes).sampleChannels x.ident.gate).site.flags := by
    refine State.sampleChannels_event (e := e) ?_
    have profile : (x.sampleInputs codes).profile = s.profile := by
      rw [← s.settle_profile]
      simp [x, State.profile, State.tickTimers]
    have time : (x.sampleInputs codes).time = (s.settle.sampleWork codes).time := by
      simp [x, State.sampleWork, State.tickTimers]
    have sample : roleSample x codes r = roleSample s codes r := by simp [x, roleSample, State.tickTimers]
    rw [profile, time, State.sampleInputs_roleInput, sample, Channel.take_event]
    simpa [x, State.tickTimers] using faded
  have mapped : ∀ (level : Level) (admitted : Bool) (y : State),
      FlagsKept y ((y.identSample level).latch.mapSample admitted).sampleCounters := fun level admitted y =>
    (y.identSample_flagsKept level).trans
      ((FlagsKept.ofSite (by simp)).trans (State.sampleCounters_flagsKept ((y.identSample level).latch.mapSample admitted)))
  unfold State.sampleWork State.measure
  exact mapped _ _ _ _ channels

end Sys2Proof.Machine

namespace Sys2Proof.Proofs

open Sys2Proof Sys2Proof.Machine

/-- Settles O8: the gate's answer decides what the averager does, and the comparator takes the sample either way (R9 to
R13, R17 to R19). -/
theorem sampleAverages : Obligations.SampleAverages := by
  intro codes r s x c
  refine ⟨_, rfl, ?_⟩
  have channel := s.sampleEvent_channel codes r
  have fade := fun e => State.sampleEvent_fade (codes := codes) (r := r) (s := s) (e := e)
  have cmp := congrArg Channel.cmp channel
  rw [Channel.take_cmp] at cmp
  dsimp only
  refine ⟨fun taken seeded => ?_, fun taken => ?_, fun skipped => ?_, fun fresh => ?_, fun clear high => ?_,
    fun clear low goesOn => ?_, fun clear low ends => ?_, fun faded low => ?_, fun faded high goesOn => ?_,
    fun faded high ends => ?_⟩
  · have admitted := eq_true_of_ne_false (mt (admits_roleGate_eq_false_iff s r _).mp taken)
    rw [channel]
    simp [Channel.level, Channel.takeAverage_admitted admitted, Channel.average, seeded, x, c]
  · have admitted := eq_true_of_ne_false (mt (admits_roleGate_eq_false_iff s r _).mp taken)
    rw [channel, (Channel.take_counts ..).1, (Channel.take_counts ..).2, Channel.takeAverage_admitted admitted]
    exact ⟨satInc_eq _ _, rfl⟩
  · have refused := (admits_roleGate_eq_false_iff s r _).mpr skipped
    rw [channel, (Channel.take_counts ..).1, (Channel.take_counts ..).2, (Channel.take_averager ..).1,
      (Channel.take_averager ..).2, Channel.takeAverage_refused refused]
    exact ⟨rfl, rfl, rfl, satInc_eq _ _⟩
  · simp [Channel.level, fresh]
  · rw [cmp, Comparator.take_clear_high clear high]
  · rw [cmp, Comparator.take_clear_run clear low goesOn]
    rfl
  · have taken := Comparator.take_clear_fade (t := (s.settle.sampleWork codes).time.now) clear low ends
    exact ⟨by rw [cmp, taken]; rfl, fade _ (by rw [taken])⟩
  · rw [cmp, Comparator.take_faded_low faded low]
  · rw [cmp, Comparator.take_faded_run faded high goesOn]
    rfl
  · have taken := Comparator.take_faded_clear (t := (s.settle.sampleWork codes).time.now) faded high ends
    exact ⟨by rw [cmp, taken]; rfl, fade _ (by rw [taken])⟩

end Sys2Proof.Proofs
end

section
/-! PROOFS. The fade list (R179), and FADE_START and FADE_END (O10). -/

namespace Sys2Proof.Machine

/-! ### The fade list (R179) -/

/-- The order of the list in the words of the statements. -/
theorem FadeEntry.before_iff (e f : FadeEntry) : e.before f = true ↔ FadeBefore e f := by
  unfold FadeEntry.before FadeBefore SampleTime.before
  by_cases depth : e.deepest = f.deepest
  · by_cases start : e.start = f.start
    · simp [depth, start]
    · have apart : e.start.second ≠ f.start.second ∨ e.start.index ≠ f.start.index := by
        refine Classical.byContradiction fun same => ?_
        simp only [not_or, Classical.not_not] at same
        exact start (by cases he : e.start; cases hf : f.start; simp_all)
      simp only [depth, start, ne_eq, not_true, not_false_iff, if_true, if_false]
      simp
      omega
  · simp [depth]

/-- An entry stands ahead of the first one that it comes before (R179). -/
theorem insertFade_placed (e : FadeEntry) (list : List FadeEntry) : FadePlaced e list (insertFade e list) := by
  induction list with
  | nil => exact ⟨[], [], rfl, rfl, nofun, nofun⟩
  | cons y ys ih =>
    unfold insertFade
    split
    · next first =>
      exact ⟨[], y :: ys, rfl, rfl, nofun, by rintro _ _ ⟨⟩; exact (e.before_iff y).mp first⟩
    · next later =>
      obtain ⟨before, after, split, placed, ahead, behind⟩ := ih
      refine ⟨y :: before, after, by rw [split]; rfl, by rw [placed]; rfl, ?_, behind⟩
      intro f member
      rcases List.mem_cons.mp member with rfl | member
      · exact fun first => later ((e.before_iff f).mpr first)
      · exact ahead f member

/-- An entry joins a list of fewer than 16, or takes the place of the last one when it is deeper (R179). -/
theorem Soak.enterFade_entered (e : FadeEntry) (k : Soak) : FadeEntered e k (k.enterFade e) := by
  unfold FadeEntered Soak.enterFade
  dsimp only
  split
  · next room => exact ⟨fun _ => ⟨rfl, insertFade_placed e k.list⟩, fun _ _ full => absurd full (by omega), rfl⟩
  · next full =>
    refine ⟨fun room => absurd room full, ?_⟩
    split
    · next none =>
      exact ⟨fun kept last _ list => by simp [list] at none, rfl⟩
    · next y last =>
      split
      · next deeper =>
        refine ⟨fun kept z _ list => ?_, rfl⟩
        obtain rfl : z = y := by simpa [list] using last
        exact ⟨satInc_eq _ _, fun _ => by simpa [list] using insertFade_placed e kept,
          fun shallow => absurd deeper (Int.not_lt.mpr shallow)⟩
      · next shallow =>
        refine ⟨fun kept z _ list => ?_, rfl⟩
        obtain rfl : z = y := by simpa [list] using last
        exact ⟨satInc_eq _ _, fun deeper => absurd deeper shallow, fun _ => rfl⟩

/-! ### A fade reaches the recorder (R177, R179) -/

/-- A record's deepest level, lowered to a fade's (R177). -/
theorem FadeRecord.deepen_eq (level : Level) (f : FadeRecord) :
    f.deepen level = { f with deepest := some (match f.deepest with | none => level | some m => min m level) } := rfl

theorem FadeRecord.finish_eq (duration : Nat) (level : Level) (f : FadeRecord) :
    f.finish duration level =
      { openFade := none, count := f.count, total := min 4294967295 (f.total + duration)
        longest := max f.longest duration
        deepest := some (match f.deepest with | none => level | some m => min m level) } := by
  have total := satAdd_eq max32 f.total duration
  rw [FadeRecord.finish, FadeRecord.deepen_eq, total]

/-- A comparator's event reaches the recorder (R21, R177). -/
theorem State.deliverFade_soak (r : Role) (e : FadeEvent) (s : State) :
    (s.deliverFade r e).soak = s.soak.takeFade s.settings r e := rfl

theorem Soak.takeFade_absent {st : Settings} {r : Role} (e : FadeEvent) {k : Soak}
    (absent : k.running = false ∨ fitted st r = false) : k.takeFade st r e = k := by
  rcases absent with h | h <;> simp [Soak.takeFade, h]

/-- A fade ends in a fitted role's record and enters the list (R177, R179). -/
theorem Soak.takeFade_ended {st : Settings} {r : Role} {e : FadeEvent} {k : Soak} (running : k.running = true)
    (fits : fitted st r = true) (ended : e.ended = true) :
    k.takeFade st r e =
      ({ k with fades := k.fades.set r ((k.fades.get r).finish e.duration e.deepest) } : Soak).enterFade
        { role := r, start := e.start, duration := e.duration, deepest := e.deepest, cut := false } := by
  simp [Soak.takeFade, running, fits, ended, Soak.fadeFinish]

/-! ### The rows (R18, R19; log 4) -/

/-- A comparator's event comes of a run that is complete: a fade's start in CLEAR, its end in FADED (R18, R19). -/
theorem Comparator.take_event {p : ProfileSettings} {r : Role} {t : SampleTime} {x : Level} {c : Comparator}
    {e : FadeEvent} (delivered : (c.take p r t x).2 = some e) :
    p.filter ≤ c.run + 1 ∧ (e.ended = false → c.state = .clear ∧ x < p.thresholds.get r) ∧
      (e.ended = true → c.state = .faded ∧ p.thresholds.get r + p.hysteresis ≤ x) := by
  unfold Comparator.take at delivered
  split at delivered
  · next clear =>
    unfold Comparator.takeClear at delivered
    split at delivered
    · next low =>
      dsimp only at delivered
      split at delivered
      · cases delivered
      · cases delivered
        exact ⟨by omega, fun _ => ⟨clear, low⟩, nofun⟩
    · cases delivered
  · next faded =>
    unfold Comparator.takeFaded at delivered
    dsimp only at delivered
    split at delivered
    · next high =>
      split at delivered
      · cases delivered
      · cases delivered
        exact ⟨by omega, nofun, fun _ => ⟨faded, high⟩⟩
    · cases delivered

/-- A row has no effect when the sample delivers no event of its direction. -/
theorem State.takeFadeSample_none {ended : Bool} {r : Role} {x : Level} {s : State}
    (quiet : ∀ e, ((s.level.channels.get r).cmp.take s.profile r s.time.now x).2 = some e → e.ended ≠ ended) :
    s.takeFadeSample ended r x = s := by
  unfold State.takeFadeSample
  dsimp only
  split
  · rfl
  · next e delivered => exact if_neg (quiet e delivered)

/-- A row delivers the event of its direction, the comparator having taken the sample. -/
theorem State.takeFadeSample_some {ended : Bool} {r : Role} {x : Level} {s : State} {c : Comparator} {e : FadeEvent}
    (taken : (s.level.channels.get r).cmp.take s.profile r s.time.now x = (c, some e)) (same : e.ended = ended) :
    s.takeFadeSample ended r x = (s.setComparator r c).deliverFade r e := by
  simp [State.takeFadeSample, taken, same]

end Sys2Proof.Machine

namespace Sys2Proof.Proofs

open Sys2Proof Sys2Proof.Machine

/-- Settles O10: the comparator's cases decide whether the sample completes the run, and the recorder takes the event of
a fitted role while it runs (R18, R19, R177, R179). -/
theorem fadesStartAndEnd : Obligations.FadesStartAndEnd := by
  refine ⟨fun r x s => ?_, fun e k => k.enterFade_entered e⟩
  dsimp only
  refine ⟨fun clear low last => ?_, fun other => ?_, fun faded high last => ?_, fun other => ?_⟩
  · have taken := Comparator.take_clear_fade (t := s.time.now) clear low (by omega)
    refine ⟨_, congrArg Host.Outcome.next (State.takeFadeSample_some taken rfl), rfl, rfl, rfl, fun running fits => ?_,
      fun absent => Soak.takeFade_absent _ absent⟩
    have counted := satInc_eq max16 (s.soak.fades.get r).count
    simp only [State.deliverFade, Soak.takeFade, State.setComparator, running, fits, Soak.fadeStart, FadeRecord.start,
      FadeRecord.deepen_eq, State.signal_frame, counted, Bool.and_self, Bool.false_eq_true, if_true, if_false]
    rfl
  · refine congrArg Host.Outcome.next (State.takeFadeSample_none fun e delivered started => ?_)
    obtain ⟨complete, starts, -⟩ := Comparator.take_event delivered
    obtain ⟨clear, low⟩ := starts started
    rcases other with faded | high | early
    · simp [clear] at faded
    · exact absurd low (Int.not_lt.mpr high)
    · omega
  · have taken := Comparator.take_faded_clear (t := s.time.now) faded high (by omega)
    refine ⟨_, congrArg Host.Outcome.next (State.takeFadeSample_some taken rfl), rfl, rfl, rfl, fun running fits => ?_,
      fun absent => Soak.takeFade_absent _ absent⟩
    have recorded : ∀ e : FadeEvent, e.ended = true →
        FadeEntered { role := r, start := e.start, duration := e.duration, deepest := e.deepest, cut := false }
          { s.soak with fades := s.soak.fades.set r ((s.soak.fades.get r).finish e.duration e.deepest) }
          (s.soak.takeFade s.settings r e) := fun e ended => by
      rw [Soak.takeFade_ended running fits ended]
      exact Soak.enterFade_entered _ _
    simp only [FadeRecord.finish_eq] at recorded
    exact recorded _ rfl
  · refine congrArg Host.Outcome.next (State.takeFadeSample_none fun e delivered ends => ?_)
    obtain ⟨complete, -, closes⟩ := Comparator.take_event delivered
    obtain ⟨faded, high⟩ := closes ends
    rcases other with clear | low | early
    · simp [faded] at clear
    · exact absurd low (Int.not_lt.mpr high)
    · omega

end Sys2Proof.Proofs
end

section
/-! PROOFS. The identifier at a sample (R23 to R31, R35), and BLOCK_CLOSE (O11). -/

namespace Sys2Proof.Machine

/-! ### The table of R30 -/

theorem Identifier.evaluation_table (own : Nat) (i : Identifier) : i.evaluation own = identTable own i := by
  unfold Identifier.evaluation identTable
  cases hs : i.swing with
  | none => simp
  | some w =>
    by_cases short : i.closed.length < 4
    · simp [short]
    · by_cases quiet : w < 60
      · simp [short, quiet]
      · simp only [short, quiet, if_false, or_self]
        rfl

/-! ### The comparison and the block of a sample (R25 to R30) -/

theorem pushInterval_eq (v : Nat) (ring : List Nat) :
    pushInterval v ring = if (ring ++ [v]).length ≤ 8 then ring ++ [v] else (ring ++ [v]).drop 1 := by
  unfold pushInterval
  dsimp only
  split
  · rw [if_neg (by omega)]
  · rw [if_pos (by omega)]

theorem pushBlock_eq (b : Block) (bs : List Block) :
    pushBlock b bs = if (bs ++ [b]).length ≤ 4 then bs ++ [b] else (bs ++ [b]).drop 1 := by
  unfold pushBlock
  dsimp only
  split
  · rw [if_neg (by omega)]
  · rw [if_pos (by omega)]

/-- The comparison with the decision level held, by its cases (R27, R28, R30). -/
theorem Identifier.compare_compared (own : Nat) (now : SampleTime) (x : Level) (i : Identifier) :
    SampleCompared own now x i (i.compare own now x) := by
  unfold SampleCompared Identifier.compare
  cases hd : i.decision with
  | none => simp
  | some d =>
    cases hs : i.swing with
    | none => simp
    | some w =>
      by_cases quiet : w < 60
      · simp [quiet, Int.not_le.mpr quiet]
      · by_cases low : x < d
        · simp [quiet, low, satInc_eq, Int.not_lt.mp quiet]
        · by_cases rises : 3 ≤ i.below
          · refine ⟨fun none => absurd ⟨d, w, rfl, rfl, Int.not_lt.mp quiet⟩ none,
              fun _ ⟨e, he, below⟩ => absurd (Option.some.inj he ▸ below) low, fun _ _ few => absurd rises (by omega),
              fun _ _ _ => ?_⟩
            simp only [quiet, low, rises, if_false, if_true, Identifier.evaluate, Identifier.evaluation_table,
              Identifier.rise, pushInterval_eq, hs, hd]
            rfl
          · simp [quiet, low, rises, Int.not_lt.mp quiet]

theorem Identifier.addSample_within (own : Nat) (x : Level) {y : Identifier} (within : y.blockCount < 249) :
    y.addSample own x = sampleInBlock x y := by
  unfold Identifier.addSample
  dsimp only
  rw [if_pos (by omega)]
  rfl

/-- The window's work touches the swing and the decision level alone, and only a window of four blocks (R26). -/
theorem Identifier.updateWindow_eq (x : Identifier) :
    x.updateWindow = { x with swing := x.updateWindow.swing, decision := x.updateWindow.decision } ∧
      (x.closed.length < 4 → x.updateWindow.swing = x.swing ∧ x.updateWindow.decision = x.decision) ∧
      (4 ≤ x.closed.length →
        x.updateWindow.swing = some (highest x.closed - lowest x.closed) ∧
          x.updateWindow.decision = some (lowest x.closed + (highest x.closed - lowest x.closed) / 2)) := by
  unfold Identifier.updateWindow
  split
  · next short => exact ⟨rfl, fun _ => ⟨rfl, rfl⟩, fun full => absurd short (by omega)⟩
  · next full => exact ⟨rfl, fun short => absurd short full, fun _ => ⟨rfl, rfl⟩⟩

/-- The swing held is below 6.0 dB (R29). -/
def Identifier.swingQuiet (x : Identifier) : Bool :=
  match x.swing with
  | none => false
  | some w => decide (w < 60)

/-- A swing below 6.0 dB clears the ring, the latest rise and the run below (R29). -/
theorem Identifier.clearRing_eq (x : Identifier) :
    x.clearRing =
      { x with
        ring := if x.swingQuiet then [] else x.ring, lastRise := if x.swingQuiet then none else x.lastRise
        below := if x.swingQuiet then 0 else x.below, state := x.clearRing.state } := by
  unfold Identifier.clearRing
  split
  · next absent =>
    have loud : x.swingQuiet = false := by simp [Identifier.swingQuiet, absent]
    simp only [loud, Bool.false_eq_true, if_false]
  · next w held =>
    by_cases quiet : w < 60
    · have low : x.swingQuiet = true := by simp [Identifier.swingQuiet, held, quiet]
      simp only [low, quiet, if_true]
    · have loud : x.swingQuiet = false := by simp [Identifier.swingQuiet, held, quiet]
      simp only [loud, quiet, Bool.false_eq_true, if_false]

/-- The 250th sample closes the block (R25, R26, R29, R30). -/
theorem Identifier.addSample_closes (own : Nat) (x : Level) {y : Identifier} (last : 249 ≤ y.blockCount) :
    BlockClosed own x y (y.addSample own x) := by
  have closes : y.addSample own x =
      y.closeBlock own { hi := raiseTo x y.blockMax, lo := lowerTo x y.blockMin } := by
    unfold Identifier.addSample
    dsimp only
    rw [if_neg (by omega)]
  let blocks := y.closed ++ [{ hi := raiseTo x y.blockMax, lo := lowerTo x y.blockMin }]
  let opened : Identifier :=
    { y with
      blockCount := 0, blockMax := none, blockMin := none
      closed := if blocks.length ≤ 4 then blocks else blocks.drop 1 }
  have result : y.addSample own x = opened.updateWindow.clearRing.evaluate own := by
    rw [closes, Identifier.closeBlock, pushBlock_eq]
  obtain ⟨window, short, full⟩ := opened.updateWindow_eq
  obtain ⟨swing, decision, window⟩ : ∃ w d, opened.updateWindow = { opened with swing := w, decision := d } :=
    ⟨_, _, window⟩
  rw [window] at short full
  let held : Identifier := { opened with swing := swing, decision := decision }
  obtain ⟨state, cleared⟩ : ∃ v, held.clearRing =
      { held with
        ring := if held.swingQuiet then [] else held.ring, lastRise := if held.swingQuiet then none else held.lastRise
        below := if held.swingQuiet then 0 else held.below, state := v } := ⟨_, held.clearRing_eq⟩
  rw [result, window, cleared, Identifier.evaluate, Identifier.evaluation_table]
  exact ⟨rfl, short, full, rfl⟩

/-- The identifier's work of one sample while it runs (R25, R27, R31). -/
theorem Identifier.take_running (own : Nat) (now : SampleTime) (x : Level) {i : Identifier} (running : i.running = true) :
    i.take own now x = (i.compare own now x).addSample own x := by
  rw [Identifier.take, if_pos running]

/-- The comparison leaves the block in progress as it is (R27). -/
theorem Identifier.compare_blockCount (own : Nat) (now : SampleTime) (x : Level) (i : Identifier) :
    (i.compare own now x).blockCount = i.blockCount := by
  unfold Identifier.compare
  split
  · split
    · rfl
    · split
      · rfl
      · split <;> rfl
  · rfl

/-! ### The identifier's events (R35) -/

/-- A change of the ident state is signalled, and the site port alone takes it (R35). -/
theorem State.signalIdent_eq (before : IdentState) (s : State) :
    s.signalIdent before = { s with site := identSignalled before s } := by
  by_cases same : before = s.ident.state
  · rw [State.signalIdent, identSignalled, if_pos same, if_pos same]
  · rw [State.signalIdent, identSignalled, if_neg same, if_neg same]
    rcases s.ident.state with _ | _ | _ | h <;> rfl

theorem State.signalIdent_event {before : IdentState} {s : State} (changed : s.ident.state ≠ before) :
    EventFlag.ident ∈ (s.signalIdent before).site.flags ∧
      ∀ h, s.ident.state = .foreign h → EventFlag.foreign ∈ (s.signalIdent before).site.flags := by
  unfold State.signalIdent
  rw [if_neg (Ne.symm changed)]
  dsimp only
  split
  · exact ⟨State.signal_flagsKept _ _ _ (State.event_mem_signal _ _), fun _ _ => State.event_mem_signal _ _⟩
  · next other => exact ⟨State.event_mem_signal _ _, fun h foreign => absurd foreign (other h)⟩

/-- The identifier after a sample event's own work: it has taken the steering channel's sample (R31). -/
theorem State.sampleWork_ident (codes : ByInput Nat) (s : State) :
    (s.sampleWork codes).ident =
      s.ident.take s.ownHop (s.sampleWork codes).time.now (roleSample s codes (steeringRole s.level.steering)) := by
  have ident : ∀ (l : Level) (x : State), (x.identSample l).ident = x.ident.take x.ownHop x.time.now l := by
    intro l x
    unfold State.identSample
    simp
  have steering : ∀ (g : Option Level) (x : State),
      ((x.sampleInputs codes).sampleChannels g).steeringSample = roleSample x codes (steeringRole x.level.steering) := by
    intro g x
    rw [← State.sampleInputs_roleInput]
    simp [State.steeringSample, State.roleInput, State.sampleChannels, State.sampleChannel_level]
  simp only [State.sampleWork, State.measure, State.sampleCounters_frame, State.mapSample_frame, State.latch_frame,
    ident, steering]
  simp [State.tickTimers, State.ownHop, roleSample]

/-- The events of the ident state's change at a sample event (R35). -/
theorem State.sampleWork_ident_event {codes : ByInput Nat} {s : State}
    (changed : (s.sampleWork codes).ident.state ≠ s.ident.state) :
    EventFlag.ident ∈ (s.sampleWork codes).site.flags ∧
      ∀ h, (s.sampleWork codes).ident.state = .foreign h → EventFlag.foreign ∈ (s.sampleWork codes).site.flags := by
  have kept : ∀ (admitted : Bool) (x : State), (x.latch.mapSample admitted).sampleCounters.site = x.site ∧
      (x.latch.mapSample admitted).sampleCounters.ident = x.ident := by
    intro admitted x
    exact ⟨by simp, by simp⟩
  have sampled : ∀ (l : Level) (x : State), (x.identSample l).ident.state ≠ x.ident.state →
      EventFlag.ident ∈ (x.identSample l).site.flags ∧
        ∀ h, (x.identSample l).ident.state = .foreign h → EventFlag.foreign ∈ (x.identSample l).site.flags := by
    intro l x change
    unfold State.identSample at change ⊢
    simp only [State.signalIdent_frame] at change ⊢
    exact State.signalIdent_event change
  unfold State.sampleWork State.measure at changed ⊢
  simp only [kept] at changed ⊢
  exact sampled _ _ (by simpa [State.tickTimers] using changed)

end Sys2Proof.Machine

namespace Sys2Proof.Proofs

open Sys2Proof Sys2Proof.Machine

/-- Settles O11: the sample is compared, then joins its block or closes it, and a change of state has its events (R23,
R25 to R31, R35). -/
theorem blockCloses : Obligations.BlockCloses := by
  refine ⟨fun x s => ⟨fun running last => ?_, fun none => ?_⟩, fun codes s quiet => ?_⟩
  · have ends : s.ident.blockEnds = true := by
      simp only [Identifier.blockEnds, running, Bool.true_and, decide_eq_true_eq]
      omega
    have taken := Identifier.take_running s.ownHop s.time.now x running
    have same := Identifier.compare_blockCount s.ownHop s.time.now x s.ident
    have row : exec (.blockClose x) s = .next (s.identSample x) := by
      show Host.Outcome.next (if s.ident.blockEnds then s.identSample x else s) = _
      rw [if_pos ends]
    rw [row, State.identSample, State.signalIdent_eq, taken]
    exact ⟨_, s.ident.compare s.ownHop s.time.now x, rfl, rfl, Identifier.compare_compared ..,
      Identifier.addSample_closes _ _ (by rwa [same]), rfl⟩
  · have stays : s.ident.blockEnds = false := by
      rcases none with stopped | early
      · simp [Identifier.blockEnds, stopped]
      · simp only [Identifier.blockEnds, Bool.and_eq_false_iff, decide_eq_false_iff_not]
        exact .inr (by omega)
    show Host.Outcome.next (if s.ident.blockEnds then s.identSample x else s) = _
    rw [if_neg (by simp [stays])]
  · refine ⟨s.settle.sampleWork codes, rfl, ?_⟩
    rw [show s.settle = s from quiet]
    have ident := s.sampleWork_ident codes
    refine ⟨fun stopped => ?_, fun running => ⟨_, Identifier.compare_compared .., fun within => ?_, fun last => ?_⟩,
      State.sampleWork_ident_event⟩
    · rw [ident, Identifier.take, if_neg (by simp [stopped])]
    · rw [ident, Identifier.take_running _ _ _ running]
      exact Identifier.addSample_within _ _ (by rwa [Identifier.compare_blockCount])
    · rw [ident, Identifier.take_running _ _ _ running]
      exact Identifier.addSample_closes _ _ (by rwa [Identifier.compare_blockCount])

end Sys2Proof.Proofs
end

section
/-! PROOFS. The times, the latch and the map at a sample event (O12, O13). -/

namespace Sys2Proof.Machine

/-! ### What measuring leaves of the recorder and the site port's framer -/

/-- An entry of the fade list touches the list and its discards alone (R179). -/
theorem Soak.enterFade_eq (e : FadeEntry) (k : Soak) :
    k.enterFade e = { k with list := (k.enterFade e).list, discards := (k.enterFade e).discards } :=
  (k.enterFade_entered e).2.2

/-- A comparator's event touches the fade records and the list alone (R177, R179). -/
theorem Soak.takeFade_eq (st : Settings) (r : Role) (e : FadeEvent) (k : Soak) :
    k.takeFade st r e =
      { k with
        fades := (k.takeFade st r e).fades, list := (k.takeFade st r e).list
        discards := (k.takeFade st r e).discards } := by
  unfold Soak.takeFade
  split
  · split
    · rw [Soak.fadeFinish, Soak.enterFade_eq]
    · rfl
  · rfl

/-- What a later state keeps of the recorder but the fades, and of the site port's framer. -/
def FadesOnly (s t : State) : Prop :=
  t.soak = { s.soak with fades := t.soak.fades, list := t.soak.list, discards := t.soak.discards } ∧
    t.site.framer = s.site.framer

theorem FadesOnly.trans {s t u : State} (h : FadesOnly s t) (g : FadesOnly t u) : FadesOnly s u := by
  obtain ⟨soak, framer⟩ := h
  obtain ⟨soak', framer'⟩ := g
  refine ⟨?_, framer'.trans framer⟩
  rw [soak'] at *
  rw [soak]

/-- A change that leaves the recorder and the framer as they are. -/
theorem FadesOnly.ofSame {s t : State} (soak : t.soak = s.soak) (framer : t.site.framer = s.site.framer) :
    FadesOnly s t := ⟨by rw [soak], framer⟩

theorem State.signal_framer (r : Report) (s : State) : (s.signal r).site.framer = s.site.framer := by simp

theorem State.sampleInput_fadesOnly (codes : ByInput Nat) (i : Input) (s : State) :
    FadesOnly s (s.sampleInput codes i) := by
  refine .ofSame (by simp) ?_
  unfold State.sampleInput
  dsimp only
  split <;> simp

theorem State.sampleChannel_fadesOnly (gate : Option Level) (r : Role) (s : State) :
    FadesOnly s (s.sampleChannel gate r) := by
  unfold State.sampleChannel State.deliverFades
  dsimp only
  split
  · exact .ofSame rfl rfl
  · exact ⟨Soak.takeFade_eq _ _ _ _, by simp [State.deliverFade]⟩

theorem State.identSample_fadesOnly (level : Level) (s : State) : FadesOnly s (s.identSample level) := by
  refine .ofSame (by simp) ?_
  rw [State.identSample, State.signalIdent_eq]
  unfold identSignalled
  dsimp only
  split
  · rfl
  · split <;> simp

theorem State.measure_fadesOnly (codes : ByInput Nat) (s : State) : FadesOnly s (s.measure codes) := by
  have inputs : ∀ x : State, FadesOnly x (x.sampleInputs codes) := fun x =>
    (((x.sampleInput_fadesOnly codes _).trans (State.sampleInput_fadesOnly codes _ _)).trans
      (State.sampleInput_fadesOnly codes _ _)).trans (State.sampleInput_fadesOnly codes _ _)
  have channels : ∀ (g : Option Level) (x : State), FadesOnly x (x.sampleChannels g) := fun g x =>
    (((x.sampleChannel_fadesOnly g _).trans (State.sampleChannel_fadesOnly g _ _)).trans
      (State.sampleChannel_fadesOnly g _ _)).trans (State.sampleChannel_fadesOnly g _ _)
  have mapped : ∀ (admitted : Bool) (x : State), FadesOnly x (x.latch.mapSample admitted) := fun admitted x =>
    .ofSame (by simp) (by simp)
  exact (((inputs s).trans (channels _ _)).trans (State.identSample_fadesOnly _ _)).trans (mapped _ _)

/-! ### The counters of a sample event -/

/-- The cadence boundary that a sample event may bring (R97, R98). -/
def Cue.atBoundary (c : Cue) : Prop :=
  (c.tone = .stale ∧ (c.cadence + 1 = 250 ∨ 500 ≤ c.cadence + 1)) ∨
    (c.tone = .foreign ∧ (c.cadence + 1 = 125 ∨ 250 ≤ c.cadence + 1))

theorem Cue.tickCadence_eq (c : Cue) :
    c.tickCadence =
      { c with
        cadence :=
          if (c.tone = .stale ∧ 500 ≤ c.cadence + 1) ∨ (c.tone = .foreign ∧ 250 ≤ c.cadence + 1) then 0
          else if c.tone = .stale ∨ c.tone = .foreign then c.cadence + 1
          else c.cadence
        cadenceDue := c.tickCadence.cadenceDue } ∧
      (c.tickCadence.cadenceDue = true ↔ c.cadenceDue = true ∨ c.atBoundary) := by
  unfold Cue.tickCadence Cue.atBoundary
  split
  · next stale =>
    split
    · next half => exact ⟨by simp [stale, half], by simp [stale, half]⟩
    · split
      · next full => exact ⟨by simp [stale, full], by simp [stale, full]⟩
      · next half full => exact ⟨by simp [stale, full], by simp [stale, half, full]⟩
  · next foreign =>
    split
    · next half => exact ⟨by simp [foreign, half], by simp [foreign, half]⟩
    · split
      · next full => exact ⟨by simp [foreign, full], by simp [foreign, full]⟩
      · next half full => exact ⟨by simp [foreign, full], by simp [foreign, half, full]⟩
  · next notStale notForeign =>
    have stale : c.tone ≠ .stale := notStale
    have foreign : c.tone ≠ .foreign := notForeign
    exact ⟨by simp [stale, foreign], by simp [stale, foreign]⟩

theorem Cue.tickUpdate_eq (c : Cue) :
    c.tickUpdate =
      { c with
        updateTimer := if 50 ≤ c.updateTimer + 1 then 0 else c.updateTimer + 1
        updateDue := c.updateDue || decide (50 ≤ c.updateTimer + 1) } := by
  unfold Cue.tickUpdate
  split
  · next due => simp [due]
  · next early => simp [early]

/-- One ms of the controller's times (R104, R105, R120). -/
theorem Route.tickTimes_eq (r : Route) :
    r.tickTimes =
      let idles := r.contention ≠ .sending ∧ r.carrierBusy = false
      { r with
        idle := if idles then r.idle + 1 else r.idle
        slot := if idles ∧ r.contention = .backoff then r.slot + 1 else r.slot
        sendTime := if r.contention = .sending then r.sendTime + 1 else r.sendTime } := by
  unfold Route.tickTimes
  dsimp only
  split
  · next sending => simp [sending]
  · next listens =>
    split
    · next busy =>
      have stands : ¬ (r.contention ≠ .sending ∧ r.carrierBusy = false) := by simp [busy]
      simp only [stands, false_and, if_false]
    · next free => simp [listens, free]

/-- The keying counter at a sample event (R151). -/
theorem Source.tickKeying_eq (hop : Nat) (x : Source) :
    (x.beacon.live ≠ .keyed → x.tickKeying hop = x) ∧
      (x.beacon.live = .keyed → x.keyCount + 1 < halfPeriod hop →
        x.tickKeying hop = { x with keyCount := x.keyCount + 1 }) ∧
      (x.beacon.live = .keyed → halfPeriod hop ≤ x.keyCount + 1 → x.tickKeying hop = { x with edgeDue := true }) := by
  unfold Source.tickKeying
  refine ⟨fun off => if_neg off, fun on early => ?_, fun on due => ?_⟩
  · rw [if_pos on, if_neg (by omega)]
  · rw [if_pos on, if_pos due]

/-- The half-period of a hop, as the table at the head of chapter 2 lists it. -/
theorem halfPeriod_eq (h : Nat) : halfPeriod h =
    if h = 1 then 40 else if h = 2 then 52 else if h = 3 then 68 else if h = 4 then 88
    else if h = 5 then 114 else if h = 6 then 148 else 192 := by
  unfold halfPeriod
  split
  case h_7 => simp_all
  all_goals rfl

theorem Soak.sample_eq (st : Settings) (low : Bool) (u : LevelUnit) (k : Soak) :
    k.sample st low u =
      { k with lowSeen := k.lowSeen || (k.running && low), joint := (k.sample st low u).joint } := by
  unfold Soak.sample
  split
  · next running => simp [running]
  · next stopped => simp [stopped]

/-! ### A sample event with nothing due (R1, R197) -/

/-- The keying pin changes its level at the sample event at which the edge falls due (R150, R151). -/
theorem Source.beaconPin_edge {x : Source} (keyed : x.beacon.live = .keyed) (early : x.edgeDue = false) :
    ({ x with edgeDue := true } : Source).beaconPin = !x.beaconPin := by
  simp [Source.beaconPin, keyed, early]

/-- The blocks that the event's own work changes. -/
theorem State.sampleWork_eq (codes : ByInput Nat) (s : State) :
    let t := s.sampleWork codes
    t = { s with
      time := t.time, level := t.level, ident := t.ident, pos := t.pos, map := t.map, lobe := t.lobe
      cue := t.cue, route := t.route, hop := t.hop, src := t.src, soak := t.soak, margin := t.margin
      site := t.site, supply := t.supply } := by
  intro t
  have kept : t.pending = s.pending ∧ t.draws = s.draws ∧ t.station = s.station ∧ t.settings = s.settings ∧
      t.chk = s.chk ∧ t.handover = s.handover := by
    simp [t, State.sampleWork, State.tickTimers]
  obtain ⟨pending, draws, station, settings, chk, handover⟩ := kept
  rw [← pending, ← draws, ← station, ← settings, ← chk, ← handover]

/-- The timers' and the counters' work on each block; measuring leaves these blocks as they are (R1). -/
theorem State.sampleWork_times (codes : ByInput Nat) (s : State) :
    (s.sampleWork codes).time = s.time.sample ∧ (s.sampleWork codes).hop = s.tickTimers.hop ∧
      (s.sampleWork codes).route = s.tickTimers.route.tickTimes ∧
      (s.sampleWork codes).cue = s.cue.tickUpdate.tickCadence ∧
      (s.sampleWork codes).src = s.src.tickKeying s.ownHop ∧
      (s.sampleWork codes).supply = s.tickTimers.supply ∧ (s.sampleWork codes).pos = s.pos.latch := by
  simp [State.sampleWork, State.sampleCounters, State.tickTimers, Cue.sample, State.latch, State.measure, State.ownHop]

theorem State.sampleWork_lobe (codes : ByInput Nat) (s : State) :
    (s.sampleWork codes).lobe =
      { s.lobe with
        repeatTimer := Timer.tick s.lobe.repeatTimer
        elapsed := if s.lobe.state = .running then s.lobe.elapsed + 1 else s.lobe.elapsed } := by
  simp [State.sampleWork, State.sampleCounters, State.tickTimers]

theorem State.sampleWork_margin (codes : ByInput Nat) (s : State) :
    (s.sampleWork codes).margin =
      { s.margin with
        doneTimer := Timer.tick s.margin.doneTimer, silence := min 10000 (s.margin.silence + 1) } := by
  simp [State.sampleWork, State.sampleCounters, State.tickTimers]

theorem State.sampleWork_framer (codes : ByInput Nat) (s : State) :
    (s.sampleWork codes).site.framer = s.site.framer.tick := by
  simp only [State.sampleWork, State.sampleCounters_frame]
  rw [(State.measure_fadesOnly codes _).2]
  rfl

/-- The recorder notes LOW, counts joint fades and takes the comparators' fades (R169, R177, R178). -/
theorem State.sampleWork_soak (codes : ByInput Nat) (s : State) :
    let t := s.sampleWork codes
    t.soak = { s.soak with
      lowSeen := s.soak.lowSeen || (s.soak.running && s.supply.low), joint := t.soak.joint, fades := t.soak.fades
      list := t.soak.list, discards := t.soak.discards } := by
  have measured : ∀ x : State, x.soak = s.soak → x.supply.low = s.supply.low →
      let k := (x.measure codes).sampleCounters.soak
      k = { s.soak with
        lowSeen := s.soak.lowSeen || (s.soak.running && s.supply.low), joint := k.joint, fades := k.fades
        list := k.list, discards := k.discards } := by
    intro x soak low
    have fades := (x.measure_fadesOnly codes).1
    have supply : (x.measure codes).supply.low = s.supply.low := by rw [← low]; simp
    simp only [State.sampleCounters_soak, supply]
    rw [Soak.sample_eq]
    rw [soak] at fades
    rw [fades]
    rfl
  exact measured _ (by simp [State.tickTimers]) (by simp [State.tickTimers])

end Sys2Proof.Machine

namespace Sys2Proof.Proofs

open Sys2Proof Sys2Proof.Machine

/-- Settles O12: the timers, the measuring blocks and the counters each touch the registers named (R42, R91, R97, R98,
R104, R105, R108, R119, R151, R169, R191, R197). -/
theorem sampleAdvancesTimeAndLatches : Obligations.SampleAdvancesTimeAndLatches := by
  intro codes s quiet
  dsimp only
  refine ⟨s.settle.sampleWork codes, rfl, ?_⟩
  rw [show s.settle = s from quiet]
  obtain ⟨time, hop, route, cue, src, supply, pos⟩ := s.sampleWork_times codes
  obtain ⟨cadence, due⟩ := s.cue.tickUpdate.tickCadence_eq
  obtain ⟨still, counts, edge⟩ := s.src.tickKeying_eq s.ownHop
  rw [Cue.tickUpdate_eq] at cadence due
  refine ⟨fun within => ?_, fun last small => ?_, s.sampleWork_eq codes, hop, ?_, s.sampleWork_framer codes, ?_, ?_,
    s.sampleWork_lobe codes, s.sampleWork_margin codes, fun off => src.trans (still off), fun on early => ?_,
    fun on late => ?_, s.sampleWork_soak codes, supply, ?_, ?_⟩
  · rw [time, Timebase.sample, if_neg (by omega)]
    exact ⟨rfl, rfl⟩
  · rw [time, Timebase.sample, if_pos (by omega)]
    exact ⟨by rw [satInc_eq], rfl⟩
  · rw [route, Route.tickTimes_eq]
    rfl
  · rw [cue, Cue.tickUpdate_eq]
    exact cadence
  · rw [cue, Cue.tickUpdate_eq]
    exact due
  · exact src.trans (counts on (by rw [halfPeriod_eq]; exact early))
  · have taken := src.trans (edge on (by rw [halfPeriod_eq]; exact late))
    exact ⟨taken, fun fresh => by rw [taken]; exact Source.beaconPin_edge on fresh⟩
  · rw [pos]
    rfl
  · rw [pos]
    rfl

end Sys2Proof.Proofs
end

section
/-! PROOFS. The map at a sample event (R49, R54 to R57; O13). -/

namespace Sys2Proof.Machine

/-! ### The cells of the map (R50, R56) -/

/-- A sample changes the record of its cell and moves no record to another cell. -/
theorem AlignMap.find_add (cells : List CellRecord) (p q : CellPos) (level : Level) :
    (cells.map fun c => if c.pos = p then c.add level else c).find? (fun c => c.pos == q) =
      (cells.find? fun c => c.pos == q).map fun c => if c.pos = p then c.add level else c := by
  have stays : ∀ c : CellRecord, (if c.pos = p then c.add level else c).pos = c.pos := fun c => by split <;> rfl
  rw [List.find?_map]
  congr 2
  funext c
  simp only [Function.comp_apply, stays]

/-- The record that a visited cell has after a sample was recorded in it (R56). -/
theorem AlignMap.recordCell_visited {m : AlignMap} {p : CellPos} {c : CellRecord} (level : Level)
    (visited : m.find p = some c) :
    (m.recordCell p level).visits = m.visits ∧ (m.recordCell p level).find p = some (c.add level) := by
  have here : c.pos = p := by simpa using List.find?_some visited
  have recorded : m.recordCell p level =
      { m with cells := m.cells.map fun c => if c.pos = p then c.add level else c } := by
    simp only [AlignMap.recordCell, visited]
  rw [recorded]
  refine ⟨rfl, ?_⟩
  show List.find? _ _ = _
  rw [AlignMap.find_add, show (m.cells.find? fun c => c.pos == p) = some c from visited, Option.map_some, if_pos here]

/-- A cell's first sample makes its record, the visit counted (R56). -/
theorem AlignMap.recordCell_new {m : AlignMap} {p : CellPos} (level : Level) (unvisited : m.find p = none) :
    (m.recordCell p level).visits = m.visits + 1 ∧
      (m.recordCell p level).find p =
        some { column := p.column, row := p.row, count := 1, best := level, visit := m.visits + 1 } := by
  have none : (m.cells.find? fun c => c.pos == p) = none := unvisited
  simp only [AlignMap.recordCell, AlignMap.find, List.find?_append, none]
  exact ⟨trivial, by simp [CellRecord.pos]⟩

/-- A record in one cell leaves every other as it is. -/
theorem AlignMap.recordCell_other {m : AlignMap} {p q : CellPos} (level : Level) (other : q ≠ p) :
    (m.recordCell p level).find q = m.find q := by
  unfold AlignMap.recordCell
  split
  · show List.find? _ _ = List.find? _ _
    rw [AlignMap.find_add]
    cases found : m.cells.find? fun c => c.pos == q with
    | none => rfl
    | some c =>
      have there : c.pos = q := by simpa using List.find?_some found
      rw [Option.map_some, if_neg (by rw [there]; exact other)]
  · show List.find? _ _ = List.find? _ _
    rw [List.find?_append]
    cases found : m.cells.find? fun c => c.pos == q with
    | some c => rfl
    | none =>
      have apart : ({ column := p.column, row := p.row } : CellPos) ≠ q := fun same => other same.symm
      simp [CellRecord.pos, apart]

/-- A recorded sample touches the cells, the visits, the best and the count of samples out of range alone (R56, R57). -/
theorem AlignMap.record_eq (p : CellPos) (level : Level) (range : RangeState) (m : AlignMap) :
    m.record p level range =
      { m with
        cells := (m.recordCell p level).cells, visits := (m.recordCell p level).visits
        best := sweepBestAfter p level m.best
        range := if range = .inRange then m.range else satInc max16 m.range } := by
  unfold AlignMap.record AlignMap.recordCell
  split <;> rfl

/-! ### The map's part of a sample event (R54, R55) -/

/-- An admitted sample is considered while the map records; any other sample leaves the map as it is. -/
theorem State.mapSample_map (admitted : Bool) (s : State) :
    (s.map.state ≠ .recording ∨ admitted = false → (s.mapSample admitted).map = s.map) ∧
      ∀ l, s.map.state = .recording → admitted = true → s.level.steeringLevel = some l →
        (s.mapSample admitted).map =
          s.map.consider s.settings.geometry (identForeign s.ident.state) s.pos.snapshot l s.steeringRange := by
  unfold State.mapSample
  refine ⟨fun none => ?_, fun l recording taken level => ?_⟩
  · rw [if_neg]
    rintro ⟨recording, taken⟩
    rcases none with h | h
    · exact h recording
    · simp [taken] at h
  · rw [if_pos ⟨recording, taken⟩, level]

/-- The map after a sample event's own work: the sample considered with the figures that the event leaves (R54). -/
theorem State.sampleWork_map (codes : ByInput Nat) (s : State) :
    let t := s.sampleWork codes
    let admitted := admits s.ident.gate (roleSample s codes (steeringRole s.level.steering))
    (s.map.state ≠ .recording ∨ admitted = false → t.map = s.map) ∧
      ∀ l, s.map.state = .recording → admitted = true → t.level.steeringLevel = some l →
        t.map = s.map.consider s.settings.geometry (identForeign t.ident.state) t.pos.snapshot l t.steeringRange := by
  have measured : ∀ x : State, x.map = s.map → x.settings = s.settings →
      x.ident.gate = s.ident.gate → x.level.steering = s.level.steering →
      let t := (x.measure codes).sampleCounters
      let admitted := admits s.ident.gate (roleSample s codes (steeringRole s.level.steering))
      (s.map.state ≠ .recording ∨ admitted = false → t.map = s.map) ∧
        ∀ l, s.map.state = .recording → admitted = true → t.level.steeringLevel = some l →
          t.map = s.map.consider s.settings.geometry (identForeign t.ident.state) t.pos.snapshot l t.steeringRange := by
    intro x map settings gate steering
    have sample : (x.sampleInputs codes).steeringSample = roleSample s codes (steeringRole s.level.steering) := by
      rw [State.steeringSample, State.sampleInputs_roleInput]
      simp [roleSample, settings, steering]
    let y := (((x.sampleInputs codes).sampleChannels x.ident.gate).identSample
      ((x.sampleInputs codes).sampleChannels x.ident.gate).steeringSample).latch
    let admitted := admits s.ident.gate (roleSample s codes (steeringRole s.level.steering))
    have run : x.measure codes = y.mapSample admitted := by
      simp only [State.measure, sample, gate, y, admitted]
    have y_map : y.map = s.map := by simp [y, map]
    have y_settings : y.settings = s.settings := by simp [y, settings]
    have range : (y.mapSample admitted).sampleCounters.steeringRange = y.steeringRange := by
      simp [State.steeringRange, State.roleInput]
    obtain ⟨stays, considered⟩ := y.mapSample_map admitted
    rw [y_map, y_settings] at considered
    rw [y_map] at stays
    dsimp only
    rw [run, range]
    simp only [State.sampleCounters_frame, State.mapSample_frame]
    exact ⟨stays, considered⟩
  exact measured _ (by simp [State.tickTimers]) (by simp [State.tickTimers]) (by simp [State.tickTimers])
    (by simp [State.tickTimers])

/-! ### Which samples are considered -/

/-- The steering channel's gate admits a sample unless it is skipped (R9). -/
theorem admits_steering_iff (s : State) (x : Level) :
    admits s.ident.gate x = false ↔ Skipped s (steeringRole s.level.steering) x := by
  rw [← admits_roleGate_eq_false_iff]
  simp [roleGate]

/-- A channel that admits a sample has a level (R11, R13). -/
theorem Channel.take_admitted_level {p : ProfileSettings} {r : Role} {gate : Option Level} {t : SampleTime} {x : Level}
    {c : Channel} (admitted : admits gate x = true) : ∃ l, (c.take p r gate t x).1.level = some l := by
  have fresh : (c.take p r gate t x).1.fresh = false := by
    rw [(Channel.take_averager ..).2, Channel.takeAverage_admitted admitted]
    rfl
  exact ⟨_, by rw [Channel.level, fresh]; rfl⟩

/-- The antenna steered to is the one before the event. -/
theorem State.sampleWork_steering (codes : ByInput Nat) (s : State) :
    (s.sampleWork codes).level.steering = s.level.steering := by
  simp [State.sampleWork, State.measure, State.sampleChannels, State.sampleChannel_level, State.tickTimers]

/-! ### The refusals of R55, in their order -/

section

variable {g : Geometry} {isForeign : Bool} {snap : Snapshot} {level : Level} {range : RangeState} {m : AlignMap}

theorem AlignMap.consider_foreign (foreign : isForeign = true) :
    m.consider g isForeign snap level range = { m with foreign := satInc max16 m.foreign } := by
  rw [AlignMap.consider, if_pos foreign]

theorem AlignMap.consider_saturated (own : ¬ isForeign = true)
    (saturated : snap.azSaturated = true ∨ snap.elSaturated = true) :
    m.consider g isForeign snap level range = { m with saturated := satInc max16 m.saturated } := by
  rw [AlignMap.consider, if_neg own, if_pos (by simpa using saturated)]

theorem AlignMap.consider_outside (own : ¬ isForeign = true)
    (clear : ¬ (snap.azSaturated = true ∨ snap.elSaturated = true)) (outside : g.place snap.az snap.el = none) :
    m.consider g isForeign snap level range = { m with outside := satInc max16 m.outside } := by
  rw [AlignMap.consider, if_neg own, if_neg (by simpa using clear), outside]

theorem AlignMap.consider_recorded {p : CellPos} (own : ¬ isForeign = true)
    (clear : ¬ (snap.azSaturated = true ∨ snap.elSaturated = true)) (placed : g.place snap.az snap.el = some p) :
    m.consider g isForeign snap level range = m.record p level range := by
  rw [AlignMap.consider, if_neg own, if_neg (by simpa using clear), placed]

end

theorem identForeign_iff (i : IdentState) : identForeign i = true ↔ ∃ h, i = .foreign h := by
  cases i <;> simp [identForeign]

end Sys2Proof.Machine

namespace Sys2Proof.Proofs

open Sys2Proof Sys2Proof.Machine

/-- Settles O13: the geometry places by the rule of R49, and an admitted sample of a recording map is refused under the
first reason that applies or recorded (R49, R54 to R57). -/
theorem sampleIsMapped : Obligations.SampleIsMapped := by
  refine ⟨Geometry.places_by_rule, fun codes s quiet => ?_⟩
  dsimp only
  refine ⟨s.settle.sampleWork codes, rfl, ?_⟩
  have channel := s.sampleEvent_channel codes (steeringRole s.level.steering)
  rw [show s.settle = s from quiet] at channel ⊢
  obtain ⟨stays, considered⟩ := s.sampleWork_map codes
  refine ⟨fun none => stays (none.imp_right (admits_steering_iff s _).mpr), fun recording taken => ?_⟩
  have admitted := eq_true_of_ne_false (mt (admits_steering_iff s _).mp taken)
  have gated : admits (roleGate s.ident.gate s.level.steering (steeringRole s.level.steering))
      (roleSample s codes (steeringRole s.level.steering)) = true := by simpa [roleGate] using admitted
  obtain ⟨l, level⟩ := Channel.take_admitted_level (p := s.profile) (r := steeringRole s.level.steering)
    (t := (s.sampleWork codes).time.now) (c := s.level.channels.get (steeringRole s.level.steering)) gated
  have steering : (s.sampleWork codes).level.steeringLevel = some l := by
    rw [← level, ← channel, LevelUnit.steeringLevel, LevelUnit.roleLevel, State.sampleWork_steering]
  have map := considered l recording admitted steering
  refine ⟨l, steering, ?_⟩
  rw [map]
  refine ⟨fun foreign => ?_, fun own saturated => ?_, fun own clear outside => ?_, fun p own clear placed => ?_⟩
  · exact AlignMap.consider_foreign ((identForeign_iff _).mpr foreign)
  · exact AlignMap.consider_saturated (mt (identForeign_iff _).mp own) saturated
  · exact AlignMap.consider_outside (mt (identForeign_iff _).mp own) clear outside
  · rw [AlignMap.consider_recorded (mt (identForeign_iff _).mp own) clear placed, AlignMap.record_eq]
    refine ⟨rfl, fun c visited => AlignMap.recordCell_visited l visited, fun unvisited => AlignMap.recordCell_new l unvisited,
      fun q other => AlignMap.recordCell_other l other, rfl, rfl⟩

end Sys2Proof.Proofs
end

section
/-! PROOFS. ENCODER_TRANSITION (R37 to R41, R59; O15). -/

namespace Sys2Proof.Machine

/-! ### The decoding of a change (R38, R39) -/

/-- A line that has run its filter time takes the level it does not have (R37). -/
theorem LineState.raw_of_due {n : Nat} {l : LineState} (due : l.due n = true) : l.raw = !l.filtered := by
  simp only [LineState.due, Bool.and_eq_true, bne_iff_ne] at due
  cases h : l.filtered <;> simp_all

/-- Both lines change: a slip (R39). -/
theorem moveOf_both (a b : Bool) : moveOf (quadrature a b) (quadrature (!a) (!b)) = .slip := by
  cases a <;> cases b <;> rfl

/-- Line A changes: up when it comes to differ from B (R38). -/
theorem moveOf_lineA (a b : Bool) :
    moveOf (quadrature a b) (quadrature (!a) b) = if (!a) ≠ b then .up else .down := by
  cases a <;> cases b <;> rfl

/-- Line B changes: up when it comes to equal A (R38). -/
theorem moveOf_lineB (a b : Bool) :
    moveOf (quadrature a b) (quadrature a (!b)) = if a = !b then .up else .down := by
  cases a <;> cases b <;> rfl

/-- The axis with the lines that are due passed, before the count takes the change (R37). -/
def AxisState.passed (n : Nat) (x : AxisState) : AxisState :=
  { x with lineA := x.lineA.pass n, lineB := x.lineB.pass n }

theorem AxisState.pass_slip {n : Nat} {x : AxisState} (dueA : x.lineA.due n = true) (dueB : x.lineB.due n = true) :
    x.pass n = ((x.passed n).slip, .slip) := by
  have move := moveOf_both x.lineA.filtered x.lineB.filtered
  rw [← LineState.raw_of_due dueA, ← LineState.raw_of_due dueB] at move
  simp [AxisState.pass, AxisState.passed, LineState.pass, dueA, dueB, move]

/-- The direction in which one line's change counts (R38). -/
def AxisState.countsUp (n : Nat) (x : AxisState) : Prop :=
  if x.lineA.due n = true then x.lineA.raw ≠ x.lineB.filtered else x.lineA.filtered = x.lineB.raw

/-- One line changes: a step up or down (R38). -/
theorem AxisState.pass_step {n : Nat} {x : AxisState} (some_ : x.due n = true)
    (one : ¬ (x.lineA.due n = true ∧ x.lineB.due n = true)) :
    (x.countsUp n → x.pass n = ((x.passed n).stepUp, .up)) ∧
      (¬ x.countsUp n → x.pass n = ((x.passed n).stepDown, .down)) := by
  unfold AxisState.countsUp
  by_cases dueA : x.lineA.due n = true
  · have offB : x.lineB.due n = false := by simpa using fun dueB => one ⟨dueA, dueB⟩
    have move := moveOf_lineA x.lineA.filtered x.lineB.filtered
    rw [← LineState.raw_of_due dueA] at move
    rw [if_pos dueA]
    constructor
    · intro up
      rw [if_pos up] at move
      simp [AxisState.pass, AxisState.passed, LineState.pass, dueA, offB, move]
    · intro down
      rw [if_neg down] at move
      simp [AxisState.pass, AxisState.passed, LineState.pass, dueA, offB, move]
  · have offA : x.lineA.due n = false := by simpa using dueA
    have dueB : x.lineB.due n = true := by simpa [AxisState.due, offA] using some_
    have move := moveOf_lineB x.lineA.filtered x.lineB.filtered
    rw [← LineState.raw_of_due dueB] at move
    rw [if_neg dueA]
    constructor
    · intro up
      rw [if_pos up] at move
      simp [AxisState.pass, AxisState.passed, LineState.pass, offA, dueB, move]
    · intro down
      rw [if_neg down] at move
      simp [AxisState.pass, AxisState.passed, LineState.pass, offA, dueB, move]

/-- A step up keeps the lines and the slips, and is lost at the limit (R41). -/
theorem AxisState.stepUp_eq (x : AxisState) :
    x.stepUp.lineA = x.lineA ∧ x.stepUp.lineB = x.lineB ∧ x.stepUp.slipped = x.slipped ∧
      x.stepUp.slipCount = x.slipCount ∧
      (x.count < 32767 → x.stepUp.count = x.count + 1 ∧ x.stepUp.saturated = false) ∧
      (32767 ≤ x.count → x.stepUp.count = x.count ∧ x.stepUp.saturated = true) := by
  unfold AxisState.stepUp
  split
  · next limit => exact ⟨rfl, rfl, rfl, rfl, fun below => by omega, fun _ => ⟨rfl, rfl⟩⟩
  · next below => exact ⟨rfl, rfl, rfl, rfl, fun _ => ⟨rfl, rfl⟩, fun limit => absurd limit below⟩

theorem AxisState.stepDown_eq (x : AxisState) :
    x.stepDown.lineA = x.lineA ∧ x.stepDown.lineB = x.lineB ∧ x.stepDown.slipped = x.slipped ∧
      x.stepDown.slipCount = x.slipCount ∧
      (-32768 < x.count → x.stepDown.count = x.count - 1 ∧ x.stepDown.saturated = false) ∧
      (x.count ≤ -32768 → x.stepDown.count = x.count ∧ x.stepDown.saturated = true) := by
  unfold AxisState.stepDown
  split
  · next limit => exact ⟨rfl, rfl, rfl, rfl, fun above => by omega, fun _ => ⟨rfl, rfl⟩⟩
  · next above => exact ⟨rfl, rfl, rfl, rfl, fun _ => ⟨rfl, rfl⟩, fun limit => absurd limit above⟩

/-! ### The row (R37 to R41, R59) -/

theorem State.takeTransition_none {x : Axis} {s : State} (none : (s.pos.axes.get x).due s.settings.filterTicks = false) :
    s.takeTransition x = s := by
  simp [State.takeTransition, none]

/-- A step moves the axis alone. -/
theorem State.takeTransition_step {x : Axis} {s : State} {a : AxisState} {move : Move}
    (due : (s.pos.axes.get x).due s.settings.filterTicks = true)
    (passed : (s.pos.axes.get x).pass s.settings.filterTicks = (a, move)) (step : move ≠ .slip) :
    s.takeTransition x = { s with pos := { s.pos with axes := s.pos.axes.set x a } } := by
  simp [State.takeTransition, due, passed, step]

/-- A slip moves the axis, marks the map in SWEEP and is signalled where the axis had none (R39, R40, R59). -/
theorem State.takeTransition_slip {x : Axis} {s : State} {a : AxisState}
    (due : (s.pos.axes.get x).due s.settings.filterTicks = true)
    (passed : (s.pos.axes.get x).pass s.settings.filterTicks = (a, .slip)) :
    s.takeTransition x =
      { s with
        pos := { s.pos with axes := s.pos.axes.set x a }
        map := if s.hop.phase = .sweep then s.map.slip x else s.map
        site :=
          if (s.pos.axes.get x).slipped then s.site else s.site.signal (.slip x a.slipCount s.pos.snapshot) } := by
  simp only [State.takeTransition, due, passed, if_true, State.noteSlip]
  by_cases sweep : s.hop.phase = .sweep <;> by_cases slipped : (s.pos.axes.get x).slipped = true <;>
    simp [sweep, slipped, State.signal]

end Sys2Proof.Machine

namespace Sys2Proof.Proofs

open Sys2Proof Sys2Proof.Machine

/-- Settles O15: the lines that are due decide the decoder's move, and the move what the axis, the map and the site port
take (R37 to R41, R59). -/
theorem encoderTransitionCountsOrSlips : Obligations.EncoderTransitionCountsOrSlips := by
  intro x s
  dsimp only
  refine ⟨fun offA offB => ?_, fun due => ?_⟩
  · exact congrArg Host.Outcome.next (State.takeTransition_none (by simp [AxisState.due, offA, offB]))
  · have some_ : (s.pos.axes.get x).due s.settings.filterTicks = true := by simpa [AxisState.due] using due
    refine ⟨s.takeTransition x, rfl, ?_⟩
    by_cases both : (s.pos.axes.get x).lineA.due s.settings.filterTicks = true ∧
        (s.pos.axes.get x).lineB.due s.settings.filterTicks = true
    · rw [State.takeTransition_slip some_ (AxisState.pass_slip both.1 both.2)]
      refine ⟨rfl, fun y other => ByAxis.get_set_ne _ _ other, ?_⟩
      rw [ByAxis.get_set_same]
      refine ⟨rfl, rfl, fun _ _ => ⟨rfl, rfl, rfl, rfl, rfl, fun sweep fresh => ?_, fun marked => ?_⟩,
        fun one => absurd both one⟩
      · rw [if_pos sweep, AlignMap.slip, if_neg (by simp [fresh])]
      · split
        · next sweep => rw [AlignMap.slip, if_pos (marked.resolve_left (by simpa using sweep))]
        · rfl
    · obtain ⟨up, down⟩ := AxisState.pass_step some_ both
      by_cases counts : (s.pos.axes.get x).countsUp s.settings.filterTicks
      · rw [State.takeTransition_step some_ (up counts) (by decide)]
        refine ⟨rfl, fun y other => ByAxis.get_set_ne _ _ other, ?_⟩
        rw [ByAxis.get_set_same]
        obtain ⟨lineA, lineB, slipped, slips, rises, stands⟩ := ((s.pos.axes.get x).passed s.settings.filterTicks).stepUp_eq
        exact ⟨lineA, lineB, fun dueA dueB => absurd ⟨dueA, dueB⟩ both, fun _ => ⟨slipped, slips, rfl, rfl,
          fun _ => rises, fun _ => stands, fun other => absurd counts other, fun other => absurd counts other⟩⟩
      · rw [State.takeTransition_step some_ (down counts) (by decide)]
        refine ⟨rfl, fun y other => ByAxis.get_set_ne _ _ other, ?_⟩
        rw [ByAxis.get_set_same]
        obtain ⟨lineA, lineB, slipped, slips, falls, stands⟩ := ((s.pos.axes.get x).passed s.settings.filterTicks).stepDown_eq
        exact ⟨lineA, lineB, fun dueA dueB => absurd ⟨dueA, dueB⟩ both, fun _ => ⟨slipped, slips, rfl, rfl,
          fun other => absurd other counts, fun other => absurd other counts, fun _ => falls, fun _ => stands⟩⟩

end Sys2Proof.Proofs
end

section
/-! PROOFS. The lobe analyser: the list (R72 to R75), the completion (R69, R76 to R78), the cross-check (R82 to R85) and
the partner's VERDICT (R81): O16 to O19. -/

namespace Sys2Proof.Machine

/-! ### The cross-check (R82 to R85) -/

/-- The confirmed set after a result for a role (R85). -/
theorem addAntenna_eq (x : AntennaSet) (role : Antenna) (r : CrossResult) :
    (if r = .confirmed then addAntenna x role else x) =
      { main := x.main || (role == .main && r == .confirmed), div := x.div || (role == .div && r == .confirmed) } := by
  by_cases confirmed : r = .confirmed
  · cases role <;> simp [confirmed, addAntenna]
  · have other : (r == CrossResult.confirmed) = false := beq_eq_false_iff_ne.mpr confirmed
    simp [confirmed, other]

/-- A cross-check with both records decides the analyser's result, kept slot and confirmed set (R84, R85). -/
theorem Analyser.decide_eq (st : Settings) (own partner : VerdictRecord) (a : Analyser) :
    let r := crossCheck st own partner
    a.decide st own partner =
      { a with
        result := r, kept := a.kept.set own.role (some { own := own, partner := some partner, result := r })
        confirmed :=
          { main := a.confirmed.main || (own.role == .main && r == .confirmed)
            div := a.confirmed.div || (own.role == .div && r == .confirmed) } } := by
  dsimp only
  rw [← addAntenna_eq]
  rfl

/-- The cross-check runs with both records (R82, R84). -/
theorem State.runCrossCheck_both {own held : VerdictRecord} {s : State} (h : s.lobe.own = some own)
    (g : s.lobe.held = some held) :
    s.runCrossCheck =
      { s with
        lobe := s.lobe.decide s.settings own held
        site := s.site.signal (.crosscheck (crossCheck s.settings own held) own.role
          (s.lobe.decide s.settings own held).confirmed) } := by
  simp only [State.runCrossCheck, h, g]
  rfl

/-- Without one of the records it waits (R82). -/
theorem State.runCrossCheck_waits {s : State} (h : s.lobe.own = none ∨ s.lobe.held = none) : s.runCrossCheck = s := by
  unfold State.runCrossCheck
  split
  · next own held => rcases h with h | h <;> simp_all
  · rfl

theorem ByAntenna.set_set {α : Type} (b : ByAntenna α) (i : Antenna) (x y : α) : (b.set i x).set i y = b.set i y := by
  cases i <;> rfl

/-! ### The completion (R69, R76 to R78) -/

/-- The verdict on a top entry, by the table of R76. -/
theorem verdictOf_table (st : Settings) (role : Antenna) (list : List LobeEntry) :
    verdictOf st role list =
      match list with
      | [] => Verdict.noData
      | top :: _ =>
        if st.predicted.get role - st.mainTolerance ≤ top.level then
          if top.supported = true ∧ top.edge = false then Verdict.mainFound else Verdict.unresolved
        else if st.predicted.get role - st.sideDepth ≤ top.level then Verdict.mainLow
        else Verdict.sideOnly := by
  cases list with
  | nil => rfl
  | cons top rest =>
    rw [verdictOf]
    simp only [predictedLevel, Bool.and_eq_true, Bool.not_eq_true']
    rfl

theorem topFigures_eq (g : Level) (list : List LobeEntry) :
    topFigures g list =
      match list with | [] => none | top :: _ => some { level := top.level, deviation := top.level - g } := by
  cases list <;> rfl

/-- The analyser after the completion of an analysis of an accepted proposal (R69, R78). -/
theorem Analyser.complete_eq {st : Settings} {u : LevelUnit} {m : AlignMap} {a : Analyser} {id : ProposalId}
    (h : a.id = some id) :
    let list := lobeList st.geometry st.sideDepth m.cells
    let v := verdictRecord st u m id list (lobeOverflow m.cells)
    a.complete st u m =
      { a with
        state := .complete, list := list, overflow := lobeOverflow m.cells, own := some v
        kept := a.kept.set v.role (some { own := v, partner := none, result := .pending }), repeatTimer := some 5000 } := by
  simp only [Analyser.complete, h]

theorem State.handOn_own {s : State} {v : VerdictRecord} (h : s.lobe.own = some v) :
    s.handOn = ((s.send (.verdict v)).signal (VerdictReport v)).runCrossCheck := by
  simp only [State.handOn, h]

/-- A completed record is queued and signalled, and the cross-check runs (R69, R78). -/
theorem State.takeCompletion_running {s : State} {id : ProposalId} (running : s.lobe.state = .running)
    (named : s.lobe.id = some id) :
    let list := lobeList s.settings.geometry s.settings.sideDepth s.map.cells
    let v := verdictRecord s.settings s.level s.map id list (lobeOverflow s.map.cells)
    let c := s.lobe.complete s.settings s.level s.map
    s.takeCompletion =
      ({ s with
        draws := (s.send (.verdict v)).draws, lobe := c, route := (s.send (.verdict v)).route
        site := s.site.signal (VerdictReport v) } : State).runCrossCheck := by
  intro list v c
  have own : c.own = some v := by simp only [c, Analyser.complete_eq named]; rfl
  have sent : ({ s with lobe := c } : State).send (.verdict v) =
      { s with draws := (s.send (.verdict v)).draws, lobe := c, route := (s.send (.verdict v)).route } := by
    rcases Option.eq_none_or_eq_some s.station with h | ⟨st, h⟩
    · rw [State.send_unconfigured _ s h, State.send_unconfigured _ _ (by exact h)]
    · rw [State.send_queuedFor _ st s h, State.send_queuedFor _ st _ (by exact h)]
  rw [State.takeCompletion, if_pos running, State.handOn_own (v := v) (by exact own), sent]
  rfl

/-- The VERDICT queued at a completion (R78, R117, R123). -/
theorem State.send_route (body : FrameBody) (s : State) :
    (∀ st, s.station = some st → (s.send body).route = (queuedFor st body s.draws s.route).2) ∧
      (s.station = none → (s.send body).route = s.route) :=
  ⟨fun st h => by rw [State.send_queuedFor body st s h], fun h => by rw [State.send_unconfigured body s h]⟩

end Sys2Proof.Machine

namespace Sys2Proof.Proofs

open Sys2Proof Sys2Proof.Machine

/-- Settles O18: the checks of the model stand in the order of the table (R83). -/
theorem crossCheckFollowsTheTable : Obligations.CrossCheckFollowsTheTable := by
  intro st own partner
  dsimp only
  unfold crossCheck
  simp only [Bool.not_eq_true]
  rfl

/-- Settles O16: the record of the completion is handed on, and the cross-check runs when the partner's is held (R69, R76
to R78, R82, R84, R85). -/
theorem analysisCompletes : Obligations.AnalysisCompletes := by
  intro s
  refine ⟨fun idle => congrArg Host.Outcome.next (if_neg idle), fun id role running named steered => ?_⟩
  dsimp only
  let list := lobeList s.settings.geometry s.settings.sideDepth s.map.cells
  let v := verdictRecord s.settings s.level s.map id list (lobeOverflow s.map.cells)
  have steer : v.role = role := by simp [v, verdictRecord, steered]
  have predicted : v.predicted = s.settings.predicted.get role := by
    simp [v, verdictRecord, steered, predictedLevel]
  have verdict : v.verdict = verdictOf s.settings role list := by simp [v, verdictRecord, steered, list]
  rw [verdictOf_table] at verdict
  have top : v.top = topFigures (s.settings.predicted.get role) list := by
    simp [v, verdictRecord, steered, predictedLevel, list]
  rw [topFigures_eq] at top
  have suspect : v.positionSuspect = true ↔ s.map.slips.az.flag = true ∨ s.map.slips.el.flag = true := by
    simp [v, verdictRecord]
  have foreign : v.foreignSeen = true ↔ 0 < s.map.foreign := by simp [v, verdictRecord]
  have outside : v.outsideSeen = true ↔ 0 < s.map.outside := by simp [v, verdictRecord]
  have overflow : v.listOverflow = true ↔ 0 < lobeOverflow s.map.cells := by simp [v, verdictRecord]
  have completed := State.takeCompletion_running running named
  dsimp only at completed
  rw [Analyser.complete_eq named] at completed
  obtain ⟨configured, unconfigured⟩ := s.send_route (.verdict v)
  refine ⟨s.takeCompletion, v, rfl, ?_⟩
  rw [completed]
  rcases Option.eq_none_or_eq_some s.lobe.held with held | ⟨w, held⟩
  · rw [State.runCrossCheck_waits (.inr (by exact held))]
    refine ⟨rfl, rfl, named, rfl, rfl, rfl, rfl, rfl, rfl, steer, predicted, verdict, top, rfl, rfl, suspect, foreign,
      outside, overflow, configured, unconfigured, fun _ => ⟨?_, rfl, rfl, held, ?_⟩, fun w other => ?_⟩
    · rw [← steer]
      rfl
    · rw [← steer]
    · exact absurd (held.symm.trans other) (by simp)
  · rw [State.runCrossCheck_both rfl (by exact held), Analyser.decide_eq]
    refine ⟨rfl, rfl, named, rfl, rfl, rfl, rfl, rfl, rfl, steer, predicted, verdict, top, rfl, rfl, suspect, foreign,
      outside, overflow, configured, unconfigured, fun none => ?_, fun x same => ?_⟩
    · exact absurd (held.symm.trans none) (by simp)
    · obtain rfl : w = x := Option.some.inj (held.symm.trans same)
      rw [← steer]
      exact ⟨rfl, held, rfl, rfl, ByAntenna.set_set ..⟩

end Sys2Proof.Proofs
end

section
/-! PROOFS. The lobe list (R72 to R75; O17). -/

namespace Sys2Proof.Machine

/-! ### The local maxima in order (R72, R74) -/

/-- The order of R74: higher, or equally high and visited no later. -/
def StandsFirst (c d : CellRecord) : Prop := d.best < c.best ∨ d.best = c.best ∧ c.visit ≤ d.visit

theorem StandsFirst.trans {b c d : CellRecord} (h : StandsFirst b c) (g : StandsFirst c d) : StandsFirst b d := by
  unfold StandsFirst at *
  rcases h with h | ⟨h, hv⟩ <;> rcases g with g | ⟨g, gv⟩
  · exact .inl (Int.lt_trans g h)
  · exact .inl (g ▸ h)
  · exact .inl (h ▸ g)
  · exact .inr ⟨g.trans h, Nat.le_trans hv gv⟩

theorem standsFirst_of_standsAbove {c d : CellRecord} (h : standsAbove c d = true) : StandsFirst c d := by
  simp only [standsAbove, Bool.or_eq_true, decide_eq_true_eq, Bool.and_eq_true, beq_iff_eq] at h
  exact h.imp id fun ⟨best, visit⟩ => ⟨best.symm, Nat.le_of_lt visit⟩

theorem standsFirst_of_not_standsAbove {c d : CellRecord} (h : ¬ standsAbove c d = true) : StandsFirst d c := by
  simp only [standsAbove, Bool.or_eq_true, decide_eq_true_eq, Bool.and_eq_true, beq_iff_eq, not_or, not_and,
    Int.not_lt, Nat.not_lt] at h
  rcases Int.lt_or_eq_of_le h.1 with higher | same
  · exact .inl higher
  · exact .inr ⟨same, h.2 same⟩

theorem insertByHeight_perm (c : CellRecord) (l : List CellRecord) : (insertByHeight c l).Perm (c :: l) := by
  induction l with
  | nil => exact .refl _
  | cons d ds ih =>
    unfold insertByHeight
    split
    · exact .refl _
    · exact (ih.cons d).trans (.swap c d ds)

theorem insertByHeight_sorted (c : CellRecord) {l : List CellRecord} (sorted : l.Pairwise StandsFirst) :
    (insertByHeight c l).Pairwise StandsFirst := by
  induction l with
  | nil => simp [insertByHeight]
  | cons d ds ih =>
    obtain ⟨first, rest⟩ := List.pairwise_cons.mp sorted
    unfold insertByHeight
    split
    · next above =>
      have top := standsFirst_of_standsAbove above
      refine List.pairwise_cons.mpr ⟨fun e member => ?_, sorted⟩
      rcases List.mem_cons.mp member with rfl | member
      · exact top
      · exact top.trans (first e member)
    · next below =>
      refine List.pairwise_cons.mpr ⟨fun e member => ?_, ih rest⟩
      rcases List.mem_cons.mp ((insertByHeight_perm c ds).mem_iff.mp member) with rfl | member
      · exact standsFirst_of_not_standsAbove below
      · exact first e member

theorem foldl_insertByHeight (l acc : List CellRecord) (sorted : acc.Pairwise StandsFirst) :
    (l.foldl (fun acc c => insertByHeight c acc) acc).Perm (l ++ acc) ∧
      (l.foldl (fun acc c => insertByHeight c acc) acc).Pairwise StandsFirst := by
  induction l generalizing acc with
  | nil => exact ⟨.refl _, sorted⟩
  | cons c cs ih =>
    obtain ⟨perm, order⟩ := ih (insertByHeight c acc) (insertByHeight_sorted c sorted)
    refine ⟨perm.trans ?_, order⟩
    exact ((insertByHeight_perm c acc).append_left cs).trans List.perm_middle

/-- The maxima in the order of R74 are the local maxima, sorted. -/
theorem maximaInOrder_sorted (cells : List CellRecord) :
    (maximaInOrder cells).Perm (cells.filter (localMaximum cells)) ∧
      (maximaInOrder cells).Pairwise StandsFirst := by
  obtain ⟨perm, order⟩ := foldl_insertByHeight (cells.filter (localMaximum cells)) [] .nil
  exact ⟨by rwa [List.append_nil] at perm, order⟩

/-! ### The words of the statement -/

/-- Two cells that differ by at most one column and one row, and are not one (R72). -/
theorem neighbours_eq (c d : CellRecord) :
    neighbours c d =
      decide (c.column ≤ d.column + 1 ∧ d.column ≤ c.column + 1 ∧ c.row ≤ d.row + 1 ∧ d.row ≤ c.row + 1 ∧
        ¬ (c.column = d.column ∧ c.row = d.row)) := by
  rw [Bool.eq_iff_iff]
  simp [neighbours, withinOne, CellRecord.pos, and_assoc, Decidable.imp_iff_not_or]

theorem not_standsAbove_iff (c d : CellRecord) : standsAbove d c = false ↔ StandsFirst c d := by
  rw [← Bool.not_eq_true]
  refine ⟨standsFirst_of_not_standsAbove, fun first above => ?_⟩
  simp only [standsAbove, Bool.or_eq_true, decide_eq_true_eq, Bool.and_eq_true, beq_iff_eq] at above
  rcases first with lower | ⟨same, earlier⟩ <;> rcases above with higher | ⟨equal, later⟩
  · exact Int.lt_irrefl _ (Int.lt_trans lower higher)
  · exact Int.ne_of_lt lower equal
  · exact Int.ne_of_lt higher same.symm
  · exact absurd later (Nat.not_lt.mpr earlier)

theorem localMaximum_eq (cells : List CellRecord) (c : CellRecord) :
    localMaximum cells c =
      cells.all fun d => !neighbours c d || decide (d.best < c.best ∨ d.best = c.best ∧ c.visit ≤ d.visit) := by
  have below : ∀ d : CellRecord, (!standsAbove d c) = decide (d.best < c.best ∨ d.best = c.best ∧ c.visit ≤ d.visit) :=
    fun d => by
      rw [Bool.eq_iff_iff, Bool.not_eq_true', not_standsAbove_iff, decide_eq_true_eq]
      rfl
  simp only [localMaximum, List.not_any_eq_all_not, Bool.not_and, below]

/-! ### The entries (R73 to R75) -/

/-- The maxima that the list holds: the first 8 in order (R74). -/
def listed (cells : List CellRecord) : List CellRecord := (maximaInOrder cells).take 8

theorem lobeList_listed (g : Geometry) (side : Nat) (cells : List CellRecord) :
    (lobeList g side cells).map (fun e => (e.cell, e.level, e.visit)) =
        (listed cells).map (fun c => (c.pos, c.best, c.visit)) ∧
      (∀ e ∈ lobeList g side cells, ∃ c ∈ listed cells, ∃ rank, e = lobeEntry g cells rank c) ∧
      (∀ c ∈ listed cells, ∃ rank, lobeEntry g cells rank c ∈ lobeList g side cells) := by
  unfold lobeList listed
  split
  · next none => simp [none]
  · next top rest some_ =>
    rw [some_]
    refine ⟨by simp [lobeEntry], fun e member => ?_, fun c member => ?_⟩
    · rcases List.mem_cons.mp member with rfl | member
      · exact ⟨top, List.mem_cons_self .., _, rfl⟩
      · obtain ⟨c, later, rfl⟩ := List.mem_map.mp member
        exact ⟨c, List.mem_cons_of_mem _ later, _, rfl⟩
    · rcases List.mem_cons.mp member with rfl | later
      · exact ⟨_, List.mem_cons_self ..⟩
      · exact ⟨_, List.mem_cons_of_mem _ (List.mem_map.mpr ⟨c, later, rfl⟩)⟩

/-- Entries with the figures of records in the order of R74 are in that order. -/
theorem lobeList_sorted {list : List LobeEntry} {l : List CellRecord}
    (figures : list.map (fun e => (e.cell, e.level, e.visit)) = l.map (fun c => (c.pos, c.best, c.visit)))
    (sorted : l.Pairwise StandsFirst) :
    list.Pairwise fun a b => b.level < a.level ∨ b.level = a.level ∧ a.visit ≤ b.visit := by
  let Above (a b : CellPos × Level × Nat) : Prop := b.2.1 < a.2.1 ∨ b.2.1 = a.2.1 ∧ a.2.2 ≤ b.2.2
  have order : (l.map (fun c => (c.pos, c.best, c.visit))).Pairwise Above := List.pairwise_map.mpr sorted
  rw [← figures] at order
  exact List.pairwise_map.mp order

/-- A maximum is listed, or 8 that stand before it are (R74). -/
theorem listed_or_beyond {cells : List CellRecord} {c : CellRecord} (maximum : c ∈ maximaInOrder cells) :
    c ∈ listed cells ∨ ((maximaInOrder cells).Pairwise StandsFirst →
      8 ≤ (maximaInOrder cells).length ∧ ∀ d ∈ listed cells, StandsFirst d c) := by
  have parts := List.take_append_drop 8 (maximaInOrder cells)
  rw [← parts, List.mem_append] at maximum
  rcases maximum with inList | later
  · exact .inl inList
  · refine .inr fun sorted => ⟨?_, fun d isListed => ?_⟩
    · refine Classical.byContradiction fun short => ?_
      rw [List.drop_eq_nil_of_le (by omega)] at later
      cases later
    · rw [← parts] at sorted
      exact (List.pairwise_append.mp sorted).2.2 d isListed c later

/-- The first entry is TOP, and the depth below it decides the class of the others (R75). -/
theorem lobeList_ranks {g : Geometry} {side : Nat} {cells : List CellRecord} {top : LobeEntry} {rest : List LobeEntry}
    (h : lobeList g side cells = top :: rest) :
    top.rank = .top ∧
      ∀ e ∈ rest, e.rank = if e.level ≤ top.level - side then LobeClass.side else LobeClass.minor := by
  unfold lobeList at h
  split at h
  · cases h
  · cases h
    refine ⟨rfl, fun e member => ?_⟩
    obtain ⟨c, _, rfl⟩ := List.mem_map.mp member
    rfl

end Sys2Proof.Machine

namespace Sys2Proof.Proofs

open Sys2Proof Sys2Proof.Machine

/-- Settles O17: the maxima sorted by insertion, the first 8 of them listed and classed (R72 to R75). -/
theorem lobeListHoldsTheMaxima : Obligations.LobeListHoldsTheMaxima := by
  intro g side cells
  dsimp only
  simp only [← neighbours_eq, ← localMaximum_eq]
  obtain ⟨perm, sorted⟩ := maximaInOrder_sorted cells
  obtain ⟨figures, fromMaxima, fromListed⟩ := lobeList_listed g side cells
  have listedFirst : (listed cells).Pairwise StandsFirst := sorted.sublist (List.take_sublist ..)
  have length : (lobeList g side cells).length = min 8 (maximaInOrder cells).length := by
    have same := congrArg List.length figures
    simpa [listed] using same
  refine ⟨?_, ?_, ?_, fun e member => ?_, fun c maximum => ?_, fun apart => ?_, fun top rest h => ?_⟩
  · rw [length, perm.length_eq]
  · rw [lobeOverflow, perm.length_eq]
  · exact lobeList_sorted figures listedFirst
  · obtain ⟨c, isListed, rank, rfl⟩ := fromMaxima e member
    refine ⟨c, perm.mem_iff.mp (List.mem_of_mem_take isListed), rfl, rfl, rfl, rfl, by simp [lobeEntry], ?_⟩
    simp [lobeEntry, onEdge, or_assoc]
  · obtain inList | beyond := listed_or_beyond (perm.mem_iff.mpr maximum)
    · obtain ⟨rank, entered⟩ := fromListed c inList
      exact .inl ⟨_, entered, rfl⟩
    · obtain ⟨full, above⟩ := beyond sorted
      refine .inr ⟨by rw [length]; exact Nat.min_eq_left full, fun e member => ?_⟩
      obtain ⟨d, isListed, rank, rfl⟩ := fromMaxima e member
      exact above d isListed
  · have cellsOf : (lobeList g side cells).map LobeEntry.cell = (listed cells).map CellRecord.pos := by
      have same := congrArg (List.map Prod.fst) figures
      simpa only [List.map_map, Function.comp_def] using same
    rw [cellsOf]
    have once : ((maximaInOrder cells).map CellRecord.pos).Nodup :=
      ((perm.map _).nodup_iff).mpr (apart.sublist (List.filter_sublist.map _))
    exact once.sublist ((List.take_sublist ..).map _)
  · exact lobeList_ranks h

end Sys2Proof.Proofs
end

section
/-! PROOFS. A frame from the partner: what is heard, its delivery, and the rerun of an ABORTED direction (R109 to R111,
R187); the partner's VERDICT (R81, O19). -/

namespace Sys2Proof.Machine

/-- States with equal blocks are equal. -/
theorem State.eq_of_fields {s t : State}
    (h : s.pending = t.pending ∧ s.draws = t.draws ∧ s.time = t.time ∧ s.station = t.station ∧
      s.settings = t.settings ∧ s.level = t.level ∧ s.ident = t.ident ∧ s.pos = t.pos ∧ s.map = t.map ∧
      s.lobe = t.lobe ∧ s.cue = t.cue ∧ s.route = t.route ∧ s.hop = t.hop ∧ s.src = t.src ∧ s.chk = t.chk ∧
      s.soak = t.soak ∧ s.margin = t.margin ∧ s.handover = t.handover ∧ s.site = t.site ∧ s.supply = t.supply) :
    s = t := by
  cases s
  cases t
  simpa using h

/-! ### The direction that begins again (R187) -/

theorem abortedDirection_isSome (s : State) : (abortedDirection s).isSome = s.rerunWaits := by
  rcases Option.eq_none_or_eq_some s.margin.current with none | ⟨d, current⟩
  · simp only [abortedDirection, State.rerunWaits, none, Option.isSome_none, Bool.and_false]
  · have waits : s.rerunWaits = true ↔ s.hop.phase = .margin ∧ s.margin.states.get d = .aborted := by
      simp only [State.rerunWaits, current, Bool.and_eq_true, beq_iff_eq]
    have again : abortedDirection s =
        if s.hop.phase = .margin ∧ s.margin.states.get d = .aborted then some d else none := by
      simp only [abortedDirection, current]
    rw [again, Bool.eq_iff_iff, waits, Option.isSome_ite]

theorem abortedDirection_none {s : State} (h : s.hop.phase ≠ .margin) : abortedDirection s = none := by
  unfold abortedDirection
  split
  · rfl
  · exact if_neg fun waits => h waits.1

theorem abortedDirection_some {s : State} {d : Direction} (phase : s.hop.phase = .margin)
    (current : s.margin.current = some d) (aborted : s.margin.states.get d = .aborted) : abortedDirection s = some d := by
  simp [abortedDirection, phase, current, aborted]

theorem abortedDirection_congr {s t : State} (phase : t.hop.phase = s.hop.phase)
    (current : t.margin.current = s.margin.current) (states : t.margin.states = s.margin.states) :
    abortedDirection t = abortedDirection s := by
  unfold abortedDirection
  rw [phase, current, states]

/-- The rerun is a begin of the direction that waits for it. -/
theorem State.rerun_waits {st : Station} {s : State} {d : Direction} (configured : s.station = some st)
    (waits : abortedDirection s = some d) : s.rerun = begun st d s := by
  have named : s.rerunWaits = true := by rw [← abortedDirection_isSome, waits]; rfl
  have current : s.margin.current = some d := by
    unfold abortedDirection at waits
    split at waits
    · cases waits
    · next e current =>
      split at waits
      · rw [current, waits]
      · cases waits
  rw [← State.beginDirection_begun st d s configured]
  simp only [State.rerun, current, named, if_true]

theorem State.rerun_none {s : State} (none : abortedDirection s = none) : s.rerun = s := by
  have named : ¬ s.rerunWaits = true := by rw [← abortedDirection_isSome, none]; decide
  unfold State.rerun
  split
  · rfl
  · rw [if_neg named]

/-! ### The delivery of a frame from the partner (R111) -/

section

variable {st : Station} {s x : State} {d : Direction}

theorem delivered_none (h : abortedDirection s = none) : delivered st s x = x := by simp [delivered, h]

theorem delivered_stays (h : abortedDirection x = none) : delivered st s x = x := by simp [delivered, h]

theorem delivered_begun (h : abortedDirection s = some d) (g : abortedDirection x = some d) :
    delivered st s x = begun st d x := by simp [delivered, h, g]

end

@[simp] theorem begun_frame (st : Station) (d : Direction) (x : State) :
    (begun st d x).pending = x.pending ∧ (begun st d x).time = x.time ∧ (begun st d x).station = x.station ∧
      (begun st d x).settings = x.settings ∧ (begun st d x).level = x.level ∧ (begun st d x).ident = x.ident ∧
      (begun st d x).pos = x.pos ∧ (begun st d x).map = x.map ∧ (begun st d x).lobe = x.lobe ∧
      (begun st d x).cue = x.cue ∧ (begun st d x).hop = x.hop ∧ (begun st d x).chk = x.chk ∧
      (begun st d x).soak = x.soak ∧ (begun st d x).handover = x.handover ∧ (begun st d x).site = x.site ∧
      (begun st d x).supply = x.supply := by
  unfold begun
  dsimp only
  split <;> simp

@[simp] theorem delivered_frame (st : Station) (s x : State) :
    (delivered st s x).pending = x.pending ∧ (delivered st s x).time = x.time ∧ (delivered st s x).station = x.station ∧
      (delivered st s x).settings = x.settings ∧ (delivered st s x).level = x.level ∧
      (delivered st s x).ident = x.ident ∧ (delivered st s x).pos = x.pos ∧ (delivered st s x).map = x.map ∧
      (delivered st s x).lobe = x.lobe ∧ (delivered st s x).cue = x.cue ∧ (delivered st s x).hop = x.hop ∧
      (delivered st s x).chk = x.chk ∧ (delivered st s x).soak = x.soak ∧ (delivered st s x).handover = x.handover ∧
      (delivered st s x).site = x.site ∧ (delivered st s x).supply = x.supply := by
  unfold delivered
  split
  · split
    · simp
    · exact begun_frame st _ x
  · simp

/-! ### What is heard (R109 to R112) -/

/-- The station's own settings and blocks are untouched by hearing a frame. -/
@[simp] theorem heardFrom_frame (f : Frame) (s : State) :
    (heardFrom f s).pending = s.pending ∧ (heardFrom f s).time = s.time ∧ (heardFrom f s).station = s.station ∧
      (heardFrom f s).settings = s.settings ∧ (heardFrom f s).level = s.level ∧ (heardFrom f s).ident = s.ident ∧
      (heardFrom f s).pos = s.pos ∧ (heardFrom f s).map = s.map ∧ (heardFrom f s).lobe = s.lobe ∧
      (heardFrom f s).cue = s.cue ∧ (heardFrom f s).hop = s.hop ∧ (heardFrom f s).src = s.src ∧
      (heardFrom f s).chk = s.chk ∧ (heardFrom f s).soak = s.soak ∧ (heardFrom f s).supply = s.supply := by
  simp [heardFrom]

/-- The margin procedure hears that the partner is not silent (R187). -/
theorem heardFrom_margin (f : Frame) (s : State) : (heardFrom f s).margin = { s.margin with silence := 0 } := by
  simp [heardFrom, State.hearPartner]

theorem abortedDirection_heardFrom (f : Frame) (s : State) : abortedDirection (heardFrom f s) = abortedDirection s :=
  abortedDirection_congr (by simp) (by rw [heardFrom_margin]) (by rw [heardFrom_margin])

/-- A frame from the partner that the head hears is delivered, and a direction ABORTED before and after it begins again
(R111, R187). -/
theorem State.receive_delivered {st : Station} {f : Frame} {s : State} {deliver : State → State}
    (h : Delivered st f.header s) (good : f.wellFormed = true)
    (kept : (deliver (heardFrom f s)).station = (heardFrom f s).station) :
    s.receive f deliver = delivered st s (deliver (heardFrom f s)) := by
  obtain ⟨configured, listening, _, source, own, dest⟩ := h
  have station : (heardFrom f s).station = some st := by simp [configured]
  have addressed : (heardFrom f s).addressed f.header = true := by
    simp only [State.addressed, State.ownNumber, station, Bool.or_eq_true, beq_iff_eq]
    exact dest
  have noClash : ¬ ({ s with route := s.route.hunt } : State).clashesWith f.header = true := by
    simp [State.clashesWith, configured, source, own]
  have partner : ({ s with route := s.route.hunt }.hearFrame f).fromPartner f.header = true := by
    simp [State.fromPartner, configured, source]
  have waits : (heardFrom f s).rerunWaits = (abortedDirection s).isSome := by
    rw [← abortedDirection_isSome, abortedDirection_heardFrom]
  have heard : ({ s with route := s.route.hunt }.hearFrame f).hearPartner = heardFrom f s := rfl
  rw [State.receive, if_neg (by exact listening), State.judged, good, Bool.not_true, if_neg (by decide), if_neg noClash,
    State.takeGood, if_pos partner, heard, State.deliverPartner,
    if_pos addressed, waits, delivered]
  split
  · split
    · next none => exact State.rerun_none none
    · next d waits => exact State.rerun_waits (kept.trans station) waits
  · rfl

/-! ### The partner's VERDICT (R81) -/

/-- A held record is cross-checked in CONFIRM when the own one stands (R81, R82). -/
theorem State.takeVerdict_confirm {b : VerdictRecord} {s : State} (confirm : s.hop.phase = .confirm)
    (pending : s.lobe.result = .pending) (matching : s.lobe.id = some b.id) :
    s.takeVerdict b = ({ s with lobe := { s.lobe with held := some b } } : State).runCrossCheck := by
  simp [State.takeVerdict, confirm, pending, matching]

theorem State.takeVerdict_counted {b : VerdictRecord} {s : State}
    (ignored : s.hop.phase ≠ .sweep ∧ (s.hop.phase = .confirm → s.lobe.id ≠ some b.id)) :
    s.takeVerdict b = { s with lobe := s.lobe.countIgnored } := by
  obtain ⟨sweep, confirm⟩ := ignored
  unfold State.takeVerdict
  split
  · next phase => exact absurd phase sweep
  · next phase => simp [confirm phase]
  · rfl

end Sys2Proof.Machine

namespace Sys2Proof.Proofs

open Sys2Proof Sys2Proof.Machine

/-- Settles O19: the frame is delivered, and the analyser takes the record by the phase and by its own state (R81, R82,
R84, R85). -/
theorem verdictIsTaken : Obligations.VerdictIsTaken := by
  intro st h b s delivered_ good
  have taken : exec (.receiveVerdict h b) s =
      .next (delivered st s ((heardFrom { header := h, body := .verdict b } s).takeVerdict b)) := by
    refine congrArg Host.Outcome.next (State.receive_delivered (f := { header := h, body := .verdict b }) delivered_ ?_ ?_)
    · exact Bool.and_eq_true_iff.mpr ⟨delivered_.2.2.1, good⟩
    · simp
  obtain ⟨x, heard⟩ : ∃ x, x = heardFrom { header := h, body := .verdict b } s := ⟨_, rfl⟩
  rw [← heard] at taken
  have phase : x.hop.phase = s.hop.phase := by simp [heard]
  have lobe : x.lobe = s.lobe := by simp [heard]
  have settings : x.settings = s.settings := by simp [heard]
  refine ⟨_, taken, ?_, ?_⟩
  · exact State.eq_of_fields (by simp [heard])
  · dsimp only
    simp only [delivered_frame]
    refine ⟨fun sweep => ?_, fun confirm pending matching none => ?_, fun own confirm pending matching some_ => ?_,
      fun confirm settled matching => ?_, fun confirm other => ?_, fun sweep confirm => ?_⟩
    · simp [State.takeVerdict, phase, sweep, lobe]
    · rw [State.takeVerdict_confirm (phase.trans confirm) (by rw [lobe]; exact pending) (by rw [lobe]; exact matching),
        State.runCrossCheck_waits (.inl (by rw [lobe]; exact none)), lobe]
    · rw [State.takeVerdict_confirm (phase.trans confirm) (by rw [lobe]; exact pending) (by rw [lobe]; exact matching),
        State.runCrossCheck_both (by rw [lobe]; exact some_) rfl, ← heard]
      simp only [Analyser.decide_eq, settings, lobe, and_self]
    · simp [State.takeVerdict, phase, confirm, lobe, settled, matching]
    · rw [State.takeVerdict_counted ⟨by simp [phase, confirm], fun _ => by rw [lobe]; exact other⟩]
      simp [lobe, Analyser.countIgnored, satInc_eq]
    · rw [State.takeVerdict_counted ⟨by rwa [phase], fun now => absurd (phase.symm.trans now) confirm⟩]
      simp [lobe, Analyser.countIgnored, satInc_eq]

end Sys2Proof.Proofs
end

section
/-! PROOFS. The cue unit's updates and events (R91 to R102; O20, O21) and the supply watch (R198; O54). -/

namespace Sys2Proof.Machine

/-! ### Silence and resume requests (R96) -/

/-- A resume request leaves a sounding generator, and what the update has staged as it is. -/
@[simp] theorem Cue.resume_frame (c : Cue) :
    c.resume.generator = .sounding ∧ c.resume.stagedHalf = c.stagedHalf ∧ c.resume.stagedDuty = c.stagedDuty ∧
      c.resume.cadence = c.cadence ∧ c.resume.tone = c.tone := by
  unfold Cue.resume
  split <;> simp_all

theorem Cue.resume_silent {c : Cue} (h : c.generator = .silent) :
    c.resume = { c with generator := .sounding, output := true, halfCounter := 0, liveHalf := c.stagedHalf } := by
  simp [Cue.resume, h]

/-- A generator that is not silent goes on with its half-cycle. -/
theorem Cue.resume_running {c : Cue} (h : c.generator ≠ .silent) : c.resume = { c with generator := .sounding } := by
  unfold Cue.resume
  split
  · next sounding => rw [← sounding]
  · rfl
  · next silent => exact absurd silent h

theorem Cue.silence_eq (c : Cue) :
    c.silence = { c with generator := if c.generator = .sounding then .stopping else c.generator } := by
  unfold Cue.silence
  split
  · next sounding => simp [sounding]
  · next other => rw [if_neg other]

/-- The generator's output, its half-cycle and its live half-period go on, or start with the staged half-period when a
silent generator resumes (R96). -/
def Cue.GeneratorGoesOn (c x : Cue) : Prop :=
  (c.generator = .silent → x.generator = .sounding →
    x.output = true ∧ x.halfCounter = 0 ∧ x.liveHalf = x.stagedHalf) ∧
  (c.generator ≠ .silent ∨ x.generator ≠ .sounding →
    x.output = c.output ∧ x.halfCounter = c.halfCounter ∧ x.liveHalf = c.liveHalf)

/-- A resume request on a cue unit with the generator of c. -/
theorem Cue.resume_goesOn {c x : Cue} (generator : x.generator = c.generator) (output : x.output = c.output)
    (half : x.halfCounter = c.halfCounter) (live : x.liveHalf = c.liveHalf) : c.GeneratorGoesOn x.resume := by
  unfold Cue.GeneratorGoesOn
  rw [← generator]
  by_cases silent : x.generator = .silent
  · rw [Cue.resume_silent silent]
    simp [silent]
  · rw [Cue.resume_running silent]
    simp [silent, output, half, live]

/-- A change that does not wake the generator leaves its half-cycle alone. -/
theorem Cue.goesOn_of_kept {c x : Cue} (asleep : c.generator = .silent → x.generator ≠ .sounding)
    (output : x.output = c.output) (half : x.halfCounter = c.halfCounter) (live : x.liveHalf = c.liveHalf) :
    c.GeneratorGoesOn x :=
  ⟨fun silent sounding => absurd sounding (asleep silent), fun _ => ⟨output, half, live⟩⟩

/-! ### The third part of an update (R93, R94, R96 to R98, R100) -/

section

variable (st : Settings) (used : Option Level) (c : Cue)

theorem Cue.work_tone :
    (c.work st .tone used).cadence = 0 ∧ (c.work st .tone used).generator = .sounding ∧
      (c.work st .tone used).stagedHalf = halfPeriodOf (pitchStep st c.source used) ∧
      (c.work st .tone used).stagedDuty = meterDuty st c.source used := by
  simp [Cue.work, Cue.workTone, Cue.restartCadence]

theorem Cue.work_off :
    (c.work st .off used).cadence = 0 ∧ (c.work st .off used).stagedDuty = 0 ∧
      (c.work st .off used).stagedHalf = c.stagedHalf ∧
      (c.work st .off used).generator =
        if c.tone ≠ .off ∧ c.generator = .sounding then Generator.stopping else c.generator := by
  by_cases entry : c.tone = .off
  · simp [Cue.work, Cue.workOff, Cue.restartCadence, entry]
  · simp [Cue.work, Cue.workOff, Cue.restartCadence, entry, Ne.symm entry, Cue.silence_eq]

theorem Cue.work_stale :
    (c.work st .stale used).stagedHalf = c.stagedHalf ∧ (c.work st .stale used).stagedDuty = c.stagedDuty ∧
      (c.tone ≠ .stale →
        (c.work st .stale used).cadence = 0 ∧ (c.work st .stale used).generator = .sounding) ∧
      (c.tone = .stale →
        (c.work st .stale used).cadence = c.cadence ∧ (c.work st .stale used).generator = c.generator) := by
  by_cases entry : c.tone = .stale
  · simp [Cue.work, Cue.workStale, entry]
  · simp [Cue.work, Cue.workStale, Cue.restartCadence, entry, Ne.symm entry]

theorem Cue.work_foreign :
    (c.work st .foreign used).stagedDuty = 0 ∧ (c.work st .foreign used).generator = .sounding ∧
      (c.tone ≠ .foreign →
        (c.work st .foreign used).cadence = 0 ∧ (c.work st .foreign used).stagedHalf = 640) ∧
      (c.tone = .foreign →
        (c.work st .foreign used).cadence = c.cadence ∧ (c.work st .foreign used).stagedHalf = c.stagedHalf) := by
  by_cases entry : c.tone = .foreign
  · simp [Cue.work, Cue.workForeign, entry]
  · simp [Cue.work, Cue.workForeign, Cue.restartCadence, entry, Ne.symm entry]

theorem Cue.work_goesOn (next : ToneState) : c.GeneratorGoesOn (c.work st next used) := by
  cases next with
  | off =>
    obtain ⟨-, -, -, generator⟩ := c.work_off st used
    refine Cue.goesOn_of_kept (fun silent => by simp [generator, silent]) ?_ ?_ ?_ <;>
      (simp only [Cue.work, Cue.workOff, Cue.silence_eq]; split <;> rfl)
  | tone => exact Cue.resume_goesOn rfl rfl rfl rfl
  | stale =>
    by_cases entry : c.tone = .stale
    · simp only [Cue.work, Cue.workStale, entry, bne_self_eq_false, Bool.false_eq_true, if_false]
      exact Cue.goesOn_of_kept (fun silent => by simp [silent]) rfl rfl rfl
    · have differs : (ToneState.stale != c.tone) = true := bne_iff_ne.mpr (Ne.symm entry)
      simp only [Cue.work, Cue.workStale, differs, if_true]
      exact Cue.resume_goesOn rfl rfl rfl rfl
  | foreign =>
    simp only [Cue.work, Cue.workForeign]
    split <;> exact Cue.resume_goesOn rfl rfl rfl rfl

end

/-! ### The level used and the tone state (R92, R93) -/

theorem clampInt_toNat (hi x : Int) : (clampInt 0 hi x).toNat = (max 0 (min hi x)).toNat := by
  unfold clampInt
  split
  · omega
  · split <;> omega

/-- A partner level is stale when there is none, or when it is more than 2000 ms old (R92). -/
theorem State.partnerStale_iff (s : State) :
    s.partnerStale = true ↔ ∀ l, s.partnerLevel = some l → 2000 < s.time.now.since l.time := by
  unfold State.partnerStale State.partnerLevelAge
  cases s.partnerLevel <;> simp

theorem State.cueStale_iff (s : State) : s.cueStale = true ↔ s.cue.source = .partner ∧ s.partnerStale = true := by
  simp [State.cueStale]

theorem pitchStep_absolute {st : Settings} {source : CueSource} {l : Level} (absolute : source ≠ .relative) :
    pitchStep st source (some l) = (max 0 (min 63 ((l - st.toneFloor) / st.toneStep))).toNat := by
  rw [← clampInt_toNat]
  cases source
  case relative => exact absurd rfl absolute
  all_goals rfl

theorem meterDuty_absolute {st : Settings} {source : CueSource} {l : Level} (absolute : source ≠ .relative) :
    meterDuty st source (some l) =
      (max 0 (min ((st.modulus : Int) - 1) ((l - st.meterFloor) * st.modulus / st.meterSpan))).toNat := by
  rw [← clampInt_toNat]
  cases source
  case relative => exact absurd rfl absolute
  all_goals rfl

/-! ### The rows of the cue unit (R95, R97, R98) -/

section

variable {s : State}

theorem State.staleCadence_taken (due : s.cue.cadenceDue = true) (stale : s.cue.tone = .stale) :
    exec .staleCadence s = .next { s with cue := s.cue.staleCadence } :=
  congrArg Host.Outcome.next (if_pos (by simp [due, stale]))

theorem State.foreignCadence_taken (due : s.cue.cadenceDue = true) (foreign : s.cue.tone = .foreign) :
    exec .foreignCadence s = .next { s with cue := s.cue.foreignCadence } :=
  congrArg Host.Outcome.next (if_pos (by simp [due, foreign]))

theorem State.toggle_taken (running : s.cue.generator ≠ .silent) (ended : s.cue.liveHalf ≤ s.cue.halfCounter) :
    exec .toneToggle s = .next { s with cue := s.cue.toggle } :=
  congrArg Host.Outcome.next (if_pos (by simp [Cue.halfEnds, running, ended]))

end

theorem Cue.staleCadence_silences {c : Cue} (quarter : c.cadence = 250) :
    c.staleCadence =
      { c with
        cadenceDue := false, generator := if c.generator = .sounding then .stopping else c.generator } := by
  simp [Cue.staleCadence, quarter, Cue.silence_eq]

theorem Cue.staleCadence_resumes {c : Cue} (start : c.cadence = 0) :
    c.staleCadence = ({ c with cadenceDue := false } : Cue).resume := by
  simp [Cue.staleCadence, start]

/-! ### The supply watch (R198) -/

theorem supplyLevel_eq (code : Nat) :
    supplyLevel code = if code = 0 then 10800 else if code = 1 then 11400 else if code = 2 then 21600 else 22800 := by
  unfold supplyLevel
  split <;> simp_all

theorem supplyCondition_iff (low : Bool) (level sense : Nat) :
    supplyCondition low level sense = true ↔ if low = true then level + 300 < sense else sense < level := by
  cases low <;> simp [supplyCondition]

/-- A value that crosses one way does not cross the other way. -/
theorem supplyCondition_turned {low : Bool} {level sense : Nat} (h : supplyCondition low level sense = true) :
    ¬ supplyCondition (!low) level sense = true := by
  rw [supplyCondition_iff] at *
  cases low <;> simp at * <;> omega

end Sys2Proof.Machine

namespace Sys2Proof.Proofs

open Sys2Proof Sys2Proof.Machine

/-- Settles O20: the level used and the tone state are decided, the work of that tone state is done, and the figures are
taken from what it leaves (R91 to R94, R96 to R98, R100, R102). -/
theorem cueUpdates : Obligations.CueUpdates := by
  intro s
  refine ⟨fun early => congrArg Host.Outcome.next (if_neg (by simp [early])), fun due => ?_⟩
  dsimp only
  have taken : exec .cueUpdate s = .next s.updateCue := congrArg Host.Outcome.next (if_pos due)
  obtain ⟨source, timer, taken_, tone, used, duty, period, start, -, cadence⟩ :=
    s.cue.work_frame s.settings s.cueTone s.cueLevel
  have stale := s.partnerStale_iff
  have tone : s.updateCue.cue.tone = s.cueTone := tone
  have used : s.updateCue.cue.used = s.cueLevel := used
  have reach : ∀ next, s.updateCue.cue.tone = next → s.cueTone = next := fun _ h => tone.symm.trans h
  refine ⟨s.updateCue, taken, rfl, taken_, source, timer, duty, period, start, s.updateCue_shown, ?_, fun steer => ?_,
    fun partner old => ?_, fun partner fresh => ?_, fun relative x y level reference => ?_, fun relative absent => ?_,
    fun off => ?_, fun on foreign => ?_, fun on own partner old => ?_, fun on own fresh => ?_, fun sounds => ?_,
    fun off => ?_, fun isStale => ?_, fun isForeign => ?_, fun sounds => ?_, ?_, ?_⟩
  · rw [tone]
    exact cadence
  · rw [used, State.cueLevel, steer]
  · rw [used, State.cueLevel, partner]
    exact if_pos (stale.mpr old)
  · rw [used, State.cueLevel, partner]
    exact if_neg (fresh ∘ stale.mp)
  · rw [used, State.cueLevel, relative]
    exact congr (congrArg levelDifference level) reference
  · rw [used, State.cueLevel, relative]
    dsimp only
    rcases absent with level | reference
    · rw [level]
      rfl
    · rw [State.cueReference, reference]
      cases s.level.steeringLevel <;> rfl
  · rw [tone, State.cueTone, if_pos off]
  · have hears := (identForeign_iff s.ident.state).mpr foreign
    simp [tone, State.cueTone, on, hears]
  · have silent : ¬ identForeign s.ident.state = true := own ∘ (identForeign_iff s.ident.state).mp
    simp [tone, State.cueTone, on, silent, s.cueStale_iff.mpr ⟨partner, stale.mpr old⟩]
  · have silent : ¬ identForeign s.ident.state = true := own ∘ (identForeign_iff s.ident.state).mp
    have young : ¬ s.cueStale = true := fun isStale => by
      obtain ⟨partner, old⟩ := s.cueStale_iff.mp isStale
      exact fresh.elim (· partner) (· (stale.mp old))
    simp [tone, State.cueTone, on, silent, young]
  · obtain ⟨rest, -, half, dutyOf⟩ := s.cue.work_tone s.settings s.cueLevel
    rw [← reach _ sounds] at rest half dutyOf
    have half : s.updateCue.cue.stagedHalf = halfPeriodOf (pitchStep s.settings s.cue.source s.updateCue.cue.used) := by
      rw [used]
      exact half
    have dutyOf : s.updateCue.cue.stagedDuty = meterDuty s.settings s.cue.source s.updateCue.cue.used := by
      rw [used]
      exact dutyOf
    refine ⟨rest, fun none => ?_, fun l level absolute => ?_, fun l level relative => ?_⟩
    · rw [half, dutyOf, none]
      exact ⟨rfl, rfl⟩
    · rw [half, dutyOf, level, pitchStep_absolute absolute, meterDuty_absolute absolute]
      exact ⟨rfl, rfl⟩
    · rw [half, dutyOf, level, relative]
      exact ⟨congrArg (640 - 8 * ·) (clampInt_toNat ..), clampInt_toNat ..⟩
  · have work := s.cue.work_off s.settings s.cueLevel
    rw [← reach _ off] at work
    rw [← reach _ off]
    exact work
  · have work := s.cue.work_stale s.settings s.cueLevel
    rw [← reach _ isStale] at work
    rw [← reach _ isStale]
    exact work
  · have work := s.cue.work_foreign s.settings s.cueLevel
    rw [← reach _ isForeign] at work
    rw [← reach _ isForeign]
    exact work
  · have work := (s.cue.work_tone s.settings s.cueLevel).2.1
    rw [← reach _ sounds] at work
    exact work
  · exact (s.cue.work_goesOn s.settings s.cueLevel s.cueTone).1
  · exact (s.cue.work_goesOn s.settings s.cueLevel s.cueTone).2

/-- Settles O21: each row acts by its own condition (R95 to R99). -/
theorem cueEventsAct : Obligations.CueEventsAct := by
  intro s
  dsimp only
  refine ⟨fun idle => ?_, fun due stale => ⟨fun quarter sounding => ?_, fun quarter quiet => ?_, fun start silent => ?_,
    fun start running => ?_⟩, fun idle => ?_, fun due foreign => ⟨fun half => ?_, fun start => ?_⟩, fun early => ?_,
    fun sounding ended => ?_, fun stopping ended => ?_, fun early => ?_, fun due => ?_, ?_⟩
  · exact congrArg Host.Outcome.next (if_neg (by rcases idle with h | h <;> simp [h]))
  · rw [State.staleCadence_taken due stale, Cue.staleCadence_silences quarter, if_pos sounding]
  · rw [State.staleCadence_taken due stale, Cue.staleCadence_silences quarter, if_neg quiet]
  · rw [State.staleCadence_taken due stale, Cue.staleCadence_resumes start, Cue.resume_silent (by exact silent)]
  · rw [State.staleCadence_taken due stale, Cue.staleCadence_resumes start, Cue.resume_running (by exact running)]
  · exact congrArg Host.Outcome.next (if_neg (by rcases idle with h | h <;> simp [h]))
  · rw [State.foreignCadence_taken due foreign, Cue.foreignCadence, half]
    rfl
  · rw [State.foreignCadence_taken due foreign, Cue.foreignCadence, start]
    rfl
  · refine congrArg Host.Outcome.next (if_neg ?_)
    rcases early with silent | early
    · simp [Cue.halfEnds, silent]
    · simp [Cue.halfEnds, early]
  · rw [State.toggle_taken (by simp [sounding]) ended, Cue.toggle, sounding]
  · rw [State.toggle_taken (by simp [stopping]) ended, Cue.toggle, stopping]
  · exact congrArg Host.Outcome.next (if_neg (by simp [early]))
  · exact congrArg Host.Outcome.next (if_pos due)
  · exact decide_eq_true_iff

/-- Settles O54: the debounce starts, stays or stops with the crossing, and the state turns when it has run out (R198). -/
theorem supplyWatchDebounces : Obligations.SupplyWatchDebounces := by
  intro mv s
  dsimp only
  rw [← supplyLevel_eq]
  simp only [← supplyCondition_iff]
  refine ⟨fun quiet => ?_, fun crossed started => ?_, fun n crossed before running => ?_, fun early => ?_,
    fun due crossed => ?_⟩
  · exact congrArg (fun d => Host.Outcome.next { s with supply := { s.supply with sense := mv, debounce := d } })
      (if_neg quiet)
  · have starts : ¬ (supplyCondition s.supply.low (supplyLevel s.settings.supplyLow) s.supply.sense &&
        s.supply.debounce.isSome) = true := by rcases started with h | h <;> simp [h]
    exact congrArg (fun d => Host.Outcome.next { s with supply := { s.supply with sense := mv, debounce := d } })
      ((if_pos crossed).trans (if_neg starts))
  · have goesOn : (supplyCondition s.supply.low (supplyLevel s.settings.supplyLow) s.supply.sense &&
        s.supply.debounce.isSome) = true := by simp [before, running]
    exact congrArg (fun d => Host.Outcome.next { s with supply := { s.supply with sense := mv, debounce := d } })
      ((if_pos crossed).trans (if_pos goesOn))
  · exact congrArg Host.Outcome.next (if_neg (by rwa [Timer.due_iff]))
  · have expired : Timer.due s.supply.debounce = true := (Timer.due_iff _).mpr due
    have turned : s.supply.change (supplyLevel s.settings.supplyLow) =
        { low := !s.supply.low, debounce := none, sense := s.supply.sense } :=
      congrArg (fun d => ({ low := !s.supply.low, debounce := d, sense := s.supply.sense } : Supply))
        (if_neg (supplyCondition_turned crossed))
    refine ⟨_, congrArg Host.Outcome.next (if_pos expired), ?_, rfl⟩
    rw [turned]
    rfl

end Sys2Proof.Proofs
end

section
/-! PROOFS. The requests ADVANCE (R130 to R132; O26, O27), CUE and REPORTS (R90, R194; O30), and the automatic proposal
(R140). -/

namespace Sys2Proof.Machine

section

variable {s : State}

/-! ### CUE and REPORTS (R90, R194) -/

theorem exec_cue_taken (room : Room s) (b : Byte) :
    exec (.cue b) s = .next ({ s with site := { s.site with framer := .hunting } }.answerCue b) :=
  congrArg Host.Outcome.next (State.request_taken _ s room)

theorem exec_reports_taken (room : Room s) (mask : BitVec 24) :
    exec (.reports mask) s = .next ({ s with site := { s.site with framer := .hunting } }.answerReports mask) :=
  congrArg Host.Outcome.next (State.request_taken _ s room)

theorem cueSourceOf_none {b : Byte} (h : 2 < b.toNat) : cueSourceOf b = none := by
  unfold cueSourceOf
  split <;> first | omega | rfl

/-! ### ADVANCE (R130, R131) -/

theorem exec_advance_taken (room : Room s) (target role : Byte) :
    exec (.advance target role) s =
      .next ({ s with site := { s.site with framer := .hunting } }.answerAdvance target role) :=
  congrArg Host.Outcome.next (State.request_taken _ s room)

theorem Phase.ofCode_none {n : Nat} (h : 7 < n) : Phase.ofCode n = none := by
  unfold Phase.ofCode
  split <;> first | omega | rfl

theorem Antenna.ofCode_none {n : Nat} (h : 1 < n) : Antenna.ofCode n = none := by
  unfold Antenna.ofCode
  split <;> first | omega | rfl

/-- A byte that is no code is refused before the checks (R192; log 32). -/
theorem exec_advance_noCode (room : Room s) {target role : Byte}
    (h : Phase.ofCode target.toNat = none ∨ Antenna.ofCode role.toNat = none) :
    exec (.advance target role) s =
      .next { s with
        site := { s.site with framer := .hunting, out := s.site.out ++ [.refused 3 .badField none] } } := by
  rw [exec_advance_taken room, State.answerAdvance]
  split
  · next p a phase antenna => rcases h with h | h <;> simp_all
  · rfl

variable {target role : Byte} {p : Phase} {a : Antenna}

/-- A check that fails refuses the request (R130). -/
theorem exec_advance_refused (room : Room s) (phase : Phase.ofCode target.toNat = some p)
    (antenna : Antenna.ofCode role.toNat = some a) {r : RefuseReason} (h : s.advanceRefusal p a = some r) :
    exec (.advance target role) s =
      .next { s with
        site := { s.site with framer := .hunting, out := s.site.out ++ [.refused 3 r none] } } := by
  have refused : ({ s with site := { s.site with framer := .hunting } } : State).advanceRefusal p a = some r := h
  simp only [exec_advance_taken room, State.answerAdvance, phase, antenna, State.advance, refused]
  rfl

/-- A request that passes every check is accepted and proposes (R130, R131). -/
theorem exec_advance_accepted (room : Room s) (phase : Phase.ofCode target.toNat = some p)
    (antenna : Antenna.ofCode role.toNat = some a) (h : s.advanceRefusal p a = none) :
    exec (.advance target role) s =
      .next (({ s with
        site :=
          { s.site with
            framer := .hunting
            out := s.site.out ++ [.accepted (.advance s.hop.nextNumber p) []] } } : State).propose p a false) := by
  have accepted : ({ s with site := { s.site with framer := .hunting } } : State).advanceRefusal p a = none := h
  simp only [exec_advance_taken room, State.answerAdvance, phase, antenna, State.advance, accepted]
  rfl

/-- The checks of R130 up to the legality of the target, passed. -/
theorem State.advanceRefusal_checked (configured : s.station ≠ none)
    (fits : ¬ (p = .sweep ∧ a = .div ∧ s.settings.diversity = false)) (free : s.hop.outstanding = none)
    (agreed : s.route.conflict = false) (heard : s.route.partner ≠ .lost) :
    s.advanceRefusal p a =
      if legalSuccessor s.settings.marginEnabled s.hop.phase p = false then some .notLegal
      else (s.precondition p).map refusalOf := by
  obtain ⟨st, station⟩ := Option.ne_none_iff_exists'.mp configured
  simp [State.advanceRefusal, State.configured, station, fits, free, agreed, heard]

/-! ### A proposal made (R131) -/

/-- A proposal of a configured station takes the next number, is recorded and queues its PROPOSE. -/
theorem State.propose_made {st : Station} (configured : s.station = some st) (automatic : Bool) :
    let carried := if p = .sweep then a else .main
    let queued := queuedFor st (.propose { number := s.hop.nextNumber, target := p, role := carried }) s.draws s.route
    s.propose p a automatic =
      { s with
        draws := queued.1, route := queued.2
        hop :=
          { s.hop with
            nextNumber := if 255 ≤ s.hop.nextNumber then 1 else s.hop.nextNumber + 1
            outstanding :=
              some
                { number := s.hop.nextNumber, target := p, role := carried, attempts := 1, automatic := automatic }
            mismatch := 0, answerTimer := some 2000 } } := by
  rw [State.propose, State.send_queuedFor _ st _ (by exact configured)]
  rfl

/-- The automatic timer's expiry proposes when the condition stands and every check passes (R140). -/
theorem State.autoExpired_proposes (target : s.autoTarget = some p) (may : s.mayPropose p = true) :
    s.autoExpired = ({ s with hop := { s.hop with autoTimer := none } } : State).propose p .main true := by
  have sameTarget : ({ s with hop := { s.hop with autoTimer := none } } : State).autoTarget = some p := target
  have sameMay : ({ s with hop := { s.hop with autoTimer := none } } : State).mayPropose p = true := may
  simp only [State.autoExpired, State.autoTry, sameTarget, sameMay, if_true]

theorem exec_automaticTimerExpiry_due (due : s.hop.autoTimer = some 0) :
    exec .automaticTimerExpiry s = .next s.autoExpired :=
  congrArg Host.Outcome.next (if_pos ((Timer.due_iff _).mpr due))

end

theorem Soak.isComplete_iff (k : Soak) : k.isComplete = true ↔ k.state = .closed := by
  simp [Soak.isComplete]

end Sys2Proof.Machine

namespace Sys2Proof.Proofs

open Sys2Proof Sys2Proof.Machine

/-- Settles O30: each byte and each mask by its case (R90, R194). -/
theorem cueAndReportsAreSet : Obligations.CueAndReportsAreSet := by
  intro b mask s room
  dsimp only
  refine ⟨?_, ?_, ?_, fun large => ?_, fun fits => ?_, fun large => ?_⟩
  · rintro rfl
    rw [exec_cue_taken room]
    rfl
  · rintro rfl
    rw [exec_cue_taken room]
    rfl
  · rintro rfl
    rw [exec_cue_taken room]
    rfl
  · rw [exec_cue_taken room, State.answerCue, cueSourceOf_none large]
    rfl
  · rw [exec_reports_taken room, State.answerReports, if_pos (by omega)]
    rfl
  · rw [exec_reports_taken room, State.answerReports, if_neg (by omega)]
    rfl

/-- Settles O27: the checks in their order (R130). -/
theorem advanceIsRefused : Obligations.AdvanceIsRefused := by
  intro target role s room
  refine ⟨fun noCode => ?_, fun p a phase antenna => ?_⟩
  · exact exec_advance_noCode room (noCode.imp Phase.ofCode_none Antenna.ofCode_none)
  · dsimp only
    refine ⟨fun unset => ?_, fun configured noDiv => ?_, fun configured fits => ⟨fun pending => ?_, fun free =>
      ⟨fun conflict => ?_, fun agreed lost => ?_, fun agreed heard => ?_⟩⟩⟩
    · exact exec_advance_refused room phase antenna (by simp [State.advanceRefusal, State.configured, unset])
    · obtain ⟨st, station⟩ := Option.ne_none_iff_exists'.mp configured
      exact exec_advance_refused room phase antenna (by simp [State.advanceRefusal, State.configured, station, noDiv])
    · obtain ⟨st, station⟩ := Option.ne_none_iff_exists'.mp configured
      obtain ⟨q, outstanding⟩ := Option.ne_none_iff_exists'.mp pending
      exact exec_advance_refused room phase antenna
        (by simp [State.advanceRefusal, State.configured, station, fits, outstanding])
    · obtain ⟨st, station⟩ := Option.ne_none_iff_exists'.mp configured
      exact exec_advance_refused room phase antenna
        (by simp [State.advanceRefusal, State.configured, station, fits, free, conflict])
    · obtain ⟨st, station⟩ := Option.ne_none_iff_exists'.mp configured
      exact exec_advance_refused room phase antenna
        (by simp [State.advanceRefusal, State.configured, station, fits, free, agreed, lost])
    · have checked := State.advanceRefusal_checked configured fits free agreed heard
      refine ⟨fun illegal => ?_, fun legal confirm none => ?_, fun legal soak few => ?_, fun legal margin opened => ?_,
        fun legal handover inMargin undone => ?_, fun legal handover other opened => ?_⟩
      · exact exec_advance_refused room phase antenna (checked.trans (if_pos illegal))
      all_goals
        refine exec_advance_refused room phase antenna ((checked.trans (if_neg legal)).trans ?_)
        subst p
      · simp [State.precondition, none, refusalOf]
      · simp [State.precondition, few, refusalOf]
      · simp [State.precondition, Soak.isComplete_iff, opened, refusalOf]
      · simp [State.precondition, inMargin, undone, refusalOf]
      · simp [State.precondition, Soak.isComplete_iff, other, opened, refusalOf]

/-- Settles O26: an ADVANCE that passes every check, and the automatic timer's expiry with its condition standing, each
propose (R131, R140). -/
theorem proposalIsMade : Obligations.ProposalIsMade := by
  intro st s configured free agreed heard
  dsimp only
  have automatic : ∀ p, s.hop.autoTimer = some 0 → s.autoTarget = some p → p ≠ .sweep →
      legalSuccessor s.settings.marginEnabled s.hop.phase p = true → s.precondition p = none →
      exec .automaticTimerExpiry s =
        .next (({ s with hop := { s.hop with autoTimer := none } } : State).propose p .main true) := by
    intro p due target _ legal ready
    rw [exec_automaticTimerExpiry_due due, State.autoExpired_proposes target]
    simp [State.mayPropose, free, agreed, heard, legal, ready]
  refine ⟨fun target role p a room phase antenna fits legal ready => ?_, fun p due endA =>
    ⟨fun soak closed named => ?_, fun inMargin done named => ?_⟩⟩
  · have passed : s.advanceRefusal p a = none := by
      rw [State.advanceRefusal_checked (by simp [configured]) fits free agreed heard, legal, ready]
      rfl
    rw [exec_advance_accepted room phase antenna passed, State.propose_made (by exact configured)]
    exact ⟨_, rfl, ⟨rfl, rfl⟩, rfl, rfl⟩
  · have target : s.autoTarget = some p := by
      simp [State.autoTarget, configured, endA, soak, Soak.isComplete_iff, closed, named]
    have notSweep : p ≠ .sweep := by rw [named]; split <;> simp
    rw [automatic p due target notSweep ?_ ?_, State.propose_made (by exact configured)]
    · exact ⟨_, rfl, ⟨by simp, by simp; rfl⟩, rfl⟩
    · rw [soak, named]
      cases s.settings.marginEnabled <;> rfl
    · rw [named]
      split <;> simp [State.precondition, soak, Soak.isComplete_iff, closed]
  · have target : s.autoTarget = some p := by
      simp [State.autoTarget, configured, endA, inMargin, done, named]
    rw [automatic p due target (by simp [named]) ?_ ?_, State.propose_made (by exact configured)]
    · exact ⟨_, rfl, ⟨by simp, by simp; rfl⟩, rfl⟩
    · rw [inMargin, named]
      rfl
    · simp [named, State.precondition, inMargin, done]

end Sys2Proof.Proofs
end

section
/-! PROOFS. The queries of the site port (R22, R34, R43, R63, R64, R80, R86, R87, R102, R116, R119, R147, R164, R189,
R192, R199; O22). -/

namespace Sys2Proof.Machine

/-! ### The replies -/

section

variable {s : State}

/-- A query taken with room is answered on the state standing (R192). -/
theorem State.request_accept (room : Room s) (reply : State → Reply) :
    s.request (fun x => x.accept (reply x)) =
      { s with
        site :=
          { s.site with
            framer := .hunting
            out := s.site.out ++ [.accepted (reply { s with site := { s.site with framer := .hunting } }) []] } } :=
  State.request_taken _ s room

theorem State.lobeOffset_eq (s : State) :
    s.lobeOffset =
      match s.lobe.state, s.lobe.list with
      | .complete, top :: _ =>
        some
          { az := s.settings.geometry.centreAz top.cell.column - s.pos.snapshot.az
            el := s.settings.geometry.centreEl top.cell.row - s.pos.snapshot.el }
      | _, _ => none := by
  unfold State.lobeOffset Analyser.top
  split
  · next complete =>
    rw [complete]
    cases s.lobe.list <;> rfl
  · next other =>
    split
    · next complete _ => exact absurd complete other
    · rfl

theorem State.mapCellReply_eq (column row : Nat) (s : State) :
    let cell := s.map.find { column := column, row := row }
    s.mapCellReply column row =
      { serial := s.hop.serial, state := s.map.state, column := column, row := row
        count := (cell.map CellRecord.count).getD 0, best := cell.map CellRecord.best
        visit := cell.map CellRecord.visit, centreAz := s.settings.geometry.centreAz column
        centreEl := s.settings.geometry.centreEl row
        current :=
          s.settings.geometry.place s.pos.snapshot.az s.pos.snapshot.el ==
            some { column := column, row := row } } := by
  dsimp only
  rw [State.mapCellReply]
  congr 1
  cases s.map.find { column := column, row := row } <;> rfl

theorem identGates_iff (i : IdentState) : identGates i = true ↔ i = .own ∨ ∃ h, i = .foreign h := by
  cases i <;> simp [identGates]

end

end Sys2Proof.Machine

namespace Sys2Proof.Proofs

open Sys2Proof Sys2Proof.Machine

/-- Settles O22: each query is taken with room, and its reply is the model's on the state standing. -/
theorem queriesAreAnswered : Obligations.QueriesAreAnswered := by
  intro s room
  refine ⟨Geometry.places_by_rule _, ?_⟩
  have taken : ∀ handle : State → State, (Host.Outcome.next (s.request handle) : Result) =
      .next (handle { s with site := { s.site with framer := .hunting } }) :=
    fun handle => congrArg Host.Outcome.next (State.request_taken handle s room)
  dsimp only
  refine ⟨taken _, ⟨identGates s.ident.state, identGates_iff _, taken _⟩, taken _, fun column row inside below => ?_, taken _,
    fun idle => ?_, taken _, taken _, taken _, taken _, taken _, taken _, fun running => ?_, fun column row outside => ?_⟩
  · refine (taken _).trans ?_
    rw [State.answerMapCell, if_pos (by exact ⟨inside, below⟩), State.mapCellReply_eq]
    rfl
  · refine (taken _).trans ?_
    rw [State.answerLobes, if_neg (by exact idle), State.lobesReply, State.lobeOffset_eq]
    rfl
  · refine (taken _).trans ?_
    rw [State.answerLobes, if_pos (by exact running)]
    rfl
  · refine (taken _).trans ?_
    rw [State.answerMapCell, if_neg (by show ¬ (_ < s.settings.geometry.columns ∧ _ < s.settings.geometry.rows); omega)]
    rfl

end Sys2Proof.Proofs
end

section
/-! PROOFS. The settings that a Setup Record gives, and its clamped fields (R5, R6, R14, R17, R46, R48, R67, R101, R156,
R158, R166, R195, R198; O25). -/

namespace Sys2Proof.Machine

/-! ### Bringing a value into its range (R195) -/

/-- A clamped value lies in the range, and is the value given or its nearer end. -/
theorem clampInt_near {lo hi : Int} (h : lo ≤ hi) (x : Int) :
    lo ≤ clampInt lo hi x ∧ clampInt lo hi x ≤ hi ∧ (lo ≤ x → x ≤ hi → clampInt lo hi x = x) ∧
      (x < lo → clampInt lo hi x = lo) ∧ (hi < x → clampInt lo hi x = hi) := by
  rw [clampInt_eq lo hi x h]
  omega

theorem clampNat_near {lo hi : Nat} (h : lo ≤ hi) (x : Nat) :
    lo ≤ clampNat lo hi x ∧ clampNat lo hi x ≤ hi ∧ (lo ≤ x → x ≤ hi → clampNat lo hi x = x) ∧
      (x < lo → clampNat lo hi x = lo) ∧ (hi < x → clampNat lo hi x = hi) := by
  rw [clampNat_eq lo hi x h]
  omega

/-- A level setting is brought into the range of the levels (R5). -/
theorem takeLevel_near (l : Level) :
    -1200 ≤ takeLevel l ∧ takeLevel l ≤ -100 ∧ (-1200 ≤ l → l ≤ -100 → takeLevel l = l) ∧
      (l < -1200 → takeLevel l = -1200) ∧ (-100 < l → takeLevel l = -100) := clampInt_near (by decide) l

theorem take8or32_eq (n : Nat) : (n < 32 → take8or32 n = 8) ∧ (32 ≤ n → take8or32 n = 32) :=
  ⟨fun h => if_pos h, fun h => if_neg (by omega)⟩

theorem takeFlag_iff (n : Nat) : takeFlag n = true ↔ n ≠ 0 := bne_iff_ne

theorem takeColumns_near (n : Nat) :
    (8 ≤ takeColumns n ∧ takeColumns n ≤ 32 ∧ (8 ≤ n - n % 4 → n - n % 4 ≤ 32 → takeColumns n = n - n % 4) ∧
      (n - n % 4 < 8 → takeColumns n = 8) ∧ (32 < n - n % 4 → takeColumns n = 32)) ∧ takeColumns n % 4 = 0 := by
  rw [takeColumns, clampNat_eq 8 32 _ (by decide)]
  omega

theorem takeRows_near (n : Nat) :
    (4 ≤ takeRows n ∧ takeRows n ≤ 16 ∧ (4 ≤ n - n % 2 → n - n % 2 ≤ 16 → takeRows n = n - n % 2) ∧
      (n - n % 2 < 4 → takeRows n = 4) ∧ (16 < n - n % 2 → takeRows n = 16)) ∧ takeRows n % 2 = 0 := by
  rw [takeRows, clampNat_eq 4 16 _ (by decide)]
  omega

/-- The modulus taken is the largest allowed one at or below the value, or 16 (R101). -/
theorem takeModulus_largest (n : Nat) :
    (takeModulus n = 16 ∨ takeModulus n = 32 ∨ takeModulus n = 64 ∨ takeModulus n = 256) ∧
      (16 ≤ n → takeModulus n ≤ n) ∧ (n < 16 → takeModulus n = 16) ∧
      ∀ m, m = 32 ∨ m = 64 ∨ m = 256 → m ≤ n → m ≤ takeModulus n := by
  unfold takeModulus
  refine ⟨?_, ?_, ?_, ?_⟩
  · split
    · simp
    · split
      · simp
      · split <;> simp
  all_goals
    intros
    split
    · omega
    · split
      · omega
      · split <;> omega

theorem takeInput_eq (n : Nat) :
    takeInput n =
      if n = 0 then Input.detA else if n = 1 then Input.detB else if n = 2 then Input.detC else Input.detD := by
  unfold takeInput
  split <;> simp_all

theorem testBit_iff (n k : Nat) : n.testBit k = true ↔ n / 2 ^ k % 2 = 1 := by
  rw [Nat.testBit_eq_decide_div_mod_eq, decide_eq_true_iff]

/-- A profile taken (R14, R17). -/
theorem takeProfile_taken (p : ProfileFields) :
    (0 ≤ (takeProfile p).shift ∧ (takeProfile p).shift ≤ 7 ∧
      (0 ≤ p.shift → p.shift ≤ 7 → (takeProfile p).shift = p.shift) ∧ (p.shift < 0 → (takeProfile p).shift = 0) ∧
      (7 < p.shift → (takeProfile p).shift = 7)) ∧
    ((p.filter < 32 → (takeProfile p).filter = 8) ∧ (32 ≤ p.filter → (takeProfile p).filter = 32)) ∧
    (∀ q, -1200 ≤ (takeProfile p).thresholds.get q ∧ (takeProfile p).thresholds.get q ≤ -100 ∧
      (-1200 ≤ p.thresholds.get q → p.thresholds.get q ≤ -100 →
        (takeProfile p).thresholds.get q = p.thresholds.get q) ∧
      (p.thresholds.get q < -1200 → (takeProfile p).thresholds.get q = -1200) ∧
      (-100 < p.thresholds.get q → (takeProfile p).thresholds.get q = -100)) ∧
    (5 ≤ (takeProfile p).hysteresis ∧ (takeProfile p).hysteresis ≤ 50 ∧
      (5 ≤ p.hysteresis → p.hysteresis ≤ 50 → (takeProfile p).hysteresis = p.hysteresis) ∧
      (p.hysteresis < 5 → (takeProfile p).hysteresis = 5) ∧ (50 < p.hysteresis → (takeProfile p).hysteresis = 50)) ∧
    ((takeProfile p).cueOn = true ↔ p.cueOn ≠ 0) := by
  refine ⟨clampNat_near (by decide) _, take8or32_eq _, fun q => ?_, clampNat_near (by decide) _, takeFlag_iff _⟩
  have threshold : (takeProfile p).thresholds.get q = takeLevel (p.thresholds.get q) := ByRole.get_map _ _ q
  rw [threshold]
  exact takeLevel_near _

theorem takeSettings_calibration (r : SetupRecord) (i : Input) :
    (takeSettings r).calibration.get i = takeCalibration (r.calibration.get i) := by cases i <;> rfl

/-! ### The clamped fields (R195) -/

/-- Fields that are never clamped may be left out. -/
theorem filter_clamped_skip (skip : List Nat) {fields : List (Nat × Bool)}
    (never : ∀ p ∈ fields.filter fun p => skip.contains p.1, p.2 = false) :
    fields.filter Prod.snd = (fields.filter fun p => !skip.contains p.1).filter Prod.snd := by
  rw [List.filter_filter]
  refine List.filter_congr fun p member => ?_
  by_cases skipped : skip.contains p.1 = true
  · simp [never p (List.mem_filter.mpr ⟨member, skipped⟩)]
  · simp only [Bool.eq_false_iff.mpr skipped, Bool.not_false, Bool.and_true]

end Sys2Proof.Machine

namespace Sys2Proof.Proofs

open Sys2Proof Sys2Proof.Machine

/-- Settles O25: each setting by the rule that brings it into its range, the clamped fields by their numbers (R195). -/
theorem takenSettingsLieInRange : Obligations.TakenSettingsLieInRange := by
  intro r
  dsimp only
  obtain ⟨columns, columnsFour⟩ := takeColumns_near r.columns
  obtain ⟨rows, rowsTwo⟩ := takeRows_near r.rows
  obtain ⟨allowed, below, least, largest⟩ := takeModulus_largest r.modulus
  refine ⟨fun i => ?_, fun q => ?_, takeFlag_iff _, takeFlag_iff _, takeLevel_near _, takeLevel_near _,
    clampNat_near (by decide) _, clampNat_near (by decide) _, clampNat_near (by decide) _, clampNat_near (by decide) _,
    clampNat_near (by decide) _, columns, columnsFour, rows, rowsTwo, clampNat_near (by decide) _,
    clampNat_near (by decide) _, take8or32_eq _, takeProfile_taken _, takeProfile_taken _, clampInt_near (by decide) _,
    clampNat_near (by decide) _, takeLevel_near _, clampNat_near (by decide) _, allowed, below, least, largest,
    fun words given => ?_, fun none => ?_, clampNat_near (by decide) _, rfl, rfl, rfl, takeFlag_iff _,
    clampNat_near (by decide) _, clampNat_near (by decide) _, clampNat_near (by decide) _, ?_, ?_, ?_, ?_, ?_⟩
  · rw [takeSettings_calibration]
    exact ⟨clampInt_near (by decide) _, clampNat_near (by decide) _⟩
  · rw [← takeInput_eq]
    exact ByRole.get_map _ _ q
  · simp [takeSettings, given]
  · simp only [takeSettings, none]
    rfl
  · exact (testBit_iff _ 0).trans (by simp)
  · exact testBit_iff _ 1
  · exact testBit_iff _ 2
  · show _ ∧ min 3 r.supplyLow ≤ 3 ∧ (_ → _ → min 3 r.supplyLow = _) ∧ (_ → min 3 r.supplyLow = 0) ∧
      (_ → min 3 r.supplyLow = 3)
    omega
  · rw [clampedFields, numbersFrom_eq, filter_clamped_skip [52, 54, 55, 56, 61]]
    · rfl
    · have never : (((List.range' 4 (changedFields r).length).zip (changedFields r)).filter
          fun p => [52, 54, 55, 56, 61].contains p.1) =
          [(52, false), (54, false), (55, false), (56, false), (61, false)] := rfl
      rw [never]
      simp

end Sys2Proof.Proofs
end

section
/-! PROOFS. The output queue and the messages of the site port (R191, R193, R194; O23), and the levels of a line (R104,
R191). -/

namespace Sys2Proof.Machine

/-! ### The levels of a line (R104, R191) -/

theorem characterOf_length (b : Byte) : (characterOf b).length = 10 := by simp [characterOf]

theorem lineLevels_cons (b : Byte) (bs : List Byte) : lineLevels (b :: bs) = characterOf b ++ lineLevels bs := rfl

theorem lineLevels_length (bs : List Byte) : (lineLevels bs).length = 10 * bs.length := by
  induction bs with
  | nil => rfl
  | cons b bs ih =>
    rw [lineLevels_cons, List.length_append, characterOf_length, ih, List.length_cons]
    omega

/-- The ten levels of a byte stand behind those of the bytes before it. -/
theorem lineLevels_at {bs : List Byte} {n : Nat} {b : Byte} (h : bs[n]? = some b) {i : Nat} (inside : i < 10) :
    (lineLevels bs).getD (10 * n + i) true = (characterOf b).getD i true := by
  induction bs generalizing n with
  | nil => cases h
  | cons c cs ih =>
    have whole := characterOf_length c
    rw [lineLevels_cons]
    cases n with
    | zero =>
      obtain rfl : c = b := by simpa using h
      rw [List.getD_eq_getElem?_getD, List.getElem?_append_left (by omega), ← List.getD_eq_getElem?_getD, Nat.mul_zero,
        Nat.zero_add]
    | succ m =>
      have place : 10 * (m + 1) + i - 10 = 10 * m + i := by omega
      rw [List.getD_eq_getElem?_getD, List.getElem?_append_right (by omega), whole, place, ← List.getD_eq_getElem?_getD,
        ih (by simpa using h)]

/-- Each byte is a low start bit, eight data bits, least significant first, and a high stop bit; the line rests high. -/
theorem lineLevels_carry (bs : List Byte) :
    (∀ n b, bs[n]? = some b →
      (lineLevels bs).getD (10 * n) true = false ∧
        (∀ i, i < 8 → (lineLevels bs).getD (10 * n + 1 + i) true = b.getLsbD i) ∧
        (lineLevels bs).getD (10 * n + 9) true = true) ∧
    ∀ n, 10 * bs.length ≤ n → (lineLevels bs).getD n true = true := by
  refine ⟨fun n b at_ => ⟨?_, fun i inside => ?_, ?_⟩, fun n past => ?_⟩
  · exact lineLevels_at at_ (i := 0) (by decide)
  · rw [Nat.add_assoc, lineLevels_at at_ (by omega)]
    rw [Nat.add_comm 1 i]
    show ((List.range 8).map (fun i => b.getLsbD i) ++ [true]).getD i true = _
    have first : i < ((List.range 8).map fun i => b.getLsbD i).length := by
      rw [List.length_map, List.length_range]
      exact inside
    rw [List.getD_eq_getElem?_getD, List.getElem?_append_left first]
    simp [inside]
  · exact lineLevels_at at_ (by decide)
  · have outside : (lineLevels bs)[n]? = none := List.getElem?_eq_none (by rw [lineLevels_length]; exact past)
    rw [List.getD_eq_getElem?_getD, outside, Option.getD_none]

/-! ### The queue (R192 to R194) -/

/-- Each request of the site port is taken by its handler. -/
theorem exec_request {c : Instr} (request : isRequest c = true) :
    ∃ handle : State → State, ∀ s, exec c s = .next (s.request handle) := by
  cases c
  case setup | queryStatus | queryLevels | queryPosition | queryMapCell | queryMapSummary | queryLobes | queryVerdict |
    queryRoster | querySoak | queryFades | queryMargin | queryHandover | advance | abort | restart | zero | cue |
    reports | unknownRequest => exact ⟨_, fun _ => rfl⟩
  all_goals exact absurd request Bool.false_ne_true

/-- The port after an event: its flag set and kept by the waiting replies, and its report queued, dropped or not asked for
(R193, R194). -/
theorem Site.signal_cases (r : Report) (p : Site) {keep : SiteMessage → SiteMessage}
    (keeps : ∀ m, keep m = m.keepFlag r.event) :
    (p.mask.getLsbD r.event.bit = true → p.out.length < 8 →
      p.signal r =
        { p with
          flags := (p.signal r).flags, out := p.out.map keep ++ [.report r] }) ∧
    (p.mask.getLsbD r.event.bit = true → 8 ≤ p.out.length →
      p.signal r =
        { p with
          flags := (p.signal r).flags, out := p.out.map keep
          counters := { p.counters with drops := min 65535 (p.counters.drops + 1) } }) ∧
    (p.mask.getLsbD r.event.bit = false →
      p.signal r = { p with flags := (p.signal r).flags, out := p.out.map keep }) := by
  obtain rfl : keep = SiteMessage.keepFlag r.event := funext keeps
  simp only [Site.signal_flags]
  refine ⟨fun enabled room => ?_, fun enabled full => ?_, fun masked => ?_⟩
  · have enabled : reportEnabled (p.raiseFlag r.event).mask r.event = true := enabled
    have room : (p.raiseFlag r.event).out.length < outLimit := by simpa [outLimit] using room
    rw [Site.signal, if_pos enabled, Site.queueReport, if_pos room]
    rfl
  · have enabled : reportEnabled (p.raiseFlag r.event).mask r.event = true := enabled
    have full : ¬ (p.raiseFlag r.event).out.length < outLimit := by simpa [outLimit] using full
    rw [Site.signal, if_pos enabled, Site.queueReport, if_neg full, satInc_eq]
    rfl
  · have masked : ¬ reportEnabled (p.raiseFlag r.event).mask r.event = true := Bool.eq_false_iff.mp masked
    rw [Site.signal, if_neg masked]
    rfl

/-- The checksum brings the sum to 0 (R191). -/
theorem byteSum_checked (bs : List Byte) : byteSum (bs ++ [-(byteSum bs)]) = 0 := by
  rw [byteSum, List.foldl_append]
  exact BitVec.add_right_neg (byteSum bs)

theorem mem_cleared_iff (m : SiteMessage) (f : EventFlag) :
    f ∉ m.cleared ↔ ∀ r clears, m = .accepted r clears → f ∉ clears := by
  cases m <;> simp [SiteMessage.cleared]

end Sys2Proof.Machine

namespace Sys2Proof.Proofs

open Sys2Proof Sys2Proof.Machine

/-- Settles O23: a request with a full queue, the head's transmission, an event, and the bytes of the messages (R191,
R193, R194). -/
theorem outputQueueTakesAndSends : Obligations.OutputQueueTakesAndSends := by
  unfold Obligations.OutputQueueTakesAndSends
  intro kind requestType
  have kindOf : ∀ r, kind r = (r.event, r.event.bit) := fun r => by cases r <;> rfl
  refine ⟨fun c s request full => ?_, fun s => ⟨fun empty => ?_, fun m rest head => ?_⟩, fun r s => ?_,
    fun m => ⟨_, rfl, byteSum_checked _⟩, fun t reason field => ?_, fun r clears => ⟨r.bytes, ?_⟩,
    fun r => ⟨r.bytes, ?_⟩, fun p => lineLevels_carry p.wire⟩
  · obtain ⟨handle, taken⟩ := exec_request request
    rw [taken, State.request_full handle s full, satInc_eq]
  · show Host.Outcome.next { s with site := s.site.transmit } = _
    rw [Site.transmit, empty]
  · have sent : s.site.transmit =
        { s.site with out := rest, sending := some m, flags := s.site.transmit.flags } := by
      simp [Site.transmit, head]
    refine ⟨{ s with site := s.site.transmit }, rfl, ?_, ?_, fun f => ?_⟩
    · exact State.eq_of_fields (by simpa using sent)
    · rw [sent]
      rfl
    · rw [← mem_cleared_iff]
      exact Site.mem_transmit_flags f m rest s.site head
  · rw [kindOf r]
    refine ⟨rfl, fun g => Site.mem_signal_flags r g s.site, Site.signal_cases r s.site fun m => ?_⟩
    cases m <;> rfl
  · cases reason <;> cases field <;> rfl
  · cases r <;> rfl
  · cases r <;> rfl

end Sys2Proof.Proofs
end

section
/-! PROOFS. What follows from the partner's roster entry (R112, R114, R122), and a run of events of the site port. -/

namespace Sys2Proof.Machine

/-! ### A run of events (R193, R194) -/

/-- The port q is the port p after events, one after another. -/
def Signalled (p q : Site) : Prop := ∃ reports : List Report, q = reports.foldl (fun x r => x.signal r) p

namespace Signalled

variable {p q : Site}

theorem refl (p : Site) : Signalled p p := ⟨[], rfl⟩

theorem ofEq (h : q = p) : Signalled p q := ⟨[], h⟩

theorem trans {r : Site} (h : Signalled p q) (g : Signalled q r) : Signalled p r := by
  obtain ⟨xs, rfl⟩ := h
  obtain ⟨ys, rfl⟩ := g
  exact ⟨xs ++ ys, List.foldl_append.symm⟩

theorem one (r : Report) (p : Site) : Signalled p (p.signal r) := ⟨[r], rfl⟩

theorem signal (h : Signalled p q) (r : Report) : Signalled p (q.signal r) := h.trans (one r q)

/-- What every event keeps, a run of events keeps. -/
theorem keeps {P : Site → Prop} (each : ∀ (r : Report) (x : Site), P x → P (x.signal r)) (h : Signalled p q) (start : P p) :
    P q := by
  obtain ⟨reports, rfl⟩ := h
  induction reports generalizing p with
  | nil => exact start
  | cons r rs ih => exact ih (each r p start)

/-- A flag that is set stays set (R194). -/
theorem flag {f : EventFlag} (h : Signalled p q) (set : f ∈ p.flags) : f ∈ q.flags :=
  h.keeps (P := fun x => f ∈ x.flags) (fun r x set => (Site.mem_signal_flags r f x).mpr (.inr set)) set

/-- A waiting reply that clears no flag stays in its place (R193). -/
theorem reply {n : Nat} {r : Reply} (h : Signalled p q) (stands : p.out[n]? = some (.accepted r [])) :
    q.out[n]? = some (.accepted r []) := by
  refine h.keeps (P := fun x => x.out[n]? = some (.accepted r [])) (fun s x stands => ?_) stands
  have kept : (x.out.map (SiteMessage.keepFlag s.event))[n]? = some (.accepted r []) := by
    simp [stands, SiteMessage.keepFlag]
  obtain ⟨inside, value⟩ := List.getElem?_eq_some_iff.mp kept
  rw [List.prefix_iff_getElem?.mp (Site.signal_prefix s x) n inside, value]

theorem mask (h : Signalled p q) : q.mask = p.mask :=
  h.keeps (P := fun x => x.mask = p.mask) (fun r x same => by simpa using same) rfl

theorem ite {c : Prop} [Decidable c] {a b : Site} (h : Signalled p a) (g : Signalled p b) :
    Signalled p (if c then a else b) := by
  split
  · exact h
  · exact g

end Signalled

/-! ### The partner liveness (R114) -/

theorem State.handoverIncomplete_eq (s : State) :
    s.handoverIncomplete = { s with handover := s.handoverIncomplete.handover, site := s.handoverIncomplete.site } := by
  unfold State.handoverIncomplete
  split
  · rfl
  · split <;> rfl

theorem State.handoverIncomplete_signalled (s : State) : Signalled s.site s.handoverIncomplete.site := by
  unfold State.handoverIncomplete
  split
  · exact .refl _
  · split
    · exact .one ..
    · exact .refl _

/-- A liveness that the roster confirms changes nothing. -/
theorem State.refreshPartner_same {s : State} (h : s.partnerShows = s.route.partner) : s.refreshPartner = s := if_pos h

/-- A change of it is an event; LOST makes a PENDING record INCOMPLETE (R200). -/
theorem State.refreshPartner_changed {s : State} (h : s.partnerShows ≠ s.route.partner) :
    s.refreshPartner =
      let told : State :=
        { s with
          route := { s.route with partner := s.partnerShows }
          site := s.site.signal (.partner s.partnerShows s.partnerAge) }
      if s.partnerShows = .lost then told.handoverIncomplete else told := if_neg h

theorem State.refreshPartner_route (s : State) :
    s.refreshPartner.route = { s.route with partner := s.partnerShows } := by
  by_cases h : s.partnerShows = s.route.partner
  · rw [State.refreshPartner_same h, h]
  · rw [State.refreshPartner_changed h]
    dsimp only
    split
    · rw [State.handoverIncomplete_eq]
    · rfl

theorem State.refreshPartner_signalled (s : State) :
    Signalled s.site s.refreshPartner.site ∧
      (s.partnerShows ≠ s.route.partner → EventFlag.partner ∈ s.refreshPartner.site.flags) := by
  by_cases h : s.partnerShows = s.route.partner
  · rw [State.refreshPartner_same h]
    exact ⟨.refl _, fun changed => absurd h changed⟩
  · rw [State.refreshPartner_changed h]
    have first := Signalled.one (.partner s.partnerShows s.partnerAge) s.site
    have event : EventFlag.partner ∈ (s.site.signal (.partner s.partnerShows s.partnerAge)).flags :=
      (Site.mem_signal_flags ..).mpr (.inl rfl)
    dsimp only
    split
    · have rest := State.handoverIncomplete_signalled
        { s with
          route := { s.route with partner := s.partnerShows }
          site := s.site.signal (.partner s.partnerShows s.partnerAge) }
      exact ⟨first.trans rest, fun _ => rest.flag event⟩
    · exact ⟨first, fun _ => event⟩

/-! ### The ends conflict (R112) -/

/-- The partner's entry conflicts with the own end and hop. -/
def State.conflictsNow (s : State) : Bool :=
  match s.station, s.partnerEntry with
  | some st, some e => conflicts st e
  | _, _ => false

/-- The report of an ends conflict, from the partner's entry. -/
def State.conflictReport (s : State) : Report :=
  match s.partnerEntry with
  | some e => .endsConflict e.hop e.hopEnd
  | none => .endsConflict 0 .a

theorem State.decideConflict_eq (s : State) :
    s.decideConflict =
      { s with
        route := { s.route with conflict := s.conflictsNow }
        site :=
          if s.conflictsNow = true ∧ s.route.conflict = false then s.site.signal s.conflictReport else s.site } := by
  unfold State.decideConflict State.conflictsNow State.conflictReport
  rcases Option.eq_none_or_eq_some s.station with station | ⟨st, station⟩ <;>
    rcases Option.eq_none_or_eq_some s.partnerEntry with entry | ⟨e, entry⟩ <;>
    simp only [station, entry, Bool.false_eq_true, false_and, if_false]
  cases conflicts st e <;> cases s.route.conflict <;> rfl

theorem conflicts_iff (st : Station) (e : RosterEntry) :
    conflicts st e = true ↔ e.hopEnd = st.hopEnd ∨ e.hop ≠ st.hop := by simp [conflicts]

/-! ### The LEVEL condition (R122) -/

theorem State.updateLevelCondition_quiet {s : State} (h : s.levelCondition = false) :
    s.updateLevelCondition = { s with route := { s.route with levelTimer := none } } :=
  if_neg (Bool.eq_false_iff.mp h)

theorem State.updateLevelCondition_runs {s : State} {n : Nat} (h : s.levelCondition = true)
    (timer : s.route.levelTimer = some n) : s.updateLevelCondition = s := by
  simp only [State.updateLevelCondition, h, if_true, timer]

theorem State.updateLevelCondition_begins {st : Station} {s : State} (h : s.levelCondition = true)
    (timer : s.route.levelTimer = none) (configured : s.station = some st) :
    s.updateLevelCondition =
      { s with
        draws := (queuedFor st (.level (levelShown s)) s.draws s.route).1
        route := { (queuedFor st (.level (levelShown s)) s.draws s.route).2 with levelTimer := some 250 } } := by
  simp only [State.updateLevelCondition, h, if_true, timer, State.sendLevel]
  rw [State.send_queuedFor _ st s configured]
  rfl

theorem State.levelCondition_iff {s : State} (configured : s.station ≠ none) :
    s.levelCondition = true ↔
      (s.hop.phase = .beacon ∨ s.hop.phase = .sweep) ∧ ∃ e, s.partnerEntry = some e ∧ e.wantsLevel = true := by
  obtain ⟨st, station⟩ := Option.ne_none_iff_exists'.mp configured
  unfold State.levelCondition
  simp only [State.configured, station, Option.isSome_some, Bool.true_and, State.phaseIn, Bool.and_eq_true,
    List.contains_eq_mem, decide_eq_true_iff, List.mem_cons, List.not_mem_nil, or_false]
  cases s.partnerEntry <;> simp

theorem State.levelCondition_phase {s : State} (beacon : s.hop.phase ≠ .beacon) (sweep : s.hop.phase ≠ .sweep) :
    s.levelCondition = false := by
  simp [State.levelCondition, State.phaseIn, beacon, sweep]

/-! ### What follows from a change of the partner's entry (R112, R114, R122) -/

theorem State.partnerEntry_congr {s t : State} (station : t.station = s.station)
    (roster : t.route.roster = s.route.roster) : t.partnerEntry = s.partnerEntry := by
  simp only [State.partnerEntry, station, Route.entryOf, roster]

theorem State.partnerEntry_of {st : Station} {s : State} (station : s.station = some st) :
    s.partnerEntry = s.route.entryOf st.partner := by simp only [State.partnerEntry, station]

theorem State.conflictsNow_congr {s t : State} (station : t.station = s.station)
    (entry : t.partnerEntry = s.partnerEntry) : t.conflictsNow = s.conflictsNow := by
  simp only [State.conflictsNow, station, entry]

/-- The route channel before the LEVEL condition is taken up: the partner liveness and the ends conflict follow the
roster. -/
theorem State.refreshed_route (s : State) :
    s.refreshPartner.decideConflict.route =
      { s.route with partner := s.partnerShows, conflict := s.conflictsNow } := by
  have roster : s.refreshPartner.route.roster = s.route.roster := by rw [State.refreshPartner_route]
  have now : s.refreshPartner.conflictsNow = s.conflictsNow :=
    State.conflictsNow_congr (by simp) (State.partnerEntry_congr (by simp) roster)
  rw [State.decideConflict_eq, now, State.refreshPartner_route]

theorem State.decideConflict_signalled (s : State) :
    Signalled s.site s.decideConflict.site ∧
      (s.conflictsNow = true → s.route.conflict = false → EventFlag.endsConflict ∈ s.decideConflict.site.flags) := by
  rw [State.decideConflict_eq]
  refine ⟨Signalled.ite (.one ..) (.refl _), fun now before => ?_⟩
  dsimp only
  rw [if_pos ⟨now, before⟩, Site.mem_signal_flags]
  left
  unfold State.conflictReport
  split <;> rfl

/-- The events of a change of the partner's entry (R112, R114). -/
theorem State.partnerEntryChanged_signalled (s : State) :
    Signalled s.site s.partnerEntryChanged.site ∧
      (s.partnerShows ≠ s.route.partner → EventFlag.partner ∈ s.partnerEntryChanged.site.flags) ∧
      (s.conflictsNow = true → s.route.conflict = false →
        EventFlag.endsConflict ∈ s.partnerEntryChanged.site.flags) := by
  obtain ⟨first, changed⟩ := s.refreshPartner_signalled
  obtain ⟨second, conflict⟩ := s.refreshPartner.decideConflict_signalled
  have site : s.partnerEntryChanged.site = s.refreshPartner.decideConflict.site := by
    simp [State.partnerEntryChanged]
  have roster : s.refreshPartner.route.roster = s.route.roster := by rw [State.refreshPartner_route]
  have now : s.refreshPartner.conflictsNow = s.conflictsNow :=
    State.conflictsNow_congr (by simp) (State.partnerEntry_congr (by simp) roster)
  rw [now, State.refreshPartner_route] at conflict
  rw [site]
  exact ⟨first.trans second, fun h => second.flag (changed h), conflict⟩

/-- Outside BEACON and SWEEP no LEVEL is asked for (R122). -/
theorem State.partnerEntryChanged_route {s : State} (beacon : s.hop.phase ≠ .beacon) (sweep : s.hop.phase ≠ .sweep) :
    s.partnerEntryChanged.draws = s.draws ∧
      s.partnerEntryChanged.route =
        { s.route with partner := s.partnerShows, conflict := s.conflictsNow, levelTimer := none } := by
  have quiet : s.refreshPartner.decideConflict.levelCondition = false :=
    State.levelCondition_phase (by simpa using beacon) (by simpa using sweep)
  rw [State.partnerEntryChanged, State.updateLevelCondition_quiet quiet, State.refreshed_route]
  exact ⟨by simp, rfl⟩

end Sys2Proof.Machine

end

section
/-! PROOFS. SETUP (R5, R46, R101, R112, R114, R115, R121, R192, R195, R196, R198; O24). -/

namespace Sys2Proof.Machine

/-! ### The lines as the record is taken (R37, R46) -/

theorem State.noteSlip_pos (x : Axis) (was : Bool) (s : State) : (s.noteSlip x was).pos = s.pos := by
  unfold State.noteSlip
  dsimp only
  split <;> split <;> rfl

theorem State.takeTransition_other {x y : Axis} (s : State) (h : y ≠ x) :
    (s.takeTransition x).pos.axes.get y = s.pos.axes.get y := by
  unfold State.takeTransition
  dsimp only
  split
  · split
    · rw [State.noteSlip_pos]
      exact ByAxis.get_set_ne _ _ h
    · exact ByAxis.get_set_ne _ _ h
  · rfl

/-- A line that has not run its filter time is left (R37). -/
theorem State.settleLines_early {s : State} (x : Axis) (early : (s.pos.axes.get x).due s.settings.filterTicks = false) :
    s.settleLines.pos.axes.get x = s.pos.axes.get x := by
  rw [State.settleLines]
  cases x with
  | az =>
    have unmoved : s.takeTransition .az = s := if_neg (Bool.eq_false_iff.mp early)
    rw [State.takeTransition_other _ (by decide), unmoved]
  | el =>
    have axis := s.takeTransition_other (x := .az) (y := .el) (by decide)
    have settings : (s.takeTransition .az).settings = s.settings := by simp
    have unmoved : (s.takeTransition .az).takeTransition .el = s.takeTransition .az := by
      refine if_neg (Bool.eq_false_iff.mp ?_)
      rw [axis, settings]
      exact early
    rw [unmoved, axis]

theorem State.settleLines_pos_congr {s t : State} (pos : t.pos = s.pos) (settings : t.settings = s.settings) :
    t.settleLines.pos = s.settleLines.pos := by
  have one : ∀ (x : Axis) (s t : State), t.pos = s.pos → t.settings = s.settings →
      (t.takeTransition x).pos = (s.takeTransition x).pos := fun x s t pos settings => by
    unfold State.takeTransition
    dsimp only
    rw [pos, settings]
    split
    · split
      · rw [State.noteSlip_pos, State.noteSlip_pos]
      · rfl
    · exact pos
  exact one .el _ _ (one .az s t pos settings) (by simpa using settings)

theorem State.noteSlip_signalled (x : Axis) (was : Bool) (s : State) : Signalled s.site (s.noteSlip x was).site := by
  unfold State.noteSlip
  dsimp only
  split <;> split <;> first | exact .refl _ | exact .one ..

theorem State.takeTransition_signalled (x : Axis) (s : State) : Signalled s.site (s.takeTransition x).site := by
  unfold State.takeTransition
  dsimp only
  split
  · split
    · exact State.noteSlip_signalled ..
    · exact .refl _
  · exact .refl _

theorem State.settleLines_signalled (s : State) : Signalled s.site s.settleLines.site :=
  (s.takeTransition_signalled .az).trans (State.takeTransition_signalled .el _)

theorem Position.clearCandidates_get (p : Position) (x : Axis) :
    (p.clearCandidates.axes.get x).lineA.candidate = 0 ∧ (p.clearCandidates.axes.get x).lineB.candidate = 0 ∧
      (p.clearCandidates.axes.get x).count = (p.axes.get x).count := by
  simp [Position.clearCandidates, AxisState.mapLines]

/-! ### The own number leaves the roster (R115) -/

/-- The route channel once a station has its number: an entry of that number is a clash and leaves the roster. -/
def Route.withoutOwn (number : Nat) (r : Route) : Route :=
  match r.entryOf number with
  | none => r
  | some _ =>
    { r with
      roster := r.roster.filter fun x => x.station != number, clash := true
      counters := { r.counters with clashes := satInc max16 r.counters.clashes } }

theorem Route.withoutOwn_none {number : Nat} {r : Route} (h : r.entryOf number = none) : r.withoutOwn number = r := by
  simp only [Route.withoutOwn, h]

theorem Route.withoutOwn_some {number : Nat} {r : Route} {e : RosterEntry} (h : r.entryOf number = some e) :
    r.withoutOwn number =
      { r with
        roster := r.roster.filter fun x => x.station != number, clash := true
        counters := { r.counters with clashes := satInc max16 r.counters.clashes } } := by
  simp only [Route.withoutOwn, h]

/-- The roster without the own number. -/
theorem Route.withoutOwn_roster (number : Nat) (r : Route) :
    (r.withoutOwn number).roster = r.roster.filter fun x => x.station != number := by
  rcases Option.eq_none_or_eq_some (r.entryOf number) with h | ⟨e, h⟩
  · rw [Route.withoutOwn_none h, eq_comm, List.filter_eq_self]
    intro x member
    simpa using List.find?_eq_none.mp h x member
  · rw [Route.withoutOwn_some h]

/-- The entries of other stations stay. -/
theorem Route.withoutOwn_entryOf {number n : Nat} (r : Route) (other : n ≠ number) :
    (r.withoutOwn number).entryOf n = r.entryOf n := by
  rw [Route.entryOf, Route.withoutOwn_roster, Route.entryOf, List.find?_filter]
  refine congrArg (fun p => r.roster.find? p) (funext fun x => ?_)
  by_cases same : x.station = n
  · simp [same, other]
  · simp [same]

theorem Route.withoutOwn_slot (number : Nat) (r : Route) :
    (r.withoutOwn number).inFlight = r.inFlight ∧ (r.withoutOwn number).waiting = r.waiting ∧
      (r.withoutOwn number).partner = r.partner ∧ (r.withoutOwn number).conflict = r.conflict := by
  unfold Route.withoutOwn
  split <;> exact ⟨rfl, rfl, rfl, rfl⟩

theorem State.noteClash_eq (kind : Option FrameKind) (hop : Nat) (e : HopEnd) (s : State) :
    s.noteClash kind hop e =
      { s with
        route :=
          { s.route with
            clash := true, counters := { s.route.counters with clashes := satInc max16 s.route.counters.clashes } }
        site := if s.route.clash = true then s.site else s.site.signal (.clash kind hop e) } := by
  unfold State.noteClash
  dsimp only
  split <;> rfl

/-- The roster settles: the own number leaves it, and what follows from the partner's entry is taken up (R115). -/
theorem State.settleRoster_eq (st : Station) (s : State) :
    ∃ p, s.settleRoster st =
        ({ s with route := s.route.withoutOwn st.number, site := p } : State).partnerEntryChanged ∧
      Signalled s.site p ∧
      (s.route.entryOf st.number ≠ none → s.route.clash = false → EventFlag.clash ∈ p.flags) := by
  rcases Option.eq_none_or_eq_some (s.route.entryOf st.number) with h | ⟨e, h⟩
  · refine ⟨s.site, ?_, .refl _, fun some_ => absurd h some_⟩
    simp only [State.settleRoster, h, Route.withoutOwn_none h]
  · refine ⟨if s.route.clash = true then s.site else s.site.signal (.clash none e.hop e.hopEnd), ?_,
      Signalled.ite (.refl _) (.one ..), fun _ quiet => ?_⟩
    · simp only [State.settleRoster, h, Route.withoutOwn_some h, State.noteClash_eq]
    · rw [if_neg (by simp [quiet]), Site.mem_signal_flags]
      exact .inl rfl

/-! ### The answer (R192, R195, R196) -/

theorem fatalField_none {r : SetupRecord} (number : 1 ≤ r.station ∧ r.station ≤ 15) (hop : 1 ≤ r.hop ∧ r.hop ≤ 7)
    (partner : 1 ≤ r.partner ∧ r.partner ≤ 15) (others : r.partner ≠ r.station) : fatalField r = none := by
  simp [fatalField, stationOk, hopOk, number, hop, partner, others]

theorem wordsFit_of_wellFormed {r : SetupRecord} (h : r.wellFormed = true) : wordsFit r = true := by
  simp only [SetupRecord.wellFormed, Bool.and_eq_true] at h
  obtain ⟨-, words⟩ := h
  unfold wordsFit
  split <;> simp_all

theorem exec_setup_taken {s : State} (room : Room s) (r : SetupRecord) :
    exec (.setup r) s = .next ({ s with site := { s.site with framer := .hunting } }.answerSetup r) :=
  congrArg Host.Outcome.next (State.request_taken _ s room)

/-- The STATUS shows these blocks and the clash flag alone (R107). -/
theorem statusShown_congr {st : Station} {x y : State}
    (blocks : x.hop = y.hop ∧ x.lobe = y.lobe ∧ x.cue = y.cue ∧ x.supply = y.supply ∧ x.ident = y.ident ∧
      x.level = y.level ∧ x.soak = y.soak ∧ x.margin = y.margin) (clash : x.route.clash = y.route.clash) :
    statusShown st x = statusShown st y := by
  obtain ⟨hop, lobe, cue, supply, ident, level, soak, margin⟩ := blocks
  simp only [statusShown, hop, lobe, cue, supply, ident, level, soak, margin, clash]

theorem supplyLevel_taken (r : SetupRecord) :
    supplyLevel (takeSettings r).supplyLow = supplyLevel r.supplyLow := by
  show supplyLevel (min 3 r.supplyLow) = _
  rw [supplyLevel_eq, supplyLevel_eq]
  congr 1
  · exact propext (by omega)
  · congr 1
    · exact propext (by omega)
    · congr 1
      exact propext (by omega)

/-- The debounce starts afresh when the new level is crossed (R198; log 47). -/
theorem Supply.newLevel_eq (level : Nat) (x : Supply) :
    x.newLevel level =
      { x with
        debounce :=
          if (if x.low = true then level + 300 < x.sense else x.sense < level) then some 100 else none } := by
  by_cases crossed : supplyCondition x.low level x.sense = true
  · rw [if_pos ((supplyCondition_iff ..).mp crossed), Supply.newLevel, supplyDebounce, if_pos crossed]
    rfl
  · rw [if_neg (crossed ∘ (supplyCondition_iff ..).mpr), Supply.newLevel, supplyDebounce, if_neg crossed]

/-- A record without a fatal field is accepted by an unconfigured station. -/
theorem exec_setup_accepted {s : State} {r : SetupRecord} (room : Room s) (unset : s.station = none)
    (words : wordsFit r = true) (fits : fatalField r = none) :
    exec (.setup r) s =
      .next (({ s with
        site :=
          { s.site with
            framer := .hunting
            out := s.site.out ++ [.accepted (.setup (clampedFields r)) []] } } : State).acceptRecord r) := by
  rw [exec_setup_taken room, State.answerSetup, words, fits]
  simp only [State.configured, unset]
  rfl

theorem exec_setup_refused {s : State} {r : SetupRecord} (room : Room s) (words : wordsFit r = true) :
    let refuse (reason : RefuseReason) (n : Nat) : State :=
      { s with site := { s.site with framer := .hunting, out := s.site.out ++ [.refused 1 reason (some n)] } }
    (s.station ≠ none → exec (.setup r) s = .next (refuse .notNow 0)) ∧
      ∀ n, s.station = none → fatalField r = some n → exec (.setup r) s = .next (refuse .badField n) := by
  refine ⟨fun configured => ?_, fun n unset fatal => ?_⟩
  · obtain ⟨st, station⟩ := Option.ne_none_iff_exists'.mp configured
    rw [exec_setup_taken room, State.answerSetup, words]
    simp only [State.configured, station]
    rfl
  · rw [exec_setup_taken room, State.answerSetup, words, fatal]
    simp only [State.configured, unset]
    rfl

/-- A body queued in an empty queue with the slot empty is the frame in flight (R117). -/
theorem queuedFor_inFlight {st : Station} {body : FrameBody} {draws : Nat} {r : Route} (free : r.inFlight = none)
    (empty : r.waiting = []) :
    (queuedFor st body draws r).2.inFlight = some { frame := buildFrame st body, resend := false } := by
  have joined := Route.joinQueue_room { frame := buildFrame st body, resend := false } r (by simp [empty])
    (by simp [empty])
  rw [empty] at joined
  rw [queuedFor, Route.enqueue, joined, Route.feedSlot]
  simp [free, insertByClass]

/-- Queueing a frame counts no clash. -/
theorem Route.enqueue_clashes (draws : Nat) (q : QFrame) (r : Route) :
    (r.enqueue draws q).2.counters.clashes = r.counters.clashes := by
  have joined : (r.joinQueue q).counters.clashes = r.counters.clashes := by
    unfold Route.joinQueue Route.joinFull
    dsimp only
    repeat' split
    all_goals rfl
  rw [Route.enqueue, (Route.feedSlot_kept draws (r.joinQueue q)).2.2.2.1, joined]

end Sys2Proof.Machine

namespace Sys2Proof.Proofs

open Sys2Proof Sys2Proof.Machine

/-- Settles O24: an accepted record takes effect in its blocks, the roster settles against the new number and partner,
and a STATUS is queued; the refusals in their order (R192, R195, R196). -/
theorem setupIsAnswered : Obligations.SetupIsAnswered := by
  refine ⟨fun r s unset idle room good one fifteen hopLow hopHigh partnerLow partnerHigh others => ?_,
    fun r s room good => ?_⟩
  · have fits := fatalField_none ⟨one, fifteen⟩ ⟨hopLow, hopHigh⟩ ⟨partnerLow, partnerHigh⟩ others
    rw [exec_setup_accepted room unset (wordsFit_of_wellFormed good) fits]
    obtain ⟨a, accepted⟩ : ∃ a : State, a =
      { s with
        site :=
          { s.site with
            framer := .hunting, out := s.site.out ++ [.accepted (.setup (clampedFields r)) []] } } := ⟨_, rfl⟩
    rw [← accepted]
    obtain ⟨st, given⟩ : ∃ st, st = takeStation r := ⟨_, rfl⟩
    obtain ⟨w, taken⟩ : ∃ w, w = a.settleLines.takeRecord r := ⟨_, rfl⟩
    have route : w.route = s.route := by simp [taken, accepted]
    have station : w.station = some st := by rw [taken, given]; rfl
    have phase : w.hop.phase = .idle := by simp [taken, accepted, idle]
    have told : Signalled a.site w.site := by
      rw [taken, State.takeRecord_frame r a.settleLines |>.2.2.2.2.2.2.2.2.2.2.2.2.2]
      exact a.settleLines_signalled
    obtain ⟨p, settled, clash, clashed⟩ := w.settleRoster_eq st
    obtain ⟨v, left⟩ : ∃ v : State, v = { w with route := w.route.withoutOwn st.number, site := p } := ⟨_, rfl⟩
    obtain ⟨b, entered⟩ : ∃ b, b = v.partnerEntryChanged := ⟨_, rfl⟩
    rw [← left, ← entered] at settled
    have slot := Route.withoutOwn_slot st.number s.route
    have vRoute : v.route = s.route.withoutOwn st.number := by rw [left, ← route]
    have vStation : v.station = some st := by rw [left]; exact station
    have entry : v.partnerEntry = s.route.entryOf r.partner := by
      rw [State.partnerEntry_of vStation, vRoute, Route.withoutOwn_entryOf _ (by rw [given]; exact others), given]
      rfl
    obtain ⟨-, bRoute⟩ := State.partnerEntryChanged_route (s := v) (by simp [left, phase]) (by simp [left, phase])
    obtain ⟨bTold, partnerTold, conflictTold⟩ := v.partnerEntryChanged_signalled
    rw [← entered] at bRoute bTold partnerTold conflictTold
    have bStation : b.station = some st := by rw [entered]; simpa using vStation
    obtain ⟨n, low, high, status⟩ := State.sendStatus_queuedFor st b bStation
    have answered : a.acceptRecord r = b.sendStatus := by
      rw [← settled, taken, given]
      rfl
    have enqueued := Route.enqueue_kept b.draws
      { frame := buildFrame st (.status (statusShown st b)), resend := false } b.route
    obtain ⟨roster, partner, conflict, -, -, flag, -⟩ := enqueued
    have clashes := Route.enqueue_clashes b.draws
      { frame := buildFrame st (.status (statusShown st b)), resend := false } b.route
    have bSite : Signalled a.site b.site := (told.trans clash).trans (by rw [left] at bTold; exact bTold)
    have tRoute : b.sendStatus.route =
        { (queuedFor st (.status (statusShown st b)) b.draws b.route).2 with statusTimer := some n } := by rw [status]
    have tConflict : b.sendStatus.route.conflict = v.conflictsNow := by
      rw [tRoute]
      exact conflict.trans (by rw [bRoute])
    have tSite : b.sendStatus.site = b.site := by simp
    have level : b.sendStatus.level = s.level.restartChannels := by simp [entered, left, taken, accepted, State.takeRecord]
    have pos : b.sendStatus.pos = a.settleLines.pos.clearCandidates := by
      simp [entered, left, taken, State.takeRecord]
    have lines : a.settleLines.pos = s.settleLines.pos := State.settleLines_pos_congr (by rw [accepted]) (by rw [accepted])
    rw [answered]
    refine ⟨b.sendStatus, rfl, ?_, ?_, ?_, ?_, ?_, fun q => ?_, fun x => ?_, ?_, ?_, fun none => ?_, fun e found => ?_,
      fun none => ?_, fun e found => ?_, ⟨n, ?_, low, high⟩, fun g own free empty => ?_, ?_, ?_⟩
    · exact State.eq_of_fields (by simp [entered, left, taken, accepted, State.settleLines_map, idle])
    · rw [State.sendStatus_frame b |>.2.2.1, bStation, given]
      rfl
    · simp [entered, left, taken, State.takeRecord]
    · rw [level]
      rfl
    · rw [level]
      rfl
    · rw [level]
      exact ByRole.get_map ..
    · obtain ⟨lineA, lineB, count⟩ := a.settleLines.pos.clearCandidates_get x
      rw [pos]
      refine ⟨lineA, lineB, by rw [count, lines], fun early => ?_⟩
      rw [count, lines, State.settleLines_early x early]
    · simp [entered, left, taken, accepted, State.takeRecord, Cue.newModulus]
    · rw [tRoute]
      refine roster.trans ?_
      rw [bRoute, vRoute, ← Route.withoutOwn_roster]
      rw [given]
      rfl
    · have absent : s.route.withoutOwn st.number = s.route := Route.withoutOwn_none (by rw [given]; exact none)
      rw [tRoute]
      refine ⟨flag.trans ?_, clashes.trans ?_⟩ <;> rw [bRoute, vRoute, absent]
    · have own : s.route.entryOf st.number = some e := by rw [given]; exact found
      rw [tRoute, tSite]
      refine ⟨flag.trans ?_, clashes.trans ?_, fun quiet => ?_⟩
      · rw [bRoute, vRoute, Route.withoutOwn_some own]
      · rw [bRoute, vRoute, Route.withoutOwn_some own, satInc_eq]
      · rw [route] at clashed
        rw [left] at bTold
        exact bTold.flag (clashed (by simp [own]) quiet)
    · have absent : v.partnerEntry = Option.none := entry.trans none
      rw [tConflict, tRoute]
      refine ⟨partner.trans ?_, ?_⟩
      · rw [bRoute]
        simp [State.partnerShows, absent]
      · simp [State.conflictsNow, absent, vStation]
    · have present : v.partnerEntry = some e := entry.trans found
      have shows : v.partnerShows = e.liveness := by simp [State.partnerShows, present]
      have now : v.conflictsNow = true ↔
          e.hopEnd = (if r.hopEnd = 0 then HopEnd.a else HopEnd.b) ∨ e.hop ≠ r.hop := by
        simp only [State.conflictsNow, vStation, present]
        rw [conflicts_iff, given]
        rfl
      obtain ⟨-, -, wasPartner, wasConflict⟩ := slot
      rw [shows, vRoute, wasPartner] at partnerTold
      rw [vRoute, wasConflict] at conflictTold
      rw [tConflict, tSite]
      refine ⟨?_, fun changed => partnerTold (Ne.symm changed), now, fun conflicting agreed =>
        conflictTold (now.mpr conflicting) agreed⟩
      rw [tRoute]
      refine partner.trans ?_
      rw [bRoute]
      exact shows
    · rw [tRoute]
    · obtain rfl : g = st := Option.some.inj (own.symm.trans (by simpa using bStation))
      have shown : statusShown g b.sendStatus = statusShown g b := by
        refine statusShown_congr (by simp) ?_
        rw [tRoute]
        exact flag
      obtain ⟨inFlight, waiting, -, -⟩ := slot
      rw [shown, tRoute]
      refine queuedFor_inFlight ?_ ?_
      · rw [bRoute, vRoute]
        exact inFlight.trans free
      · rw [bRoute, vRoute]
        exact waiting.trans empty
    · have supply : b.sendStatus.supply = s.supply.newLevel (supplyLevel (takeSettings r).supplyLow) := by
        simp [entered, left, taken, accepted, State.takeRecord]
      rw [supply, supplyLevel_taken, ← supplyLevel_eq, Supply.newLevel_eq]
    · rw [tSite]
      exact bSite.reply (by simp [accepted])
  · obtain ⟨notNow, fatal⟩ := exec_setup_refused room (wordsFit_of_wellFormed good)
    refine ⟨notNow, fun unset station => fatal 1 unset ?_, fun unset station hop => fatal 2 unset ?_,
      fun unset station hop partner => fatal 3 unset ?_⟩
    · have bad : stationOk r.station = false := by simp [stationOk]; omega
      simp [fatalField, bad]
    · have ok : stationOk r.station = true := by simp [stationOk]; omega
      have bad : hopOk r.hop = false := by simp [hopOk]; omega
      simp [fatalField, ok, bad]
    · have ok : stationOk r.station = true := by simp [stationOk]; omega
      have okHop : hopOk r.hop = true := by simp [hopOk]; omega
      have bad : stationOk r.partner = false ∨ r.partner = r.station := by
        simp [stationOk]
        omega
      rcases bad with bad | bad <;> simp [fatalField, ok, okHop, bad]

end Sys2Proof.Proofs
end

section
/-! PROOFS. The bytes of a field and of a SETUP body, read back (R106, R195). -/

namespace Sys2Proof.Machine

/-! ### Two bytes (R106) -/

@[simp] theorem byteOf_toNat (n : Nat) : (byteOf n).toNat = n % 256 := by simp [byteOf]

theorem nat16_byteOf (n : Nat) : nat16 (byteOf (n / 256)) (byteOf n) = n % 65536 := by
  rw [nat16, byteOf_toNat, byteOf_toNat]
  omega

theorem nat16_u16 {n : Nat} (h : n ≤ 65535) : nat16 (byteOf (n / 256)) (byteOf n) = n := by
  rw [nat16_byteOf]
  omega

/-- A signed value in two's complement is read back (R106). -/
theorem int16_i16 {x : Int} (low : -32768 ≤ x) (high : x ≤ 32767) :
    int16 (byteOf ((BitVec.ofInt 16 x).toNat / 256)) (byteOf (BitVec.ofInt 16 x).toNat) = x := by
  rw [int16, nat16_u16 (by have := (BitVec.ofInt 16 x).isLt; omega), BitVec.ofNat_toNat, BitVec.setWidth_eq,
    BitVec.toInt_ofInt, Int.bmod_eq_of_le_mul_two (by omega) (by omega)]

/-! ### Fields (R195) -/

/-- A field's bytes (R195). -/
def writeField (k : FieldKind) (v : Int) : List Byte :=
  match k with
  | .u8 => [byteOf v.toNat]
  | .u16 => u16 v.toNat
  | .s16 => i16 v

/-- A value fits the bytes of its kind (R195). -/
def FieldKind.Holds : FieldKind → Int → Prop
  | .u8, v => 0 ≤ v ∧ v ≤ 255
  | .u16, v => 0 ≤ v ∧ v ≤ 65535
  | .s16, v => -32768 ≤ v ∧ v ≤ 32767

theorem readField_writeField {k : FieldKind} {v : Int} (h : k.Holds v) (rest : List Byte) :
    readField k (writeField k v ++ rest) = some (v, rest) := by
  cases k with
  | u8 =>
    obtain ⟨low, high⟩ := h
    have value : ((byteOf v.toNat).toNat : Int) = v := by rw [byteOf_toNat]; omega
    simp only [writeField, List.cons_append, List.nil_append, readField, value]
  | u16 =>
    obtain ⟨low, high⟩ := h
    have value : ((nat16 (byteOf (v.toNat / 256)) (byteOf v.toNat) : Nat) : Int) = v := by
      rw [nat16_u16 (by omega)]
      omega
    simp only [writeField, u16, List.cons_append, List.nil_append, readField, value]
  | s16 =>
    obtain ⟨low, high⟩ := h
    simp only [writeField, i16, u16, List.cons_append, List.nil_append, readField, int16_i16 low high]

/-- The bytes of a list of fields, in order. -/
def writeFields : List FieldKind → List Int → List Byte
  | k :: ks, v :: vs => writeField k v ++ writeFields ks vs
  | _, _ => []

/-- Each value fits the bytes of the kind in its place. -/
def FieldsHold : List FieldKind → List Int → Prop
  | [], [] => True
  | k :: ks, v :: vs => k.Holds v ∧ FieldsHold ks vs
  | _, _ => False

theorem readFields_writeFields {ks : List FieldKind} {vs : List Int} (h : FieldsHold ks vs) (rest : List Byte) :
    readFields ks (writeFields ks vs ++ rest) = some (vs, rest) := by
  induction ks generalizing vs with
  | nil =>
    cases vs with
    | nil => rfl
    | cons v vs => exact h.elim
  | cons k ks ih =>
    cases vs with
    | nil => exact h.elim
    | cons v vs =>
      obtain ⟨holds, hold⟩ := h
      rw [writeFields, List.append_assoc, readFields, readField_writeField holds]
      simp only [ih hold, Option.map_some]

/-! ### The words (R195) -/

theorem writeFields_words (ws : List (BitVec 16)) :
    writeFields (List.replicate ws.length .u16) (ws.map fun w => (w.toNat : Int)) = ws.flatMap fun w => u16 w.toNat := by
  induction ws with
  | nil => rfl
  | cons w ws ih =>
    rw [List.length_cons, List.replicate_succ, List.map_cons, writeFields, ih]
    rfl

theorem fieldsHold_words (ws : List (BitVec 16)) :
    FieldsHold (List.replicate ws.length .u16) (ws.map fun w => (w.toNat : Int)) := by
  induction ws with
  | nil => exact True.intro
  | cons w ws ih =>
    have small := w.isLt
    have holds : FieldKind.u16.Holds (w.toNat : Int) := ⟨by omega, by omega⟩
    exact ⟨holds, ih⟩

/-- The bytes of field 52 (R195). -/
def wordBytes (words : Option (List (BitVec 16))) : List Byte :=
  match words with
  | none => [0]
  | some ws => 8 :: ws.flatMap fun w => u16 w.toNat

theorem readWordList_wordBytes {words : Option (List (BitVec 16))} (h : ∀ ws, words = some ws → ws.length = 8)
    (rest : List Byte) : readWordList (wordBytes words ++ rest) = some (words, rest) := by
  cases words with
  | none => rfl
  | some ws =>
    have eight := h ws rfl
    have read := readFields_writeFields (fieldsHold_words ws) rest
    rw [writeFields_words, eight] at read
    have back : (ws.map fun w => (w.toNat : Int)).map (BitVec.ofInt 16) = ws := by
      simp [Function.comp_def]
    rw [wordBytes, List.cons_append, readWordList, if_neg (by decide), if_pos rfl, readWords, read]
    simp only [Option.map_some, back]

/-! ### The record (R195) -/

/-- The values of a profile's fields. -/
def profileValues (p : ProfileFields) : List Int :=
  [.ofNat p.shift, .ofNat p.filter, p.thresholds.coMain, p.thresholds.xMain, p.thresholds.coDiv, p.thresholds.xDiv,
    .ofNat p.hysteresis, .ofNat p.cueOn]

/-- The values of fields 1 to 51. -/
def headValues (r : SetupRecord) : List Int :=
  [.ofNat r.station, .ofNat r.hop, .ofNat r.partner, .ofNat r.hopEnd, r.calibration.detA.offset,
    .ofNat r.calibration.detA.slope, r.calibration.detB.offset, .ofNat r.calibration.detB.slope,
    r.calibration.detC.offset, .ofNat r.calibration.detC.slope, r.calibration.detD.offset,
    .ofNat r.calibration.detD.slope, .ofNat r.inputs.coMain, .ofNat r.inputs.xMain, .ofNat r.inputs.coDiv,
    .ofNat r.inputs.xDiv, .ofNat r.diversity, .ofNat r.dualPol, r.predictedMain, r.predictedDiv,
    .ofNat r.mainTolerance, .ofNat r.sideDepth, .ofNat r.asymmetryLimit, .ofNat r.requiredXpd,
    .ofNat r.imbalanceLimit, .ofNat r.columns, .ofNat r.rows, .ofNat r.cellWidth, .ofNat r.cellHeight,
    .ofNat r.filterTicks] ++ profileValues r.align ++ profileValues r.soak ++
    [r.toneFloor, .ofNat r.toneStep, r.meterFloor, .ofNat r.meterSpan, .ofNat r.modulus]

/-- The values of fields 53 to 62. -/
def tailValues (r : SetupRecord) : List Int :=
  [r.soakMinutes, r.maxErrored, r.maxBad, r.maxOutage, r.marginEnable, r.marginStep, r.marginDwell, r.requiredMargin,
    r.attenSources, r.supplyLow].map Int.ofNat

theorem recordOf_values (r : SetupRecord) : recordOf (headValues r) r.words (tailValues r) = r := rfl

theorem setupBody_eq (r : SetupRecord) :
    setupBody r =
      writeFields headKinds (headValues r) ++ (wordBytes r.words ++ writeFields tailKinds (tailValues r)) := by
  have words : (match r.words with
      | none => [BitVec.ofNat 8 0]
      | some ws => [BitVec.ofNat 8 8] ++ ws.flatMap fun w => u16 w.toNat) = wordBytes r.words := by
    cases r.words <;> rfl
  unfold setupBody
  dsimp only
  simp only [List.append_assoc]
  rw [← words]
  rfl

theorem natCast_le_byte (n : Nat) : (n : Int) ≤ 255 ↔ n ≤ 255 := by omega

theorem natCast_le_word (n : Nat) : (n : Int) ≤ 65535 ↔ n ≤ 65535 := by omega

theorem holds_of_wellFormed {r : SetupRecord} (h : r.wellFormed = true) :
    FieldsHold headKinds (headValues r) ∧ FieldsHold tailKinds (tailValues r) ∧
      ∀ ws, r.words = some ws → ws.length = 8 := by
  simp only [SetupRecord.wellFormed, List.all_cons, List.all_nil, Bool.and_eq_true, byteOk, wordOk, fits16,
    Calibration.fits, ProfileFields.fits, ByInput.all, ByRole.all, decide_eq_true_eq, and_true] at h
  obtain ⟨h, words⟩ := h
  refine ⟨?_, ?_, fun ws given => by simpa [given] using words⟩
  · simp only [headKinds, profileKinds, headValues, profileValues, Int.ofNat_eq_natCast, List.cons_append,
      List.nil_append, FieldsHold, FieldKind.Holds, Int.natCast_nonneg, natCast_le_byte, natCast_le_word]
    simp only [h, and_self]
  · simp only [tailKinds, tailValues, List.map_cons, List.map_nil, Int.ofNat_eq_natCast, FieldsHold, FieldKind.Holds,
      Int.natCast_nonneg, natCast_le_byte, natCast_le_word]
    simp only [h, and_self]

/-- A SETUP body spells the record whose fields it holds (R191, R195). -/
theorem readRecord_setupBody {r : SetupRecord} (h : r.wellFormed = true) : readRecord (setupBody r) = some r := by
  obtain ⟨head, tail, words⟩ := holds_of_wellFormed h
  have last : readFields tailKinds (writeFields tailKinds (tailValues r)) = some (tailValues r, []) := by
    have read := readFields_writeFields tail []
    rwa [List.append_nil] at read
  rw [setupBody_eq, readRecord, readFields_writeFields head]
  simp only [readWordList_wordBytes words, last, recordOf_values]

end Sys2Proof.Machine
end

section
/-! PROOFS. The messages of the site port: the requests they spell, and those that are refused, counted or cut (R191 to
R193, R195; O31). -/

namespace Sys2Proof.Machine

/-! ### Requests by type and body (R191) -/

/-- A message that spells a request does what its row does. -/
theorem exec_unknownRequest_spells {type : Byte} {body : List Byte} {r : Request} {row : Instr}
    (decoded : decodeRequest type body = some r)
    (answers : ∀ s, exec row s = .next (s.request (State.handleRequest r))) (s : State) :
    exec (.unknownRequest type body) s = exec row s := by
  have same : State.answerMessage type body = State.handleRequest r := by
    funext x
    simp only [State.answerMessage, decoded]
  rw [answers]
  exact congrArg (fun handle => Host.Outcome.next (s.request handle)) same

/-- A message that spells none is refused BAD_FIELD (R192). -/
theorem exec_unknownRequest_refused {type : Byte} {body : List Byte} {s : State} (room : Room s)
    (undefined : decodeRequest type body = none) :
    (type ≠ 1 →
      exec (.unknownRequest type body) s = .next
        { s with
          site := { s.site with framer := .hunting, out := s.site.out ++ [.refused type .badField none] } }) ∧
    (type = 1 →
      exec (.unknownRequest type body) s = .next
        { s with
          site := { s.site with framer := .hunting, out := s.site.out ++ [.refused 1 .badField (some 0)] } }) := by
  have taken : exec (.unknownRequest type body) s =
      .next (({ s with site := { s.site with framer := .hunting } } : State).refuseUnknown type) := by
    refine (congrArg Host.Outcome.next (State.request_taken _ s room)).trans ?_
    simp only [State.answerMessage, undefined]
  rw [taken]
  refine ⟨fun other => ?_, fun setup => ?_⟩
  · rw [State.refuseUnknown, if_neg (by exact other)]
    rfl
  · rw [State.refuseUnknown, if_pos (by exact setup)]
    rfl

/-- The types and bodies that R191 does not lay down. -/
theorem decodeRequest_none {type : Byte} {body : List Byte}
    (h : 8 < type.toNat ∨ type = 0 ∨ (type = 2 ∧ body.length ≠ 1 ∧ body.length ≠ 3) ∨
      (∃ k, type = 2 ∧ body = [k] ∧ (k = 0 ∨ k = 4 ∨ 12 < k.toNat)) ∨
      (∃ k c r, type = 2 ∧ body = [k, c, r] ∧ k ≠ 4) ∨ (type = 3 ∧ body.length ≠ 2) ∨
      (4 ≤ type.toNat ∧ type.toNat ≤ 6 ∧ body ≠ []) ∨ (type = 7 ∧ body.length ≠ 1) ∨
      (type = 8 ∧ body.length ≠ 3)) : decodeRequest type body = none ∧ type ≠ 1 := by
  rcases h with large | rfl | ⟨rfl, one, three⟩ | ⟨k, rfl, rfl, kind⟩ | ⟨k, c, r, rfl, rfl, kind⟩ | ⟨rfl, two⟩ |
    ⟨four, six, body_⟩ | ⟨rfl, one⟩ | ⟨rfl, three⟩
  · refine ⟨?_, ?_⟩
    · obtain ⟨m, beyond⟩ : ∃ m, type.toNat = m + 9 := ⟨type.toNat - 9, by omega⟩
      delta decodeRequest
      rw [beyond]
      rfl
    · rintro rfl
      exact absurd large (by decide)
  · exact ⟨rfl, by decide⟩
  · refine ⟨?_, by decide⟩
    show readQuery body = none
    unfold readQuery
    split <;> first | rfl | simp at one three
  · refine ⟨?_, by decide⟩
    show (queryOfByte k).map Request.query = none
    rcases kind with rfl | rfl | large
    · rfl
    · rfl
    · unfold queryOfByte
      split <;> first | omega | rfl
  · exact ⟨if_neg kind, by decide⟩
  · refine ⟨?_, by decide⟩
    match body, two with
    | [], _ => rfl
    | [_], _ => rfl
    | [_, _], two => exact absurd rfl two
    | _ :: _ :: _ :: _, _ => rfl
  · refine ⟨?_, ?_⟩
    · obtain ⟨b, bs, rfl⟩ := List.exists_cons_of_ne_nil body_
      have three : type.toNat = 4 ∨ type.toNat = 5 ∨ type.toNat = 6 := by omega
      rcases three with number | number | number <;>
        · delta decodeRequest
          rw [number]
          rfl
    · rintro rfl
      exact absurd four (by decide)
  · refine ⟨?_, by decide⟩
    match body, one with
    | [], _ => rfl
    | [_], one => exact absurd rfl one
    | _ :: _ :: _, _ => rfl
  · refine ⟨?_, by decide⟩
    show readMask body = none
    unfold readMask
    split <;> first | rfl | simp at three

/-! ### Characters while hunting, and cuts (R191) -/

section

variable {s : State}

theorem State.takeSiteCharacters_noise (hunting : s.site.framer = .hunting) {noise : List Byte}
    (h : (0xA7 : Byte) ∉ noise) : s.takeSiteCharacters noise = s := by
  induction noise with
  | nil => rfl
  | cons b bs ih =>
    obtain ⟨first, rest⟩ := not_or.mp (mt List.mem_cons.mpr h)
    have ignored : s.takeSiteCharacter b = s := by
      simp only [State.takeSiteCharacter, hunting, if_neg (Ne.symm first)]
    rw [State.takeSiteCharacters_cons, ignored, ih rest]

/-- The character examined afresh after a cut, when it is no start byte. -/
theorem State.takeSiteCharacters_other (hunting : s.site.framer = .hunting) {c : Option Byte} (h : c ≠ some 0xA7) :
    s.takeSiteCharacters c.toList = s := by
  refine State.takeSiteCharacters_noise hunting fun member => h ?_
  simpa [Option.mem_toList] using member

theorem State.takeSiteCharacters_start (hunting : s.site.framer = .hunting) :
    s.takeSiteCharacters (some 0xA7 : Option Byte).toList = { s with site := { s.site with framer := .taking [] 5 } } :=
  State.takeSiteCharacter_start s hunting

theorem exec_siteGapTimeout_cut {cut : CutCause} (cuts : s.site.framer.cutBy cut = true) (c : Option Byte) :
    exec (.siteGapTimeout ⟨cut, c⟩) s =
      .next (({ s with site := s.site.gap } : State).takeSiteCharacters c.toList) :=
  congrArg Host.Outcome.next (if_pos cuts)

/-! ### The length and the whole message (R191) -/

/-- Bytes after a sound length that do not reach the checksum are held. -/
theorem State.takeSiteCharacters_part (hunting : s.site.framer = .hunting) {h l : Byte} {part : List Byte}
    (one : 1 ≤ nat16 h l) (most : nat16 h l ≤ 1024) (short : part.length ≤ nat16 h l) :
    s.takeSiteCharacters (0xA7 :: h :: l :: part) =
      { s with site := { s.site with framer := .taking (h :: l :: part) 5 } } := by
  rw [State.takeSiteCharacters_cons, State.takeSiteCharacter_start s hunting,
    State.takeSiteCharacters_held [] (h :: l :: part) 5 _ rfl (by simp)]
  · rfl
  · intro n inside
    match n with
    | 0 => exact ⟨rfl, rfl⟩
    | m + 1 =>
      rw [List.nil_append, List.take_succ_cons, List.take_succ_cons]
      constructor
      · unfold lengthBad
        split
        · next same =>
          simp only [List.cons.injEq] at same
          obtain ⟨rfl, rfl, -⟩ := same
          simp only [Bool.or_eq_false_iff, decide_eq_false_iff_not]
          omega
        · rfl
      · simp only [messageWhole, List.length_take, decide_eq_false_iff_not]
        omega

/-- A length outside 1..1024 is counted as malformed. -/
theorem State.takeSiteCharacters_length (hunting : s.site.framer = .hunting) {h l : Byte}
    (bad : nat16 h l = 0 ∨ 1024 < nat16 h l) :
    s.takeSiteCharacters [0xA7, h, l] = { s with site := s.site.hunt.countMalformed } := by
  have whole : lengthBad [h, l] = true := by simpa [lengthBad] using bad
  rw [State.takeSiteCharacters_cons, State.takeSiteCharacter_start s hunting]
  show ({ s with site := { s.site with framer := .taking [h] 5 } } : State).takeSiteCharacter l = _
  simp only [State.takeSiteCharacter, State.takeMessageByte, List.cons_append, List.nil_append, whole, if_true]
  rfl

/-- A message whole: a request when its sum is 0, a checksum error otherwise. -/
theorem State.takeSiteCharacters_whole (hunting : s.site.framer = .hunting) {h l type check : Byte} {body : List Byte}
    (length : nat16 h l = body.length + 1) (most : body.length ≤ 1023) :
    (byteSum (h :: l :: type :: (body ++ [check])) ≠ 0 →
      s.takeSiteCharacters (0xA7 :: h :: l :: type :: (body ++ [check])) =
        { s with site := s.site.hunt.countChecksum }) ∧
    (byteSum (h :: l :: type :: (body ++ [check])) = 0 →
      s.takeSiteCharacters (0xA7 :: h :: l :: type :: (body ++ [check])) =
        s.request (State.answerMessage type body)) := by
  have held := State.takeSiteCharacters_part hunting (part := type :: body) (h := h) (l := l) (by omega) (by omega)
    (by simp [length])
  have inside : lengthBad (h :: l :: type :: (body ++ [check])) = false := by simp [lengthBad]
  have whole : messageWhole (h :: l :: type :: (body ++ [check])) = true := by simp [messageWhole, length]
  have taken : s.takeSiteCharacters (0xA7 :: h :: l :: type :: (body ++ [check])) =
      ({ s with site := { s.site with framer := .taking (h :: l :: type :: body) 5 } } : State).takeMessage
        (h :: l :: type :: (body ++ [check])) := by
    show s.takeSiteCharacters ((0xA7 :: h :: l :: type :: body) ++ [check]) = _
    rw [State.takeSiteCharacters_append, held, State.takeSiteCharacters_cons, State.takeSiteCharacters_nil]
    simp only [State.takeSiteCharacter, State.takeMessageByte, List.cons_append, inside, whole, if_true]
    rfl
  rw [taken, State.takeMessage]
  refine ⟨fun wrong => ?_, fun right => ?_⟩
  · have unsound : soundMessage (h :: l :: type :: (body ++ [check])) = none := if_neg fun sound => wrong sound.1
    rw [unsound]
    rfl
  · have sound : soundMessage (h :: l :: type :: (body ++ [check])) = some (type, body) := by
      refine (if_pos ⟨right, by simp [length], by simp, by simp; omega⟩).trans ?_
      simp
    rw [sound]
    rfl

end

/-! ### The events of a sample event (R193) -/

theorem State.sampleInput_signalled (codes : ByInput Nat) (i : Input) (s : State) :
    Signalled s.site (s.sampleInput codes i).site := by
  unfold State.sampleInput
  dsimp only
  split
  · exact .one ..
  · exact .refl _

theorem State.deliverFades_signalled (r : Role) (e : Option FadeEvent) (s : State) :
    Signalled s.site (s.deliverFades r e).site := by
  unfold State.deliverFades
  split
  · exact .refl _
  · exact .one ..

theorem State.identSample_signalled (level : Level) (s : State) : Signalled s.site (s.identSample level).site := by
  rw [State.identSample, State.signalIdent_eq]
  unfold identSignalled
  split
  · exact .refl _
  · dsimp only
    split
    · exact (Signalled.one ..).signal _
    · exact .one ..

theorem State.measure_signalled (codes : ByInput Nat) (s : State) : Signalled s.site (s.measure codes).site := by
  have inputs : ∀ x : State, Signalled x.site (x.sampleInputs codes).site := fun x =>
    (((x.sampleInput_signalled codes _).trans (State.sampleInput_signalled codes _ _)).trans
      (State.sampleInput_signalled codes _ _)).trans (State.sampleInput_signalled codes _ _)
  have channel : ∀ (g : Option Level) (r : Role) (x : State), Signalled x.site (x.sampleChannel g r).site :=
    fun _ _ _ => State.deliverFades_signalled ..
  have channels : ∀ (g : Option Level) (x : State), Signalled x.site (x.sampleChannels g).site := fun g x =>
    (((channel g _ x).trans (channel g _ _)).trans (channel g _ _)).trans (channel g _ _)
  have mapped : ∀ (admitted : Bool) (x : State), Signalled x.site (x.latch.mapSample admitted).site :=
    fun admitted x => .ofEq (by simp)
  exact (((inputs s).trans (channels _ _)).trans (State.identSample_signalled _ _)).trans (mapped _ _)

/-- A sample event's own work reaches the port by events alone, its framer's time aside. -/
theorem State.sampleWork_signalled (codes : ByInput Nat) (s : State) :
    Signalled { s.site with framer := s.site.framer.tick } (s.sampleWork codes).site := by
  have measured := State.measure_signalled codes ({ s with time := s.time.sample } : State).tickTimers
  have site : (s.sampleWork codes).site =
      ((({ s with time := s.time.sample } : State).tickTimers).measure codes).site := by
    simp [State.sampleWork]
  rw [site]
  exact measured

/-- An event counts no malformed message. -/
theorem Signalled.malformed {p q : Site} (h : Signalled p q) : q.counters.malformed = p.counters.malformed := by
  refine h.keeps (P := fun x => x.counters.malformed = p.counters.malformed) (fun r x same => ?_) rfl
  rw [← same, Site.signal]
  split
  · unfold Site.queueReport
    split <;> rfl
  · rfl

/-- With no event due but gaps that have passed, a sample event counts the cut message and hunts again (R191; log 3). -/
theorem State.sampleEvent_siteGap {s : State} {bytes : List Byte} (taking : s.site.framer = .taking bytes 0)
    (aside : GapsAside s) (codes : ByInput Nat) :
    (s.settle.sampleWork codes).site.framer = .hunting ∧
      (s.settle.sampleWork codes).site.counters.malformed = min 65535 (s.site.counters.malformed + 1) := by
  have due : s.site.settleGap = s.site.hunt.countMalformed := by simp [Site.settleGap, SiteFramer.gapDue, taking, Site.gap]
  have routeGap : s.settleRouteGap.site = s.site := by
    unfold State.settleRouteGap State.takeGap
    split
    · split <;> rfl
    · rfl
  have settled : s.settle.site = s.site.hunt.countMalformed := by
    rw [State.settle, show s.settleEvents = s from aside, State.settleGaps]
    exact (congrArg Site.settleGap routeGap).trans due
  refine ⟨?_, ?_⟩
  · rw [State.sampleWork_framer, settled]
    rfl
  · rw [(State.sampleWork_signalled codes s.settle).malformed, settled]
    exact satInc_eq ..

end Sys2Proof.Machine

namespace Sys2Proof.Proofs

open Sys2Proof Sys2Proof.Machine

/-- Settles O31: the messages that spell a request, those refused, and what the framer counts (R191 to R193, R195). -/
theorem badMessagesAreCountedOrRefused : Obligations.BadMessagesAreCountedOrRefused := by
  intro s
  dsimp only
  have spells : ∀ (r : Request) (row : Instr), (∀ x, exec row x = .next (x.request (State.handleRequest r))) →
      ∀ type body, decodeRequest type body = some r → exec (.unknownRequest type body) s = exec row s :=
    fun r row same type body decoded => exec_unknownRequest_spells decoded same s
  have query : ∀ (k : QueryKind) (row : Instr), (∀ x, exec row x = .next (x.request (State.handleRequest (.query k)))) →
      ∀ b, queryOfByte b = some k → exec (.unknownRequest 2 [b]) s = exec row s := fun k row same b kind =>
    spells (.query k) row same 2 [b] (by show (queryOfByte b).map Request.query = _; rw [kind]; rfl)
  refine ⟨fun r good => ?_, query .status _ (fun _ => rfl) _ rfl, query .levels _ (fun _ => rfl) _ rfl,
    query .position _ (fun _ => rfl) _ rfl, fun column row => spells (.mapCell column row) _ (fun _ => rfl) _ _ rfl,
    query .mapSummary _ (fun _ => rfl) _ rfl, query .lobes _ (fun _ => rfl) _ rfl,
    query .verdict _ (fun _ => rfl) _ rfl, query .roster _ (fun _ => rfl) _ rfl, query .soak _ (fun _ => rfl) _ rfl,
    query .fades _ (fun _ => rfl) _ rfl, query .margin _ (fun _ => rfl) _ rfl,
    query .handover _ (fun _ => rfl) _ rfl,
    fun target role => spells (.advance target role) _ (fun _ => rfl) _ _ rfl, spells .abort _ (fun _ => rfl) _ _ rfl,
    spells .restart _ (fun _ => rfl) _ _ rfl, spells .zero _ (fun _ => rfl) _ _ rfl,
    fun source => spells (.cue source) _ (fun _ => rfl) _ _ rfl, fun h m l => spells (.reports _) _ (fun _ => rfl) _ _ rfl,
    fun type body room undefined => ?_, fun body room short long => ?_, fun n bad => ?_, fun hunting cut => ?_,
    fun bytes gap taking => ⟨fun cut cuts => ?_, fun early c => ?_, fun passed aside codes => ?_⟩,
    fun hunting => ⟨fun noise silent => ?_, fun h l bad => ?_, fun h l part one most short => ?_,
      fun h l type body check length most => ?_⟩⟩
  · refine spells (.setup r) _ (fun _ => rfl) _ _ ?_
    show (readRecord (setupBody r)).map Request.setup = _
    rw [readRecord_setupBody good]
    rfl
  · obtain ⟨none, other⟩ := decodeRequest_none undefined
    exact (exec_unknownRequest_refused room none).1 other
  · have none : decodeRequest 1 body = none := by
      show (readRecord body).map Request.setup = _
      rw [readRecord_eq_none short long]
      rfl
    exact (exec_unknownRequest_refused room none).2 rfl
  · show Host.Outcome.next { s with site := s.site.framing n } = _
    rw [Site.framing, if_pos bad]
    simp only [Site.countMalformed, satInc_eq]
    rfl
  · have cuts : s.site.framer.cutBy cut = true := by cases cut <;> simp [SiteFramer.cutBy, hunting]
    have same : s.site.gap = s.site := by simp [Site.gap, hunting]
    simp only [exec_siteGapTimeout_cut cuts, same]
    exact ⟨fun c other => congrArg Host.Outcome.next (State.takeSiteCharacters_other hunting other),
      congrArg Host.Outcome.next (State.takeSiteCharacters_start hunting)⟩
  · have cuts : s.site.framer.cutBy cut = true := by
      rcases cuts with rfl | rfl
      · rfl
      · cases cut <;> simp [SiteFramer.cutBy, SiteFramer.gapDue, taking]
    simp only [exec_siteGapTimeout_cut cuts, Site.gap_taking bytes gap s.site taking, satInc_eq]
    exact ⟨fun c other => congrArg Host.Outcome.next (State.takeSiteCharacters_other rfl other),
      congrArg Host.Outcome.next (State.takeSiteCharacters_start rfl)⟩
  · obtain ⟨n, rfl⟩ := Nat.exists_eq_succ_of_ne_zero (Nat.pos_iff_ne_zero.mp early)
    exact execSiteGapTimeout_early c bytes n s taking
  · subst passed
    obtain ⟨framer, malformed⟩ := State.sampleEvent_siteGap taking aside codes
    exact ⟨_, rfl, framer, malformed⟩
  · exact congrArg Host.Outcome.next (State.takeSiteCharacters_noise hunting silent)
  · refine (congrArg Host.Outcome.next (State.takeSiteCharacters_length hunting bad)).trans ?_
    simp only [Site.countMalformed, satInc_eq]
    rfl
  · exact congrArg Host.Outcome.next (State.takeSiteCharacters_part hunting one most short)
  · obtain ⟨wrong, right⟩ := State.takeSiteCharacters_whole (type := type) (check := check) hunting length most
    refine ⟨fun sum => ?_, fun sum => congrArg Host.Outcome.next (right sum)⟩
    refine (congrArg Host.Outcome.next (wrong sum)).trans ?_
    simp only [Site.countChecksum, satInc_eq]
    rfl

end Sys2Proof.Proofs
end

section
/-! PROOFS. A frame joins the waiting queue, and the head of the queue enters an empty slot (R117 to R120). -/

namespace Sys2Proof.Machine

/-! ### Joining the queue -/

theorem replacesKind_iff (k : FrameKind) : replacesKind k = true ↔ k = .status ∨ k = .level := by
  cases k <;> simp [replacesKind]

/-- The condition of R118 as the law of `joinQueue` reads it. -/
theorem Route.replaces_iff (q : QFrame) (r : Route) :
    (replacesKind q.kind = true ∧ r.waiting.any (fun w => w.kind == q.kind) = true) ↔
      (q.kind = .status ∨ q.kind = .level) ∧ ∃ w ∈ r.waiting, w.kind = q.kind := by
  simp [replacesKind_iff]

/-- A full queue whose last frame has a lower class gives that frame up (R118; log 28). -/
theorem Route.joinFull_gives (q last : QFrame) (rest : List QFrame) (r : Route) (h : r.waiting = rest ++ [last])
    (lower : q.classNumber < last.classNumber) :
    r.joinFull q = { r with
      waiting := insertByClass q rest, counters := { r.counters with dropped := satInc max16 r.counters.dropped } } := by
  simp [Route.joinFull, h, lower]

/-- A full queue without a frame of a lower class drops the new frame (R118; log 28). -/
theorem Route.joinFull_drops (q last : QFrame) (rest : List QFrame) (r : Route) (h : r.waiting = rest ++ [last])
    (same : last.classNumber ≤ q.classNumber) :
    r.joinFull q = { r with counters := { r.counters with dropped := satInc max16 r.counters.dropped } } := by
  have : ¬ q.classNumber < last.classNumber := by omega
  simp [Route.joinFull, h, this]

/-! ### The slot -/

theorem Route.guardPassed_iff (r : Route) : r.guardPassed = true ↔ r.carrierBusy = false ∧ 20 ≤ r.idle := by
  simp [Route.guardPassed]

/-- The window of R119 for a resend. -/
theorem Route.drawWindow_resend (r : Route) : r.drawWindow true = min 64 (2 * contentionWindow r.liveCount) := rfl

theorem contentionWindow_pos (live : Nat) : 0 < contentionWindow live := by
  unfold contentionWindow; split <;> try split <;> try split
  all_goals omega

theorem Route.drawWindow_pos (resend : Bool) (r : Route) : 0 < r.drawWindow resend := by
  have := contentionWindow_pos r.liveCount
  cases resend
  · exact this
  · rw [Route.drawWindow_resend]; omega

theorem Route.backOff_zero (r : Route) :
    r.backOff 0 = ({ r with backoff := some 0, slot := 0 } : Route).startTransmission := rfl

theorem Route.backOff_waits {n : Nat} (r : Route) (h : n ≠ 0) :
    r.backOff n = { r with backoff := some n, slot := 0, contention := .backoff } := by simp [Route.backOff, h]

/-- The head of the queue enters an empty slot (R117). -/
theorem Route.feedSlot_head {w : QFrame} {ws : List QFrame} (draws : Nat) (r : Route) (empty : r.inFlight = none)
    (head : r.waiting = w :: ws) : r.feedSlot draws = r.enterSlot draws w ws := by
  simp [Route.feedSlot, empty, head]

theorem Route.feedSlot_taken (draws : Nat) (r : Route) (taken : r.inFlight ≠ none) :
    r.feedSlot draws = (draws, r) := by
  rcases Option.ne_none_iff_exists'.mp taken with ⟨f, hf⟩
  simp [Route.feedSlot, hf]

theorem Route.feedSlot_empty (draws : Nat) (r : Route) (none : r.waiting = []) : r.feedSlot draws = (draws, r) := by
  unfold Route.feedSlot; simp only [none]; split <;> simp_all

/-- After the guard a frame that is no resend is sent at once (R120). -/
theorem Route.enterSlot_sends (draws : Nat) (w : QFrame) (ws : List QFrame) (r : Route)
    (guard : r.guardPassed = true) (fresh : w.resend = false) :
    r.enterSlot draws w ws =
      (draws, ({ r with waiting := ws, inFlight := some w, backoff := none } : Route).startTransmission) := by
  have : ({ r with waiting := ws, inFlight := some w, backoff := none } : Route).guardPassed = true := guard
  simp [Route.enterSlot, this, fresh]

/-- After the guard a resend draws its count (R119, R120). -/
theorem Route.enterSlot_draws (draws : Nat) (w : QFrame) (ws : List QFrame) (r : Route)
    (guard : r.guardPassed = true) (again : w.resend = true) :
    r.enterSlot draws w ws =
      (draws + 1,
        ({ r with waiting := ws, inFlight := some w, backoff := none, contention := .defer } : Route).backOff
          (drawBelow draws (r.drawWindow true))) := by
  have : ({ r with waiting := ws, inFlight := some w, backoff := none, contention := .defer } : Route).guardPassed =
    true := guard
  simp only [Route.enterSlot, this, again, Bool.not_true, Bool.and_false, if_true, Route.takeGuard]
  rfl

/-- Before the guard a frame waits in DEFER (R120). -/
theorem Route.enterSlot_defers (draws : Nat) (w : QFrame) (ws : List QFrame) (r : Route)
    (early : ¬ r.guardPassed = true) :
    r.enterSlot draws w ws =
      (draws, { r with waiting := ws, inFlight := some w, backoff := none, contention := .defer }) := by
  have : ({ r with waiting := ws, inFlight := some w, backoff := none, contention := .defer } : Route).guardPassed =
    false := Bool.eq_false_iff.mpr early
  have h2 : ({ r with waiting := ws, inFlight := some w, backoff := none } : Route).guardPassed = false := this
  simp [Route.enterSlot, this, h2]

theorem Route.joinQueue_guard (q : QFrame) (r : Route) : (r.joinQueue q).guardPassed = r.guardPassed := by
  rw [Route.joinQueue_frame]; rfl

theorem Route.joinQueue_window (q : QFrame) (r : Route) (resend : Bool) :
    (r.joinQueue q).drawWindow resend = r.drawWindow resend := by rw [Route.joinQueue_frame]; rfl

theorem Route.joinQueue_inFlight (q : QFrame) (r : Route) : (r.joinQueue q).inFlight = r.inFlight := by
  rw [Route.joinQueue_frame]

end Sys2Proof.Machine

namespace Sys2Proof.Proofs

open Sys2Proof Sys2Proof.Machine

/-- Settles O43: the cases of R117 and R118 by the law of `joinQueue` that each meets, then the entry of the queue's
head by the guard and the resend mark. -/
theorem framesJoinTheQueue : Obligations.FramesJoinTheQueue := by
  intro q r ordered replaces inPlace dropped
  refine ⟨fun h => ?_, fun h room => ?_, fun rest last h full ends => ⟨fun lower => ?_, fun same => ?_⟩,
    fun draws => ⟨fun taken => ?_, fun w ws empty head => ?_⟩⟩
  · obtain ⟨kind, waits⟩ := (Route.replaces_iff q r).mpr h
    exact Route.joinQueue_replaces q r kind waits
  · rw [Route.joinQueue_room q r (mt (Route.replaces_iff q r).mp h) room]
    exact ⟨insertByClass_place q r.waiting ordered, rfl⟩
  · rw [Route.joinQueue_full q r (mt (Route.replaces_iff q r).mp h) (by omega),
      Route.joinFull_gives q last rest r ends lower, satInc_eq]
    rw [ends, List.pairwise_append] at ordered
    exact ⟨insertByClass_place q rest ordered.1, rfl⟩
  · rw [Route.joinQueue_full q r (mt (Route.replaces_iff q r).mp h) (by omega),
      Route.joinFull_drops q last rest r ends same, satInc_eq]
  · exact Route.feedSlot_taken draws _ (by rwa [Route.joinQueue_inFlight])
  · intro live window guard entered sending
    have fed : r.enqueue draws q = (r.joinQueue q).enterSlot draws w ws :=
      Route.feedSlot_head draws _ (by rwa [Route.joinQueue_inFlight]) head
    have guardIs : (r.joinQueue q).guardPassed = true ↔ guard := by
      rw [Route.joinQueue_guard]; exact Route.guardPassed_iff r
    rw [fed]
    refine ⟨fun passed fresh => ?_, fun passed again => ?_, fun early => ?_⟩
    · exact Route.enterSlot_sends draws w ws _ (guardIs.mpr passed) fresh
    · rw [Route.enterSlot_draws draws w ws _ (guardIs.mpr passed) again, Route.joinQueue_window]
      refine ⟨drawBelow draws (r.drawWindow true), drawBelow_lt draws (r.drawWindow_pos true), rfl,
        fun zero => ?_, fun waits => ?_⟩
      · simp only [zero]; rfl
      · exact Route.backOff_waits _ waits
    · exact Route.enterSlot_defers draws w ws _ (mt guardIs.mp early)

end Sys2Proof.Proofs
end

section
/-! PROOFS. The contention's rows and the transmission's end (R104, R105, R117, R119, R120). -/

namespace Sys2Proof.Machine

/-! ### The carrier -/

theorem Route.carrierHigh_sending (r : Route) (h : r.contention = .sending) :
    r.carrierHigh = { r with carrierBusy := true } := if_pos h

theorem Route.carrierHigh_listening (r : Route) (h : r.contention ≠ .sending) :
    r.carrierHigh = { r with
      carrierBusy := true, idle := 0, slot := 0
      contention := if r.contention = .backoff then .defer else r.contention } := if_neg h

theorem Route.carrierLow_sending (r : Route) (h : r.contention = .sending) :
    r.carrierLow = { r with carrierBusy := false } := if_pos h

theorem Route.carrierLow_falls (r : Route) (h : r.contention ≠ .sending) (busy : r.carrierBusy = true) :
    r.carrierLow = { r with carrierBusy := false, idle := 0, slot := 0 } := (if_neg h).trans (if_pos busy)

theorem Route.carrierLow_low (r : Route) (h : r.contention ≠ .sending) (low : r.carrierBusy = false) :
    r.carrierLow = r := (if_neg h).trans (if_neg (by simp [low]))

/-! ### The guard and the slots -/

theorem Route.guardDue_iff (r : Route) :
    r.guardDue = true ↔ r.contention = .defer ∧ r.carrierBusy = false ∧ 20 ≤ r.idle := by
  simp [Route.guardDue, Route.guardPassed_iff]

theorem Route.slotDue_iff (r : Route) : r.slotDue = true ↔ r.contention = .backoff ∧ 10 ≤ r.slot := by
  simp [Route.slotDue]

/-- After the guard the frame counts down the count it holds or draws, below the window of R119. -/
theorem Route.takeGuard_counts (draws : Nat) (r : Route) (q : QFrame) (slot : r.inFlight = some q) :
    ∃ n, (r.takeGuard draws).2 = r.backOff n ∧ (∀ m, r.backoff = some m → n = m) ∧
      (r.backoff = none → n < r.drawWindow q.resend) := by
  rcases Option.eq_none_or_eq_some r.backoff with fresh | ⟨m, held⟩
  · refine ⟨drawBelow draws (r.drawWindow q.resend), ?_, by simp [fresh], fun _ => drawBelow_lt _ (r.drawWindow_pos _)⟩
    simp [Route.takeGuard, fresh, slot]
  · exact ⟨m, by simp [Route.takeGuard, held], fun k same => Option.some.inj (held.symm.trans same),
      fun fresh => by simp [held] at fresh⟩

theorem Route.drawWindow_eq (resend : Bool) (r : Route) :
    r.drawWindow resend =
      if resend = true then min 64 (2 * contentionWindow r.liveCount) else contentionWindow r.liveCount := rfl

/-- A counted-down frame is sent (R105, R120). -/
theorem Route.backOff_sends (r : Route) (q : QFrame) (slot : r.inFlight = some q) :
    r.backOff 0 = { r with
      contention := .sending, backoff := some 0, slot := 0, idle := 0, transmitEnable := true, sendTime := 0
      wire := q.frame.wire, framer := { state := .hunt, bytes := [], gap := none } } := by
  simp [Route.backOff_zero, Route.startTransmission, slot]

/-! ### The transmission's end -/

/-- The transmission may end in the last ms of its time (R105; log 5). -/
theorem Route.transmissionMayEnd_iff (r : Route) (q : QFrame) (slot : r.inFlight = some q) :
    r.transmissionMayEnd = true ↔
      r.contention = .sending ∧ 25 * (q.frame.body.kind.bodyLength + 12) < (r.sendTime + 1) * 24 := by
  simp [Route.transmissionMayEnd, Route.inFlightLength, slot, QFrame.kind, FrameKind.length]

/-- The cleared slot has no guard behind it, so the next frame waits in DEFER (R120). -/
theorem Route.finishTransmission_next (draws : Nat) (r : Route) (w : QFrame) (ws : List QFrame)
    (head : r.waiting = w :: ws) :
    r.finishTransmission draws =
      (draws, { r.clearSlot with waiting := ws, inFlight := some w, contention := .defer }) := by
  have early : ¬ r.clearSlot.guardPassed = true := by
    rw [Route.guardPassed_iff]
    exact fun h => absurd h.2 (by decide : ¬ 20 ≤ 0)
  exact (Route.feedSlot_head draws r.clearSlot rfl head).trans (Route.enterSlot_defers draws w ws r.clearSlot early)

theorem Route.finishTransmission_last (draws : Nat) (r : Route) (none : r.waiting = []) :
    r.finishTransmission draws = (draws, r.clearSlot) := Route.feedSlot_empty draws _ none

theorem Route.clearSlot_eq (r : Route) :
    r.clearSlot = { r with
      transmitEnable := false, wire := [], inFlight := none, contention := .empty, backoff := none
      idle := 0, slot := 0, framer := { state := .hunt, bytes := [], gap := none }
      counters := { r.counters with sent := min 65535 (r.counters.sent + 1) } } := by
  rw [Route.clearSlot, satInc_eq, max16]

theorem exec_transmissionComplete_due (s : State) (h : s.route.transmissionMayEnd = true) :
    exec .transmissionComplete s = .next s.finishTransmission := congrArg Host.Outcome.next (if_pos h)

end Sys2Proof.Machine

namespace Sys2Proof.Proofs

open Sys2Proof Sys2Proof.Machine

/-- Settles O44: each row by the branch of its own condition, the count by `takeGuard_counts`, and the line by
`lineLevels_carry`. -/
theorem channelContends : Obligations.ChannelContends := by
  intro s r on live window begun
  refine ⟨fun sending => ⟨?_, ?_⟩, fun listening => ⟨?_, fun busy => ?_, fun low => ?_⟩, fun early => ?_,
    fun q defer low idle slot => ?_, fun early => ?_, fun q n backoff past slot held => ⟨fun zero => ?_, fun more => ?_⟩,
    lineLevels_carry r.wire⟩
  · exact congrArg (fun x => Host.Outcome.next (on x)) (r.carrierHigh_sending sending)
  · exact congrArg (fun x => Host.Outcome.next (on x)) (r.carrierLow_sending sending)
  · exact congrArg (fun x => Host.Outcome.next (on x)) (r.carrierHigh_listening listening)
  · exact congrArg (fun x => Host.Outcome.next (on x)) (r.carrierLow_falls listening busy)
  · exact congrArg (fun x => Host.Outcome.next (on x)) (r.carrierLow_low listening low)
  · refine congrArg Host.Outcome.next (if_neg ?_)
    rw [Route.guardDue_iff]
    rintro ⟨defer, low, idle⟩
    rcases early with h | h | h
    · exact h defer
    · exact absurd (low.symm.trans h) (by decide)
    · exact absurd idle (Nat.not_le.mpr h)
  · obtain ⟨n, taken, keeps, below⟩ := r.takeGuard_counts s.draws q slot
    refine ⟨s.takeGuardComplete, n, rfl, ?_, keeps, below, fun zero => ?_, fun more => ?_⟩ <;>
      rw [State.takeGuardComplete, if_pos (r.guardDue_iff.mpr ⟨defer, low, idle⟩), State.liftRoute]
    · subst zero
      exact taken.trans (r.backOff_sends q slot)
    · exact taken.trans (r.backOff_waits more)
  · refine congrArg Host.Outcome.next (if_neg ?_)
    rw [Route.slotDue_iff]
    rintro ⟨backoff, past⟩
    rcases early with h | h
    · exact h backoff
    · exact absurd past (Nat.not_le.mpr h)
  all_goals
    have ended : exec .backoffSlotEnd s = .next (on (r.backOff n)) := by
      refine congrArg Host.Outcome.next ((if_pos (r.slotDue_iff.mpr ⟨backoff, past⟩)).trans ?_)
      show ({ s with route := r.backOff (r.backoff.getD 1 - 1) } : State) = _
      rw [held]; rfl
    rw [ended]
  · rw [zero, r.backOff_sends q slot]
  · rw [r.backOff_waits more, ← backoff]

/-- Settles O45: before the end the row's condition fails; at it the slot is cleared, and the head of the queue, if any,
enters it without a guard. -/
theorem transmissionCompletes : Obligations.TransmissionCompletes := by
  intro q s slot n timeUp cleared
  have cleared_eq : s.route.clearSlot = cleared := s.route.clearSlot_eq
  have mayEnd : s.route.transmissionMayEnd = true ↔ s.route.contention = .sending ∧ timeUp :=
    s.route.transmissionMayEnd_iff q slot
  refine ⟨fun early => ?_, fun sending up none => ?_, fun w ws sending up head => ?_⟩
  · refine congrArg Host.Outcome.next (if_neg ?_)
    rw [mayEnd]
    rintro ⟨sending, up⟩
    exact early.elim (· sending) (· up)
  · rw [exec_transmissionComplete_due s (mayEnd.mpr ⟨sending, up⟩), State.finishTransmission, State.liftRoute,
      Route.finishTransmission_last _ _ none, cleared_eq]
  · rw [exec_transmissionComplete_due s (mayEnd.mpr ⟨sending, up⟩), State.finishTransmission, State.liftRoute,
      Route.finishTransmission_next _ _ w ws head, cleared_eq]

end Sys2Proof.Proofs
end

section
/-! PROOFS. The rows of the periodic frames, the coordinator's timers, the input lines and the apply events (R37, R79,
R121, R122, R132, R140, R143, R151 to R155, R175, R185). -/

namespace Sys2Proof.Machine

/-! ### The periodic frames -/

/-- A LEVEL queued, with its timer started for 250 ms (R122). -/
theorem State.sendLevel_queuedFor (st : Station) (x : State) (configured : x.station = some st) :
    x.sendLevel = { x with
      draws := (queuedFor st (.level (levelShown x)) x.draws x.route).1
      route := { (queuedFor st (.level (levelShown x)) x.draws x.route).2 with levelTimer := some 250 } } := by
  rw [State.sendLevel, State.send_queuedFor _ st x configured]; rfl

theorem State.takeVerdictRepeat_due (st : Station) (v : VerdictRecord) (x : State) (configured : x.station = some st)
    (due : x.lobe.repeatTimer = some 0) (own : x.lobe.own = some v) :
    x.takeVerdictRepeat = { x with
      draws := (queuedFor st (.verdict v) x.draws x.route).1, route := (queuedFor st (.verdict v) x.draws x.route).2
      lobe := { x.lobe with repeatTimer := some 5000 } } := by
  have repeated : x.takeVerdictRepeat =
      ({ x with lobe := { x.lobe with repeatTimer := some 5000 } } : State).send (.verdict v) := by
    simp [State.takeVerdictRepeat, due, own, Timer.due]
  rw [repeated, State.send_queuedFor _ st _ (by exact configured)]

theorem State.takeDigestTimer_due (st : Station) (x : State) (configured : x.station = some st)
    (due : x.soak.digestTimer = some 0) :
    x.takeDigestTimer = { x with
      draws := (queuedFor st (.digest (digestShown true x.soak)) x.draws x.route).1
      route := (queuedFor st (.digest (digestShown true x.soak)) x.draws x.route).2
      soak := { x.soak with digestTimer := some 60 } } := by
  rw [State.takeDigestTimer, if_pos ((Timer.due_iff _).mpr due), State.sendDigest,
    State.send_queuedFor _ st _ (by exact configured)]
  rfl

theorem State.takeDoneRepeat_due (st : Station) (b : MtestBody) (x : State) (configured : x.station = some st)
    (due : x.margin.doneTimer = some 0) (body : x.margin.doneBody = some b) :
    x.takeDoneRepeat = { x with
      draws := (queuedFor st (.mtest .done b) x.draws x.route).1
      route := (queuedFor st (.mtest .done b) x.draws x.route).2
      margin := { x.margin with doneTimer := some 5000 } } := by
  have repeated : x.takeDoneRepeat =
      ({ x with margin := { x.margin with doneTimer := some 5000 } } : State).send (.mtest .done b) := by
    simp [State.takeDoneRepeat, State.repeatDone, due, body, Timer.due]
  rw [repeated, State.send_queuedFor _ st _ (by exact configured)]

/-! ### The answer timer -/

/-- A resend below the third attempt (R132). -/
theorem State.takeAnswerTimeout_resends (st : Station) (p : Proposal) (x : State) (configured : x.station = some st)
    (due : x.hop.answerTimer = some 0) (made : x.hop.outstanding = some p) (below : p.attempts < 3) :
    let queued := x.route.withdrawPropose.enqueue x.draws { frame := buildFrame st (.propose p.body), resend := true }
    x.takeAnswerTimeout = { x with
      draws := queued.1, route := queued.2
      hop := { x.hop with
        outstanding := some { p with attempts := p.attempts + 1 }, answerTimer := some 2000 } } := by
  have resent : x.takeAnswerTimeout = x.resend p := by
    simp [State.takeAnswerTimeout, State.answerTimedOut, due, made, below, Timer.due]
  rw [resent, State.resend, State.queueBody_configured _ _ st _ (by exact configured)]

/-- The failure at the third attempt (R132, R140). -/
theorem State.takeAnswerTimeout_fails (p : Proposal) (x : State) (due : x.hop.answerTimer = some 0)
    (made : x.hop.outstanding = some p) (third : 3 ≤ p.attempts) :
    x.takeAnswerTimeout = { x with
      route := x.route.withdrawPropose
      hop := { x.hop with
        outstanding := none, answerTimer := none
        failed := some { number := p.number, target := p.target, role := p.role }
        autoTimer := if p.automatic then some 10000 else x.hop.autoTimer }
      site := x.site.signal (.proposal p.number p.target .failed none) } := by
  have failed : x.takeAnswerTimeout = x.failProposal p := by
    simp [State.takeAnswerTimeout, State.answerTimedOut, due, made, Timer.due, Nat.not_lt.mpr third]
  rw [failed, State.failProposal, State.closeProposal, State.endProposal, State.startAutoTimer]
  cases p.automatic <;> rfl

/-! ### The automatic timer -/

/-- The condition is gone when the timer runs out (R140). -/
theorem State.autoExpired_gone (x : State) (gone : x.autoTarget = none) :
    x.autoExpired = { x with hop := { x.hop with autoTimer := none } } := by
  have same : ({ x with hop := { x.hop with autoTimer := none } } : State).autoTarget = none := gone
  simp only [State.autoExpired, State.autoTry, same]

/-- A check fails when the timer runs out (R140). -/
theorem State.autoExpired_waits (p : Phase) (x : State) (target : x.autoTarget = some p)
    (fails : x.mayPropose p = false) :
    x.autoExpired = { x with hop := { x.hop with autoTimer := some 10000 } } := by
  have same : ({ x with hop := { x.hop with autoTimer := none } } : State).autoTarget = some p := target
  have sameFails : ({ x with hop := { x.hop with autoTimer := none } } : State).mayPropose p = false := fails
  simp [State.autoExpired, State.autoTry, same, sameFails]

/-! ### The sync input and the attenuation -/

theorem LineState.due_iff (n : Nat) (l : LineState) : l.due n = true ↔ n ≤ l.candidate ∧ l.raw ≠ l.filtered := by
  simp [LineState.due]

theorem LineState.not_due (n : Nat) (l : LineState) (h : l.candidate < n ∨ l.raw = l.filtered) : l.due n = false := by
  rw [Bool.eq_false_iff, ne_eq, LineState.due_iff]
  rintro ⟨past, differs⟩
  exact h.elim (fun early => absurd past (Nat.not_le.mpr early)) differs

theorem LineState.pass_due (n : Nat) (l : LineState) (h : l.due n = true) :
    l.pass n = { l with filtered := l.raw, candidate := 0 } := if_pos h

theorem State.takeSyncRise_early (x : State) (h : x.src.sync.due syncTicks = false) : x.takeSyncRise = x := by
  simp [State.takeSyncRise, h]

theorem State.takeSyncFall_early (x : State) (h : x.src.sync.due syncTicks = false) : x.takeSyncFall = x := by
  simp [State.takeSyncFall, h]

theorem Staged.applyOn_eq (named : Bool) (x : Staged Nat) :
    x.applyOn named =
      if named = true ∧ x.pending = true then { live := x.staged, staged := x.staged, pending := false } else x := by
  simp [Staged.applyOn]

end Sys2Proof.Machine

namespace Sys2Proof.Proofs

open Sys2Proof Sys2Proof.Machine

/-- Settles O46: each timer's row, run out or not. -/
theorem periodicFramesAreQueued : Obligations.PeriodicFramesAreQueued := by
  intro st s configured queued
  refine ⟨fun early => ?_, fun due => ?_, fun early => ?_, fun due => ?_, fun early => ?_, fun v due own => ?_,
    fun early => ?_, fun due => ?_, fun early => ?_, fun b due body => ?_⟩
  · exact congrArg Host.Outcome.next (if_neg (mt (Timer.due_iff _).mp early))
  · obtain ⟨n, least, most, sent⟩ := State.sendStatus_queuedFor st s configured
    refine ⟨s.sendStatus, n, congrArg Host.Outcome.next (if_pos ((Timer.due_iff _).mpr due)), ?_, least, most, ?_⟩ <;>
      rw [sent]
  · exact congrArg Host.Outcome.next (if_neg (mt (Timer.due_iff _).mp early))
  · refine ⟨s.sendLevel, congrArg Host.Outcome.next (if_pos ((Timer.due_iff _).mpr due)), ?_, ?_⟩ <;>
      rw [State.sendLevel_queuedFor st s configured]
  · exact congrArg Host.Outcome.next (if_neg (mt (Timer.due_iff _).mp early))
  · refine ⟨s.takeVerdictRepeat, rfl, ?_, ?_⟩ <;> rw [State.takeVerdictRepeat_due st v s configured due own]
  · exact congrArg Host.Outcome.next (if_neg (mt (Timer.due_iff _).mp early))
  · refine ⟨s.takeDigestTimer, rfl, ?_, ?_⟩ <;> rw [State.takeDigestTimer_due st s configured due]
  · exact congrArg Host.Outcome.next (if_neg (mt (Timer.due_iff _).mp early))
  · refine ⟨s.takeDoneRepeat, rfl, ?_, ?_⟩ <;> rw [State.takeDoneRepeat_due st b s configured due body]

/-- Settles O47: each timer's row, run out or not, the answer timer by its attempts. -/
theorem coordinatorTimersAct : Obligations.CoordinatorTimersAct := by
  intro s withdrawn
  refine ⟨fun early => ?_, fun st p configured due made below => ?_, fun p due made third => ?_, fun early => ?_,
    fun due => ?_, fun early => ?_, fun due gone => ?_, fun due target fails => ?_⟩
  · exact congrArg Host.Outcome.next (if_neg (mt (Timer.due_iff _).mp early))
  · refine ⟨s.takeAnswerTimeout, rfl, ?_, ?_, ?_⟩ <;>
      rw [State.takeAnswerTimeout_resends st p s configured due made below]
    rfl
  · refine ⟨s.takeAnswerTimeout, rfl, ?_, ?_, ?_⟩ <;> rw [State.takeAnswerTimeout_fails p s due made third]
    rfl
  · exact congrArg Host.Outcome.next (if_neg (mt (Timer.due_iff _).mp early))
  · exact congrArg Host.Outcome.next (if_pos ((Timer.due_iff _).mpr due))
  · exact congrArg Host.Outcome.next (if_neg (mt (Timer.due_iff _).mp early))
  · rw [exec_automaticTimerExpiry_due due, State.autoExpired_gone s gone]
  · obtain ⟨p, target⟩ := Option.ne_none_iff_exists'.mp target
    have notMay : s.mayPropose p = false := by
      rcases fails with open_ | conflict | lost
      · simp [State.mayPropose, open_]
      · simp [State.mayPropose, conflict]
      · simp [State.mayPropose, lost]
    rw [exec_automaticTimerExpiry_due due, State.autoExpired_waits p s target notMay]

/-- Settles O48: each row by the lines whose filter time has run out, and the attenuator's lines as the bits of the live
value. -/
theorem linesAndApplyEventsAct : Obligations.LinesAndApplyEventsAct := by
  intro x l high s drive axis sync passed applied source
  have appliedBy : ∀ named, s.src.atten.applyOn named = applied named := fun named => Staged.applyOn_eq named _
  have early : sync.candidate < 8 ∨ sync.raw = sync.filtered → s.takeSyncRise = s ∧ s.takeSyncFall = s := fun h =>
    ⟨s.takeSyncRise_early (LineState.not_due _ _ h), s.takeSyncFall_early (LineState.not_due _ _ h)⟩
  refine ⟨fun none => ?_, fun h => ?_, fun h => ?_, fun due => ?_, fun h => ?_, fun past raw filtered => ?_,
    fun past raw filtered => ?_, fun i inside => ?_⟩
  · show Host.Outcome.next ((s.takeTransition x).driveLine x l high) = _
    rw [State.takeTransition_none none]
    cases l <;> rfl
  · show Host.Outcome.next (s.takeSyncRise.takeSyncFall.driveSync high) = _
    rw [(early h).1, (early h).2]
    rfl
  · exact congrArg Host.Outcome.next (if_neg (by simp [h]))
  · rw [← appliedBy]
    exact congrArg Host.Outcome.next (if_pos due)
  · exact ⟨congrArg Host.Outcome.next (early h).1, congrArg Host.Outcome.next (early h).2⟩
  · have due : s.src.sync.due syncTicks = true := (LineState.due_iff _ _).mpr
      ⟨past, fun same => absurd (raw.symm.trans (same.trans filtered)) (by decide)⟩
    rw [← appliedBy]
    refine ⟨congrArg Host.Outcome.next ((if_pos (by rw [due]; exact raw)).trans ?_),
      congrArg Host.Outcome.next (if_neg (by rw [due, show s.src.sync.raw = true from raw]; decide))⟩
    rw [Source.passSync, LineState.pass_due _ _ due]
    rfl
  · have due : s.src.sync.due syncTicks = true := (LineState.due_iff _ _).mpr
      ⟨past, fun same => absurd (filtered.symm.trans (same.symm.trans raw)) (by decide)⟩
    refine ⟨congrArg Host.Outcome.next ((if_pos (by rw [due, show s.src.sync.raw = false from raw]; rfl)).trans ?_),
      congrArg Host.Outcome.next (if_neg (by rw [due, show s.src.sync.raw = false from raw]; decide))⟩
    rw [Source.passSync, LineState.pass_due _ _ due]
  · rw [Source.attenLines, BitVec.getLsbD_ofNat]
    simp [inside]

end Sys2Proof.Proofs
end

section
/-! PROOFS. The generator and the pattern checker: bits, lock and word intervals (R158 to R162). -/

namespace Sys2Proof.Machine

/-! ### Bits -/

theorem Source.sendBit_eq (words : List (BitVec 16)) (x : Source) :
    x.sendBit words = { x with
      genOut := (words.getD x.genWord 0).getLsbD x.genBit
      genBit := if x.genBit = 0 then 15 else x.genBit - 1
      genWord := if x.genBit = 0 then (x.genWord + 1) % 8 else x.genWord } := by
  unfold Source.sendBit
  by_cases last : x.genBit = 0 <;> simp [last]

theorem Checker.takeBit_eq (bit : Bool) (c : Checker) :
    c.takeBit bit = { c with
      window := (c.window <<< 1) ||| (if bit then 1 else 0)
      intervalBits := c.intervalBits + 1
      sinceHunt := if c.state = .hunt then min 16 (c.sinceHunt + 1) else c.sinceHunt
      wordBits := if c.state = .hunt then c.wordBits else c.wordBits + 1 } := by
  obtain ⟨state, _, _, _, _, _, _, _, _, _, _, _⟩ := c
  cases state <;> cases bit <;> simp [Checker.takeBit, satInc_eq]

/-! ### The found word -/

theorem Checker.found_none (words : List (BitVec 16)) (c : Checker)
    (h : c.state ≠ .hunt ∨ c.sinceHunt < 16 ∨ c.window ∉ words) : c.found words = none := by
  unfold Checker.found
  split
  · next full =>
    have absent : c.window ∉ words :=
      (h.resolve_left (not_not_intro full.1)).resolve_left (Nat.not_lt.mpr full.2)
    rw [wordIndex, List.findIdx?_eq_none_iff]
    intro w inWords
    exact beq_eq_false_iff_ne.mpr fun same => absent (same ▸ inWords)
  · rfl

theorem Checker.found_first (words : List (BitVec 16)) (c : Checker) (j : Nat) (hunt : c.state = .hunt)
    (full : 16 ≤ c.sinceHunt) (at_ : words[j]? = some c.window) (first : ∀ i, i < j → words[i]? ≠ some c.window) :
    c.found words = some j := by
  rw [Checker.found, if_pos ⟨hunt, full⟩, wordIndex, List.findIdx?_eq_some_iff_getElem]
  obtain ⟨inside, word⟩ := List.getElem?_eq_some_iff.mp at_
  refine ⟨inside, beq_iff_eq.mpr word, fun i before same => first i before ?_⟩
  exact List.getElem?_eq_some_iff.mpr ⟨by omega, beq_iff_eq.mp same⟩

theorem State.takeSyncWord_off (s : State) (off : s.src.pattern.live = false) : s.takeSyncWord = s := by
  simp [State.takeSyncWord, off]

theorem State.takeSyncWord_none (s : State) (none : s.chk.found s.settings.words = none) : s.takeSyncWord = s := by
  simp [State.takeSyncWord, Checker.takeFound, none]

theorem State.takeSyncWord_found (s : State) (j : Nat) (live : s.src.pattern.live = true)
    (found : s.chk.found s.settings.words = some j) :
    s.takeSyncWord = { s with chk := s.chk.confirmFrom j } := by
  simp [State.takeSyncWord, Checker.takeFound, live, found]

/-! ### The completed word -/

theorem Checker.wordDue_iff (c : Checker) : c.wordDue = true ↔ c.state ≠ .hunt ∧ 16 ≤ c.wordBits := by
  simp [Checker.wordDue]

theorem differingBits_eq (v w : BitVec 16) :
    differingBits v w = ((List.range 16).filter fun i => (v.getLsbD i) != (w.getLsbD i)).length := by
  simp [differingBits, BitVec.getLsbD_xor]

theorem Checker.takeWord_confirming (words : List (BitVec 16)) (c : Checker) (h : c.state = .confirming) :
    c.takeWord words = c.confirmWord words := by simp [Checker.takeWord, h]

theorem Checker.takeWord_locked (words : List (BitVec 16)) (c : Checker) (h : c.state = .locked) :
    c.takeWord words = c.lockedWord words := by simp [Checker.takeWord, h]

theorem Checker.confirmWord_wrong (words : List (BitVec 16)) (c : Checker)
    (wrong : c.window ≠ words.getD c.expected 0) : c.confirmWord words = c.toHunt := if_neg wrong

theorem Checker.confirmWord_counts (words : List (BitVec 16)) (c : Checker)
    (right : c.window = words.getD c.expected 0) (more : c.confirm < 7) :
    c.confirmWord words = { c with confirm := c.confirm + 1, expected := (c.expected + 1) % 8, wordBits := 0 } := by
  rw [Checker.confirmWord, if_pos right]
  exact if_neg (by show ¬ 8 ≤ c.confirm + 1; omega)

theorem Checker.confirmWord_locks (words : List (BitVec 16)) (c : Checker)
    (right : c.window = words.getD c.expected 0) (eighth : 7 ≤ c.confirm) :
    c.confirmWord words = { c with
      state := .locked, confirm := c.confirm + 1, expected := (c.expected + 1) % 8, wordBits := 0, hits := 0
      lockCount := satInc max16 c.lockCount } := by
  rw [Checker.confirmWord, if_pos right]
  exact if_pos (by show 8 ≤ c.confirm + 1; omega)

theorem Checker.lockedWord_stays (words : List (BitVec 16)) (c : Checker)
    (fewer : differingBits c.window (words.getD c.expected 0) < 4 ∨ c.hits < 3) :
    c.lockedWord words = c.compareWord words := by
  refine if_neg ?_
  show ¬ 4 ≤ (if 4 ≤ differingBits c.window (words.getD c.expected 0) then c.hits + 1 else 0)
  split <;> omega

theorem Checker.lockedWord_loses (words : List (BitVec 16)) (c : Checker)
    (hit : 4 ≤ differingBits c.window (words.getD c.expected 0)) (fourth : 3 ≤ c.hits) :
    c.lockedWord words = (c.compareWord words).loseLock := by
  refine if_pos ?_
  show 4 ≤ (if 4 ≤ differingBits c.window (words.getD c.expected 0) then c.hits + 1 else 0)
  rw [if_pos hit]; omega

theorem State.takeWordComplete_early (s : State) (h : s.src.pattern.live = false ∨ s.chk.wordDue = false) :
    s.takeWordComplete = s := by
  rcases h with h | h <;> simp [State.takeWordComplete, h]

theorem State.takeWordComplete_quiet (s : State) (live : s.src.pattern.live = true) (due : s.chk.wordDue = true)
    (same : lockChanged s.chk (s.chk.takeWord s.settings.words) = false) :
    s.takeWordComplete = { s with chk := s.chk.takeWord s.settings.words } := by
  simp [State.takeWordComplete, live, due, State.completeWord, same]

theorem State.takeWordComplete_reports (s : State) (live : s.src.pattern.live = true) (due : s.chk.wordDue = true)
    (changed : lockChanged s.chk (s.chk.takeWord s.settings.words) = true) :
    let c := s.chk.takeWord s.settings.words
    s.takeWordComplete = { s with
      chk := c, site := s.site.signal (.pattern c.state c.lockCount c.slipCount) } := by
  simp only [State.takeWordComplete, live, due, State.completeWord, changed, Bool.and_self, if_true]
  rfl

/-! ### The interval -/

theorem State.takeIntervalEnd_early (s : State) (h : s.src.pattern.live = false ∨ s.chk.intervalBits < 16) :
    s.takeIntervalEnd = s := by
  refine if_neg ?_
  rcases h with h | h
  · simp [h]
  · simp [Checker.intervalDue, Nat.not_le.mpr h]

theorem State.takeIntervalEnd_due (s : State) (live : s.src.pattern.live = true) (full : 16 ≤ s.chk.intervalBits)
    (settled : s.settleSyncWork = s) : s.takeIntervalEnd = { s with chk := s.chk.endInterval } := by
  have due : s.chk.intervalDue = true := decide_eq_true full
  simp [State.takeIntervalEnd, live, due, settled]

end Sys2Proof.Machine

namespace Sys2Proof.Proofs

open Sys2Proof Sys2Proof.Machine

/-- Settles O49: the clock edge, with the generator's and the checker's bit. -/
theorem patternBitsPass : Obligations.PatternBitsPass := by
  intro bit s
  refine ⟨fun off => ?_, fun live settled => ?_⟩
  · exact congrArg Host.Outcome.next (if_neg (by simp [off]))
  · refine congrArg Host.Outcome.next ((if_pos live).trans ?_)
    simp only [settled, Source.sendBit_eq, Checker.takeBit_eq]

/-- Settles O50: the found word, the completed word by the checker's state, and the interval. -/
theorem checkerFindsAndLosesLock : Obligations.CheckerFindsAndLosesLock := by
  intro s c expected errors next on count off word hunting compared
  have errorsAre : differingBits c.window expected = errors := differingBits_eq _ _
  have comparedIs : c.compareWord s.settings.words = compared := by
    simp only [Checker.compareWord, satAdd_eq]
    rw [show differingBits c.window (s.settings.words.getD c.expected 0) = errors from errorsAre]
  have notOff : ∀ {P : Prop}, ¬ off → (s.src.pattern.live = true → P) → P := fun h f => f (by simpa [off] using h)
  have due : word → ∀ {x}, c.state = x → x ≠ .hunt → s.src.pattern.live = true ∧ s.chk.wordDue = true :=
    fun h x state other => ⟨h.1, c.wordDue_iff.mpr ⟨state ▸ other, h.2⟩⟩
  refine ⟨fun h => ?_, fun j live hunt full at_ first => ?_, fun h => ?_, fun h state wrong => ?_,
    fun h state right more => ?_, fun h state right eighth => ?_, fun h state fewer => ?_,
    fun h state hit fourth => ?_, fun h => ?_, fun live full settled => ?_⟩
  · refine congrArg Host.Outcome.next ?_
    rcases h with h | h
    · exact s.takeSyncWord_off h
    · exact s.takeSyncWord_none (c.found_none _ h)
  · exact notOff live fun live =>
      congrArg Host.Outcome.next (s.takeSyncWord_found j live (c.found_first _ j hunt full at_ first))
  · refine congrArg Host.Outcome.next (s.takeWordComplete_early (h.imp_right fun early => ?_))
    rw [Bool.eq_false_iff, ne_eq, Checker.wordDue_iff]
    rintro ⟨state, full⟩
    exact early.elim (fun hunt => state hunt) (fun bits => absurd full (Nat.not_le.mpr bits))
  · obtain ⟨live, complete⟩ := due h state (by decide)
    have taken := (c.takeWord_confirming s.settings.words state).trans (c.confirmWord_wrong _ wrong)
    refine congrArg Host.Outcome.next ((s.takeWordComplete_quiet live complete ?_).trans (congrArg on taken))
    rw [show s.chk.takeWord s.settings.words = c.toHunt from taken]
    rw [lockChanged, show s.chk.state = .confirming from state, Checker.toHunt]
    exact bne_self_eq_false false
  · obtain ⟨live, complete⟩ := due h state (by decide)
    have taken := (c.takeWord_confirming s.settings.words state).trans (c.confirmWord_counts _ right more)
    refine congrArg Host.Outcome.next ((s.takeWordComplete_quiet live complete ?_).trans (congrArg on taken))
    rw [show s.chk.takeWord s.settings.words = _ from taken]
    exact bne_self_eq_false _
  · obtain ⟨live, complete⟩ := due h state (by decide)
    have taken := (c.takeWord_confirming s.settings.words state).trans (c.confirmWord_locks _ right eighth)
    have changed : lockChanged s.chk (s.chk.takeWord s.settings.words) = true := by
      rw [show s.chk.takeWord s.settings.words = _ from taken]
      simp [lockChanged, show s.chk.state = .confirming from state]
    refine ⟨s.takeWordComplete, rfl, ?_, ?_, ?_⟩ <;> rw [s.takeWordComplete_reports live complete changed]
    · exact taken.trans (by rw [satInc_eq, max16])
    · rw [show s.chk.takeWord s.settings.words = _ from taken]
  · obtain ⟨live, complete⟩ := due h state (by decide)
    have taken := (c.takeWord_locked s.settings.words state).trans
      ((c.lockedWord_stays _ (by rwa [errorsAre])).trans comparedIs)
    refine congrArg Host.Outcome.next ((s.takeWordComplete_quiet live complete ?_).trans (congrArg on taken))
    rw [show s.chk.takeWord s.settings.words = _ from taken]
    exact bne_self_eq_false _
  · obtain ⟨live, complete⟩ := due h state (by decide)
    have taken := (c.takeWord_locked s.settings.words state).trans
      ((c.lockedWord_loses _ (by rwa [errorsAre]) fourth).trans (congrArg Checker.loseLock comparedIs))
    have changed : lockChanged s.chk (s.chk.takeWord s.settings.words) = true := by
      rw [show s.chk.takeWord s.settings.words = _ from taken]
      simp [lockChanged, show s.chk.state = .locked from state, Checker.loseLock, Checker.toHunt]
    refine ⟨s.takeWordComplete, rfl, ?_, ?_, ?_⟩ <;> rw [s.takeWordComplete_reports live complete changed]
    · exact taken.trans (by rw [Checker.loseLock, satInc_eq, satInc_eq]; rfl)
    · rw [show s.chk.takeWord s.settings.words = _ from taken]
      rfl
  · exact congrArg Host.Outcome.next (s.takeIntervalEnd_early h)
  · refine notOff live fun live => congrArg Host.Outcome.next ((s.takeIntervalEnd_due live full settled).trans ?_)
    rw [Checker.endInterval, satInc_eq, satInc_eq]

end Sys2Proof.Proofs
end

section
/-! PROOFS. A well-formed frame is read back from its own bytes (R106, R108, R109). -/

namespace Sys2Proof.Machine

/-! ### Codes -/

theorem FrameKind.ofCode_code (k : FrameKind) : FrameKind.ofCode k.code = some k := by cases k <;> rfl

@[simp] theorem Phase.ofCode_code (p : Phase) : Phase.ofCode (p.code % 256) = some p := by cases p <;> rfl

@[simp] theorem Antenna.ofCode_code (a : Antenna) : Antenna.ofCode (a.code % 256) = some a := by cases a <;> rfl

@[simp] theorem MarginRole.ofCode_code (r : MarginRole) : MarginRole.ofCode (r.code % 256) = some r := by
  cases r <;> rfl

@[simp] theorem Verdict.ofCode_code (v : Verdict) : Verdict.ofCode (v.code % 256) = some v := by cases v <;> rfl

@[simp] theorem MtestEvent.ofCode_code (e : MtestEvent) : MtestEvent.ofCode (e.code % 256) = some e := by
  cases e <;> rfl

@[simp] theorem Direction.ofCode_code (d : Direction) : Direction.ofCode (d.code % 256) = some d := by cases d <;> rfl

@[simp] theorem reasonOfCode_code (r : Option DeclineReason) : reasonOfCode (reasonCode r % 256) = some r := by
  rcases r with _ | r
  · rfl
  · cases r <;> rfl

theorem outcomeOfCode_code (accept : Bool) : outcomeOfCode ((if accept then 0 else 1) % 256) = some accept := by
  cases accept <;> rfl

theorem IdentState.ofCode_code (x : IdentState) (h : x.wellFormed = true) :
    IdentState.ofCode (x.code % 256) = some x := by
  cases x with
  | noKeying => rfl
  | unsure => rfl
  | own => rfl
  | foreign n =>
    have range : 1 ≤ n ∧ n ≤ 7 := by simpa [IdentState.wellFormed, hopOk] using h
    have low : (3 + 16 * n) % 256 = 3 + 16 * n := by omega
    have nibble : (3 + 16 * n) % 16 = 3 := by omega
    have hop : (3 + 16 * n) / 16 = n := by omega
    have ok : hopOk n = true := h
    rw [IdentState.code, IdentState.ofCode, low, if_neg (by omega), if_neg (by omega), if_neg (by omega), nibble, hop,
      ok]
    rfl

/-! ### Numbers -/

theorem nat24_u24 {n : Nat} (h : n ≤ 16777215) :
    nat24 (byteOf (n / 65536)) (byteOf (n / 256)) (byteOf n) = n := by
  simp only [nat24, byteOf_toNat]
  omega

theorem fits16_iff (x : Int) : fits16 x = true ↔ -32768 ≤ x ∧ x ≤ 32767 := by simp [fits16]

/-- A signed value's two bytes (R106). -/
theorem i16_read {x : Int} (h : fits16 x = true) : ∃ a b, i16 x = [a, b] ∧ int16 a b = x :=
  ⟨_, _, rfl, int16_i16 ((fits16_iff x).mp h).1 ((fits16_iff x).mp h).2⟩

/-- An optional value's two bytes, read behind its presence flag (R106). -/
theorem i16Opt_read {x : Option Int} (h : fitsOpt x = true) :
    ∃ a b, i16Opt x = [a, b] ∧ optInt x.isSome (int16 a b) = x := by
  rcases x with _ | x
  · exact ⟨_, _, rfl, rfl⟩
  · obtain ⟨a, b, bytes, read⟩ := i16_read h
    exact ⟨a, b, bytes, by rw [read]; rfl⟩

/-! ### Flag bytes -/

theorem statusFlags_read : ∀ a b c d e f : Bool,
    let byte := byteOf (flagAt a 0 + flagAt b 1 + flagAt c 2 + flagAt d 3 + flagAt e 4 + flagAt f 5)
    bitAt byte 0 = a ∧ bitAt byte 1 = b ∧ bitAt byte 2 = c ∧ bitAt byte 3 = d ∧ bitAt byte 4 = e ∧
      bitAt byte 5 = f := by decide

theorem twoFlags_read : ∀ a b : Bool,
    let byte := byteOf (flagAt a 0 + flagAt b 1)
    bitAt byte 0 = a ∧ bitAt byte 1 = b := by decide

theorem levelFlags_read (a : Bool) (r : RangeState) :
    let byte := byteOf (flagAt a 0 + 2 * r.code)
    bitAt byte 0 = a ∧ RangeState.ofCode (byte.toNat / 2 % 4) = some r := by cases a <;> cases r <;> decide

theorem verdictFlags_read : ∀ a b c d e f g : Bool,
    let byte := byteOf (flagAt a 0 + flagAt b 1 + flagAt c 2 + flagAt d 3 + flagAt e 4 + flagAt f 5 + flagAt g 6)
    bitAt byte 0 = a ∧ bitAt byte 1 = b ∧ bitAt byte 2 = c ∧ bitAt byte 3 = d ∧ bitAt byte 4 = e ∧
      bitAt byte 5 = f ∧ bitAt byte 6 = g := by decide

theorem digestFlags_read (a b c : Bool) (v : Option SoakVerdict) :
    let byte := byteOf (flagAt a 0 + 2 * soakVerdictCode v + flagAt b 3 + flagAt c 4)
    bitAt byte 0 = a ∧ soakVerdictOfCode (byte.toNat / 2 % 4) = some v ∧ bitAt byte 3 = b ∧ bitAt byte 4 = c := by
  rcases v with _ | v
  · cases a <;> cases b <;> cases c <;> decide
  · cases v <;> cases a <;> cases b <;> cases c <;> decide

/-! ### Bodies -/

theorem StatusBody.ofBytes_bytes (b : StatusBody) (h : b.wellFormed = true) : StatusBody.ofBytes b.bytes = some b := by
  simp only [StatusBody.wellFormed, Bool.and_eq_true, decide_eq_true_eq, count24Ok] at h
  obtain ⟨⟨⟨⟨⟨⟨station, number⟩, ident⟩, level⟩, seconds⟩, direction⟩, step⟩ := h
  obtain ⟨l1, l0, levelBytes, levelRead⟩ := i16Opt_read level
  obtain ⟨m, d, w, s, c, l⟩ :=
    statusFlags_read b.mainConfirmed b.divConfirmed b.wantsLevel b.supplyLow b.clash b.level.isSome
  obtain ⟨one, two⟩ := twoFlags_read b.progress.doneOne b.progress.doneTwo
  simp only [StatusBody.bytes, levelBytes, u24, List.cons_append, List.nil_append, StatusBody.ofBytes, byteOf_toNat,
    Phase.ofCode_code, MarginRole.ofCode_code, IdentState.ofCode_code _ ident, StatusBody.flags, m, d, w, s, c, l,
    one, two, levelRead, nat24_u24 seconds, Nat.mod_eq_of_lt (show b.lastStation < 256 by omega),
    Nat.mod_eq_of_lt (show b.lastNumber < 256 by omega), Nat.mod_eq_of_lt (show b.progress.direction < 256 by omega),
    Nat.mod_eq_of_lt (show b.progress.step < 256 by omega)]

theorem LevelBody.ofBytes_bytes (b : LevelBody) (h : b.wellFormed = true) : LevelBody.ofBytes b.bytes = some b := by
  obtain ⟨level, ident⟩ := Bool.and_eq_true_iff.mp h
  obtain ⟨l1, l0, levelBytes, levelRead⟩ := i16Opt_read level
  obtain ⟨present, range⟩ := levelFlags_read b.level.isSome b.range
  simp only [LevelBody.bytes, levelBytes, List.cons_append, List.nil_append, LevelBody.ofBytes, present, range,
    levelRead]
  simp only [byteOf_toNat, Antenna.ofCode_code, IdentState.ofCode_code _ ident]

theorem numberOk_mod {n : Nat} (h : numberOk n = true) : n % 256 = n := by
  simp only [numberOk, Bool.and_eq_true, decide_eq_true_eq] at h
  omega

theorem stationOk_mod {n : Nat} (h : stationOk n = true) : n % 256 = n := by
  simp only [stationOk, Bool.and_eq_true, decide_eq_true_eq] at h
  omega

theorem ProposeBody.ofBytes_bytes (b : ProposeBody) (h : b.wellFormed = true) :
    ProposeBody.ofBytes b.bytes = some b := by
  obtain ⟨number, -⟩ := Bool.and_eq_true_iff.mp h
  simp only [ProposeBody.bytes, ProposeBody.ofBytes, byteOf_toNat, Phase.ofCode_code, Antenna.ofCode_code,
    numberOk_mod number]

theorem AnswerBody.ofBytes_bytes (b : AnswerBody) (h : b.wellFormed = true) :
    AnswerBody.ofBytes b.bytes = some b := by
  obtain ⟨proposer, number⟩ := Bool.and_eq_true_iff.mp h
  simp only [AnswerBody.bytes, AnswerBody.ofBytes, byteOf_toNat, Phase.ofCode_code, outcomeOfCode_code,
    reasonOfCode_code, numberOk_mod number, stationOk_mod proposer]

/-- A record's top figures behind their presence flag (R106). -/
theorem topFigures_read {top : Option TopFigures}
    (h : (match top with | none => true | some t => t.wellFormed) = true) :
    ∃ t1 t0 d1 d0, i16Opt (top.map TopFigures.level) = [t1, t0] ∧ i16Opt (top.map TopFigures.deviation) = [d1, d0] ∧
      (if top.isSome = true then some ({ level := int16 t1 t0, deviation := int16 d1 d0 } : TopFigures) else none) =
        top := by
  rcases top with _ | t
  · exact ⟨_, _, _, _, rfl, rfl, rfl⟩
  · obtain ⟨level, deviation⟩ := Bool.and_eq_true_iff.mp h
    obtain ⟨t1, t0, levelBytes, levelRead⟩ := i16_read level
    obtain ⟨d1, d0, deviationBytes, deviationRead⟩ := i16_read deviation
    exact ⟨t1, t0, d1, d0, levelBytes, deviationBytes, by rw [levelRead, deviationRead]; rfl⟩

theorem VerdictRecord.ofBytes_bytes (b : VerdictRecord) (h : b.wellFormed = true) :
    VerdictRecord.ofBytes b.bytes = some b := by
  simp only [VerdictRecord.wellFormed, Bool.and_eq_true] at h
  obtain ⟨⟨⟨⟨⟨proposer, number⟩, top⟩, predicted⟩, xpd⟩, diversity⟩ := h
  obtain ⟨t1, t0, d1, d0, levelBytes, deviationBytes, topRead⟩ := topFigures_read top
  obtain ⟨g1, g0, predictedBytes, predictedRead⟩ := i16_read predicted
  obtain ⟨x1, x0, xpdBytes, xpdRead⟩ := i16Opt_read xpd
  obtain ⟨y1, y0, diversityBytes, diversityRead⟩ := i16Opt_read diversity
  obtain ⟨f0, f1, f2, f3, f4, f5, f6⟩ := verdictFlags_read b.top.isSome b.xpd.isSome b.diversity.isSome
    b.positionSuspect b.foreignSeen b.outsideSeen b.listOverflow
  simp only [VerdictRecord.bytes, levelBytes, deviationBytes, predictedBytes, xpdBytes, diversityBytes,
    List.cons_append, List.nil_append, VerdictRecord.ofBytes, VerdictRecord.flags, f0, f1, f2, f3, f4, f5, f6, topRead,
    predictedRead, xpdRead, diversityRead, byteOf_toNat, Antenna.ofCode_code, Verdict.ofCode_code,
    stationOk_mod proposer, numberOk_mod number]

theorem DigestBody.ofBytes_bytes (b : DigestBody) (h : b.wellFormed = true) :
    DigestBody.ofBytes b.bytes = some b := by
  simp only [DigestBody.wellFormed, Bool.and_eq_true, decide_eq_true_eq, count24Ok] at h
  obtain ⟨⟨⟨⟨⟨⟨⟨seconds, clean⟩, errored⟩, bad⟩, outage⟩, periods⟩, fades⟩, deepest⟩ := h
  obtain ⟨d1, d0, deepestBytes, deepestRead⟩ := i16Opt_read deepest
  obtain ⟨final, verdict, incomplete, present⟩ := digestFlags_read b.final b.incomplete b.deepest.isSome b.verdict
  simp only [DigestBody.bytes, u24, u16, deepestBytes, List.cons_append, List.nil_append, DigestBody.ofBytes,
    DigestBody.flags, final, verdict, incomplete, present, deepestRead, nat24_u24 seconds, nat24_u24 clean,
    nat24_u24 errored, nat24_u24 bad, nat24_u24 outage, nat16_u16 periods, nat16_u16 fades]

theorem MtestBody.ofBytes_bytes (e : MtestEvent) (b : MtestBody) (h : b.wellFormed = true) :
    MtestBody.ofBytes (b.bytes e) = some (e, b) := by
  simp only [MtestBody.wellFormed, Bool.and_eq_true, decide_eq_true_eq] at h
  obtain ⟨⟨step, atten⟩, margin⟩ := h
  obtain ⟨capped, atZero⟩ := twoFlags_read b.capped b.atZero
  simp only [MtestBody.bytes, MtestBody.ofBytes, capped, atZero, byteOf_toNat, MtestEvent.ofCode_code,
    Direction.ofCode_code, Nat.mod_eq_of_lt (show b.step < 256 by omega),
    Nat.mod_eq_of_lt (show b.atten < 256 by omega), Nat.mod_eq_of_lt (show b.margin < 256 by omega)]

/-- A body is read back from its own bytes (R106). -/
theorem FrameBody.ofBytes_bytes (b : FrameBody) (h : b.wellFormed = true) :
    FrameBody.ofBytes b.kind b.bytes = some b := by
  cases b with
  | status b => exact congrArg (Option.map _) (StatusBody.ofBytes_bytes b h)
  | level b => exact congrArg (Option.map _) (LevelBody.ofBytes_bytes b h)
  | propose b => exact congrArg (Option.map _) (ProposeBody.ofBytes_bytes b h)
  | answer b => exact congrArg (Option.map _) (AnswerBody.ofBytes_bytes b h)
  | verdict b => exact congrArg (Option.map _) (VerdictRecord.ofBytes_bytes b h)
  | digest b => exact congrArg (Option.map _) (DigestBody.ofBytes_bytes b h)
  | mtest e b => exact congrArg (Option.map _) (MtestBody.ofBytes_bytes e b h)

theorem i16Opt_length (x : Option Int) : (i16Opt x).length = 2 := by cases x <;> rfl

/-- A body has its kind's length (R106). -/
theorem FrameBody.bytes_length (b : FrameBody) : b.bytes.length = b.kind.bodyLength := by
  cases b with
  | status b => simp [FrameBody.bytes, StatusBody.bytes, i16Opt_length, u24, FrameBody.kind, FrameKind.bodyLength]
  | level b => simp [FrameBody.bytes, LevelBody.bytes, i16Opt_length, FrameBody.kind, FrameKind.bodyLength]
  | propose b => rfl
  | answer b => rfl
  | verdict b =>
    simp [FrameBody.bytes, VerdictRecord.bytes, i16Opt_length, i16, u16, FrameBody.kind, FrameKind.bodyLength]
  | digest b =>
    simp [FrameBody.bytes, DigestBody.bytes, i16Opt_length, u16, u24, FrameBody.kind, FrameKind.bodyLength]
  | mtest e b => rfl

/-! ### Whole frames -/

theorem FrameKind.bodyLength_le (k : FrameKind) : k.bodyLength ≤ 24 := by cases k <;> decide

/-- Hop and end are read back from byte 3 (R106). -/
theorem hopByte_read (e : HopEnd) :
    ∀ n : Fin 8,
      let byte := Header.hopByte { source := 0, dest := 0, hop := n.val, hopEnd := e }
      byte.toNat % 8 = n.val ∧ (if bitAt byte 7 then HopEnd.b else .a) = e := by
  cases e <;> decide

/-- The header is read back from its bytes (R106). -/
theorem Header.ofBytes_bytes (h : Header) (good : h.wellFormed = true) :
    Header.ofBytes (byteOf h.source) (byteOf h.dest) h.hopByte = h := by
  simp only [Header.wellFormed, Bool.and_eq_true, decide_eq_true_eq, hopOk] at good
  obtain ⟨⟨source, dest⟩, -, hop⟩ := good
  obtain ⟨hopRead, endRead⟩ := hopByte_read h.hopEnd ⟨h.hop, by omega⟩
  have sourceRead : (byteOf h.source).toNat = h.source := (byteOf_toNat _).trans (stationOk_mod source)
  have destRead : (byteOf h.dest).toNat = h.dest := (byteOf_toNat _).trans (Nat.mod_eq_of_lt (by omega))
  rw [Header.ofBytes, sourceRead, destRead]
  exact congr (congrArg (Header.mk h.source h.dest) hopRead) endRead

/-- A whole frame with a right check is judged by its fields (R108, R109). -/
theorem judge_whole (kind src dst he len : Byte) (body : List Byte) (short : len.toNat ≤ 24)
    (whole : body.length = len.toNat) :
    judge (kind :: src :: dst :: he :: len :: (body ++ u16 (crc16 ([kind, src, dst, he, len] ++ body)).toNat)) =
      judgeBody kind src dst he body := by
  have check : (u16 (crc16 ([kind, src, dst, he, len] ++ body)).toNat).length = 2 := rfl
  rw [judge, if_neg (by omega), if_neg (by rw [List.length_append, check]; omega), ← whole]
  dsimp only
  rw [List.take_left, List.drop_left, if_pos (List.take_of_length_le (Nat.le_of_eq check))]

/-- A well-formed frame is judged good from its own bytes (R106, R109). -/
theorem Frame.judge_afterDelimiter (f : Frame) (good : f.wellFormed = true) : judge f.afterDelimiter = .good f := by
  obtain ⟨header, body⟩ := Bool.and_eq_true_iff.mp good
  have long := FrameBody.bytes_length f.body
  have short := FrameKind.bodyLength_le f.body.kind
  have lengthRead : (byteOf f.body.kind.bodyLength).toNat = f.body.kind.bodyLength := by
    rw [byteOf_toNat, Nat.mod_eq_of_lt (by omega)]
  refine (judge_whole _ _ _ _ _ f.body.bytes (by omega) (by omega)).trans ?_
  simp only [judgeBody, FrameKind.ofCode_code, long, if_true, FrameBody.ofBytes_bytes f.body body,
    Header.ofBytes_bytes f.header header]
  exact if_pos good

end Sys2Proof.Machine

namespace Sys2Proof.Proofs

open Sys2Proof Sys2Proof.Machine

/-- Settles O35: the check is right by construction, and header and body are read back from their bytes. -/
theorem frameBytesSpellTheFrame : Obligations.FrameBytesSpellTheFrame := by
  intro f good
  refine ⟨Frame.judge_afterDelimiter f good, ?_⟩
  simp only [Frame.wire, Frame.afterDelimiter, Frame.core, List.length_append, List.length_cons, List.length_nil, u16,
    FrameBody.bytes_length f.body]
  omega

end Sys2Proof.Proofs
end

section
/-! PROOFS. Reception: what a frame is received as, a clash, a malformed frame, and the receive framer (R105, R106,
R108, R109). -/

namespace Sys2Proof.Machine

/-! ### A frame taken whole -/

/-- What the delivery of a frame's kind does (R111). -/
def deliveryOf (f : Frame) : State → State :=
  match f.body with
  | .status b => State.deliverStatus b
  | .level _ => id
  | .propose b => State.takePropose f.header.source b
  | .answer b => State.takeAnswer b
  | .verdict b => State.takeVerdict b
  | .digest b => State.takeDigest b
  | .mtest .step b => State.takeStep b
  | .mtest .limit b => State.deliverLimit b
  | .mtest .done b => State.deliverDone b

/-- A frame of any kind goes the one way of reception (R109, R111). -/
theorem State.takeFrame_receive (f : Frame) (s : State) : s.takeFrame f = s.receive f (deliveryOf f) := by
  obtain ⟨header, body⟩ := f
  cases body with
  | mtest e b => cases e <;> rfl
  | status b => rfl
  | level b => rfl
  | propose b => rfl
  | answer b => rfl
  | verdict b => rfl
  | digest b => rfl

theorem exec_receiveRow_receive (f : Frame) (s : State) :
    exec (receiveRow f) s = .next (s.receive f (deliveryOf f)) := by rw [exec_receiveRow, State.takeFrame_receive]

theorem State.receive_sending (f : Frame) (deliver : State → State) (s : State) (h : s.route.contention = .sending) :
    s.receive f deliver = s := if_pos h

theorem State.receive_malformed (f : Frame) (deliver : State → State) (s : State) (listening : Listening s)
    (bad : f.wellFormed = false) :
    s.receive f deliver = ({ s with route := s.route.hunt } : State).countMalformed := by
  rw [State.receive, if_neg listening, State.judged, if_pos (by rw [bad]; rfl)]

theorem State.receive_clash (f : Frame) (deliver : State → State) (st : Station) (s : State)
    (configured : s.station = some st) (listening : Listening s) (good : f.wellFormed = true)
    (own : f.header.source = st.number) :
    s.receive f deliver =
      ({ s with route := s.route.hunt } : State).noteClash (some f.body.kind) f.header.hop f.header.hopEnd := by
  have clashes : ({ s with route := s.route.hunt } : State).clashesWith f.header = true := by
    simp [State.clashesWith, configured, own]
  rw [State.receive, if_neg listening, State.judged, if_neg (by rw [good]; decide), if_pos clashes]

/-- The framer's place does not matter to a frame taken whole (R108). -/
theorem State.takeFrame_framer (f : Frame) (x : Framer) (s : State) (listening : Listening s) :
    ({ s with route := { s.route with framer := x } } : State).takeFrame f = s.takeFrame f := by
  rw [State.takeFrame_receive, State.takeFrame_receive, State.receive, State.receive, if_neg (by exact listening),
    if_neg listening]
  rfl

/-! ### Hunting -/

theorem Framer.huntByte_other {f : Framer} {b : Byte} (notFirst : b ≠ 0x9E) (nothing : f.bytes = []) :
    f.huntByte b = Framer.hunting := by
  rw [Framer.huntByte, if_neg (by simp [nothing]), if_neg notFirst]

/-- A first delimiter byte is held (R108). -/
theorem Framer.huntByte_first (f : Framer) : f.huntByte 0x9E = .holding .hunt [0x9E] := by
  rw [Framer.huntByte, if_neg fun h => absurd h.1 (by decide), if_pos rfl]

/-- Characters without a delimiter's first byte leave the framer hunting (R108). -/
theorem State.takeCharacters_noise (noise : List Byte) (s : State) (listening : Listening s)
    (hunt : s.route.framer.state = .hunt) (nothing : s.route.framer.bytes = []) (silent : 0x9E ∉ noise)
    (some_ : noise ≠ []) :
    s.takeCharacters noise = { s with route := { s.route with framer := Framer.hunting } } := by
  induction noise generalizing s with
  | nil => exact absurd rfl some_
  | cons b bs ih =>
    obtain ⟨other, rest⟩ := List.ne_and_not_mem_of_not_mem_cons silent
    rw [State.takeCharacters_cons, State.takeCharacter_hunt b s listening hunt,
      Framer.huntByte_other (Ne.symm other) nothing]
    by_cases more : bs = []
    · subst more
      rfl
    · exact ih _ listening rfl rfl rest more

/-! ### The frame's end -/

theorem frameEnds_iff (bytes : List Byte) :
    frameEnds bytes = true ↔
      5 ≤ bytes.length ∧ (24 < (bytes.getD 4 0).toNat ∨ 7 + (bytes.getD 4 0).toNat ≤ bytes.length) := by
  simp [frameEnds]

/-- Fewer than the five header bytes end no frame (R108). -/
theorem frameEnds_short {bytes : List Byte} (h : bytes.length < 5) : frameEnds bytes = false := by
  rw [Bool.eq_false_iff, ne_eq, frameEnds_iff]
  omega

/-- A beginning with a whole header has the header's length byte. -/
theorem getD_take_four (bytes : List Byte) (n : Nat) (h : 5 ≤ n) : (bytes.take n).getD 4 0 = bytes.getD 4 0 := by
  simp only [List.getD_eq_getElem?_getD, List.getElem?_take, if_pos (show 4 < n by omega)]

/-- Bytes short of the check that the header announces end no frame, nor does any beginning of them (R108). -/
theorem frameEnds_take_false {bytes : List Byte} (n : Nat) (fits : (bytes.getD 4 0).toNat ≤ 24)
    (short : n < 7 + (bytes.getD 4 0).toNat) : frameEnds (bytes.take n) = false := by
  by_cases header : n < 5
  · exact frameEnds_short (by rw [List.length_take]; omega)
  · rw [Bool.eq_false_iff, ne_eq, frameEnds_iff, getD_take_four bytes n (by omega), List.length_take]
    omega

theorem Framer.header_eq {f : Framer} (header : f.state = .header) (nothing : f.bytes = []) :
    f = { state := framerStateOf [], bytes := [], gap := f.gap } := by
  obtain ⟨state, bytes, gap⟩ := f
  subst header nothing
  rfl

/-- The characters of one frame, from its delimiter on, are judged at its end (R108, R109). -/
theorem State.takeCharacters_judged (bytes : List Byte) (s : State) (listening : Listening s)
    (header : s.route.framer.state = .header) (nothing : s.route.framer.bytes = []) (ends : frameEnds bytes = true)
    (before : ∀ n, n < bytes.length → frameEnds (bytes.take n) = false) :
    s.takeCharacters bytes =
      ({ s with route := { s.route with framer := Framer.hunting } } : State).takeJudged (judge bytes) := by
  have long : 5 ≤ bytes.length := ((frameEnds_iff bytes).mp ends).1
  obtain ⟨held, last, rfl⟩ : ∃ held last, bytes = held ++ [last] :=
    ⟨_, _, (List.dropLast_concat_getLast (List.ne_nil_of_length_pos (by omega))).symm⟩
  rw [List.length_append, List.length_singleton] at long before
  rw [State.takeCharacters_append,
    State.takeCharacters_held [] held s.route.framer.gap s listening (Framer.header_eq header nothing) (List.ne_nil_of_length_pos (by omega))
      fun n inside => by
        have := before n (by omega)
        rwa [List.take_append_of_le_length inside] at this]
  exact State.takeCharacter_ends held last _ listening (some longestGap) rfl ends

/-- The characters of a part of a frame, from its delimiter on, are held (R108). -/
theorem State.takeCharacters_part (bytes : List Byte) (s : State) (listening : Listening s)
    (header : s.route.framer.state = .header) (nothing : s.route.framer.bytes = []) (some_ : bytes ≠ [])
    (open_ : ∀ n, n ≤ bytes.length → frameEnds (bytes.take n) = false) :
    s.takeCharacters bytes =
      { s with route := { s.route with framer := .holding (framerStateOf bytes) bytes } } := by
  exact State.takeCharacters_held [] bytes s.route.framer.gap s listening (Framer.header_eq header nothing) some_ open_

/-- A frame whose bytes are all there, with what is judged of it. -/
theorem State.takeCharacters_whole (kind src dst he len : Byte) (body check : List Byte) (s : State)
    (listening : Listening s) (header : s.route.framer.state = .header) (nothing : s.route.framer.bytes = [])
    (fits : len.toNat ≤ 24) (whole : body.length = len.toNat) (two : check.length = 2) :
    s.takeCharacters (kind :: src :: dst :: he :: len :: (body ++ check)) =
      ({ s with route := { s.route with framer := Framer.hunting } } : State).takeJudged
        (judge (kind :: src :: dst :: he :: len :: (body ++ check))) := by
  have length : (kind :: src :: dst :: he :: len :: (body ++ check)).length = 7 + len.toNat := by
    simp only [List.length_cons, List.length_append]; omega
  refine State.takeCharacters_judged _ s listening header nothing ((frameEnds_iff _).mpr ⟨by omega, .inr ?_⟩) ?_
  · rw [length]; exact Nat.le_refl _
  · intro n before
    exact frameEnds_take_false n fits (by rwa [length] at before)

/-- A whole frame with a wrong check (R108). -/
theorem judge_crcError (kind src dst he len : Byte) (body check : List Byte) (short : len.toNat ≤ 24)
    (whole : body.length = len.toNat) (two : check.length = 2)
    (wrong : check ≠ u16 (crc16 ([kind, src, dst, he, len] ++ body)).toNat) :
    judge (kind :: src :: dst :: he :: len :: (body ++ check)) = .crcError := by
  rw [judge, if_neg (by omega), if_neg (by rw [List.length_append]; omega), ← whole]
  dsimp only
  rw [List.take_left, List.drop_left, List.take_of_length_le (by omega), if_neg wrong]

theorem judge_oversize (kind src dst he len : Byte) (rest : List Byte) (long : 24 < len.toNat) :
    judge (kind :: src :: dst :: he :: len :: rest) = .oversize := by rw [judge, if_pos long]

/-- A header outside its ranges spells no frame (R109). -/
theorem Header.ofBytes_malformed {src dst he : Byte}
    (bad : src = 0 ∨ 15 < src.toNat ∨ 15 < dst.toNat ∨ he.toNat % 8 = 0) :
    (Header.ofBytes src dst he).wellFormed = false := by
  rw [Bool.eq_false_iff]
  intro good
  simp only [Header.wellFormed, stationOk, hopOk, Bool.and_eq_true, decide_eq_true_eq] at good
  obtain ⟨⟨⟨least, most⟩, dest⟩, hop, -⟩ := good
  simp only [Header.ofBytes] at least most dest hop
  rcases bad with rfl | bad | bad | bad
  · exact absurd least (by decide)
  all_goals omega

theorem judgeBody_malformed {kind src dst he : Byte} {body : List Byte}
    (bad : FrameKind.ofCode kind = none ∨ src = 0 ∨ 15 < src.toNat ∨ 15 < dst.toNat ∨ he.toNat % 8 = 0 ∨
      ∃ k, FrameKind.ofCode kind = some k ∧ (k.bodyLength ≠ body.length ∨ FrameBody.ofBytes k body = none)) :
    judgeBody kind src dst he body = .malformed := by
  rcases known : FrameKind.ofCode kind with _ | k
  · simp only [judgeBody, known]
  · by_cases length : body.length = k.bodyLength
    · rcases read : FrameBody.ofBytes k body with _ | b
      · simp only [judgeBody, known, length, read, if_true]
      · have header : (Header.ofBytes src dst he).wellFormed = false := by
          refine Header.ofBytes_malformed ?_
          rcases bad with bad | bad | bad | bad | bad | ⟨k', same, bad⟩
          · simp [known] at bad
          · exact .inl bad
          · exact .inr (.inl bad)
          · exact .inr (.inr (.inl bad))
          · exact .inr (.inr (.inr bad))
          · obtain rfl := Option.some.inj (known.symm.trans same)
            exact bad.elim (fun other => absurd length.symm other) (fun none => by simp [read] at none)
        simp only [judgeBody, known, length, read, if_true, Frame.wellFormed, header, Bool.false_and]
        rfl
    · simp only [judgeBody, known, length, if_false]

/-- Two more bytes than the header announces are a whole check (R108). -/
theorem State.takeCharacters_short (kind src dst he len : Byte) (rest : List Byte) (s : State)
    (listening : Listening s) (header : s.route.framer.state = .header) (nothing : s.route.framer.bytes = [])
    (fits : len.toNat ≤ 24) (short : rest.length < len.toNat + 2) :
    s.takeCharacters (kind :: src :: dst :: he :: len :: rest) =
      { s with route := { s.route with
        framer := .holding (if rest.length < len.toNat then .body else .check)
          (kind :: src :: dst :: he :: len :: rest) } } := by
  have length : (kind :: src :: dst :: he :: len :: rest).length = 5 + rest.length := by
    simp only [List.length_cons]; omega
  have lengthByte : (kind :: src :: dst :: he :: len :: rest).getD 4 0 = len := rfl
  rw [State.takeCharacters_part (kind :: src :: dst :: he :: len :: rest) s listening header nothing (by simp)
    fun n within => frameEnds_take_false n (by rwa [lengthByte]) (by rw [lengthByte]; omega)]
  have place : framerStateOf (kind :: src :: dst :: he :: len :: rest) =
      if rest.length < len.toNat then .body else .check := by
    rw [framerStateOf, if_neg (by omega), length]
    exact ite_congr (propext (by rw [lengthByte]; omega)) (fun _ => rfl) fun _ => rfl
  rw [place]

/-- A header that announces more than 24 bytes is judged at its fifth byte (R108). -/
theorem State.takeCharacters_oversize (kind src dst he len : Byte) (s : State) (listening : Listening s)
    (header : s.route.framer.state = .header) (nothing : s.route.framer.bytes = []) (long : 24 < len.toNat) :
    s.takeCharacters [kind, src, dst, he, len] =
      ({ s with route := { s.route with framer := Framer.hunting } } : State).takeJudged .oversize := by
  have ends : frameEnds [kind, src, dst, he, len] = true := (frameEnds_iff _).mpr ⟨Nat.le_refl 5, .inl long⟩
  rw [State.takeCharacters_judged [kind, src, dst, he, len] s listening header nothing ends
    fun n before => frameEnds_short (by rw [List.length_take]; exact Nat.lt_of_le_of_lt (Nat.min_le_left ..) before),
    judge_oversize _ _ _ _ _ _ long]

/-- A good frame's characters, from its preamble on, are that frame (R108). -/
theorem State.takeCharacters_wire (f : Frame) (s : State) (listening : Listening s)
    (hunt : s.route.framer.state = .hunt) (nothing : s.route.framer.bytes = []) (good : f.wellFormed = true) :
    s.takeCharacters f.wire = s.takeFrame f := by
  have lengthRead : (byteOf f.body.kind.bodyLength).toNat = f.body.kind.bodyLength := by
    rw [byteOf_toNat, Nat.mod_eq_of_lt (by have := FrameKind.bodyLength_le f.body.kind; omega)]
  have wire : f.wire = [0x55, 0x55, 0x55] ++ ([0x9E, 0x35] ++ f.afterDelimiter) := rfl
  rw [wire, State.takeCharacters_append, State.takeCharacters_append,
    State.takeCharacters_noise _ s listening hunt nothing (by decide) (by decide),
    State.takeCharacters_delimiter _ (by exact listening) rfl]
  have bytes : f.afterDelimiter = f.body.kind.code :: byteOf f.header.source :: byteOf f.header.dest ::
      f.header.hopByte :: byteOf f.body.kind.bodyLength :: (f.body.bytes ++ u16 (crc16 f.core).toNat) := rfl
  rw [bytes, State.takeCharacters_whole _ _ _ _ _ f.body.bytes (u16 (crc16 f.core).toNat) _ (by exact listening) rfl rfl
    (by rw [lengthRead]; exact FrameKind.bodyLength_le f.body.kind)
    (by rw [lengthRead]; exact FrameBody.bytes_length f.body) rfl, ← bytes, Frame.judge_afterDelimiter f good]
  exact State.takeFrame_framer f Framer.hunting s listening

/-! ### Cuts -/

theorem exec_routeGapTimeout_cut {s : State} {cut : CutCause} (b : Option Byte)
    (h : cut = .lowStop ∨ s.route.framer.gap = none ∨ s.route.framer.gap = some 0) :
    exec (.routeGapTimeout ⟨cut, b⟩) s = .next (s.takeGap.takeCharacters b.toList) := by
  refine congrArg Host.Outcome.next (if_pos ?_)
  cases cut with
  | lowStop => rfl
  | gap =>
    rcases h with h | h | h
    · nomatch h
    · simp [Framer.cutBy, h]
    · simp [Framer.cutBy, Timer.due, h]

/-- After a cut the framer hunts with nothing held, or with a delimiter's first byte (R108). -/
theorem State.takeCharacters_afresh (b : Option Byte) (s : State) (listening : Listening s)
    (hunting : s.route.framer = Framer.hunting) :
    (b ≠ some 0x9E → s.takeCharacters b.toList = s) ∧
      s.takeCharacters [0x9E] =
        { s with route := { s.route with framer := .holding .hunt [0x9E] } } := by
  have state : s.route.framer.state = .hunt := by rw [hunting]; rfl
  refine ⟨fun other => ?_, ?_⟩
  · rcases b with _ | b
    · rfl
    · have silent : (0x9E : Byte) ∉ [b] := by simpa using fun same => other (congrArg some same.symm)
      exact (State.takeCharacters_noise [b] s listening state (by rw [hunting]; rfl) silent (by simp)).trans
        (by rw [← hunting])
  · rw [State.takeCharacters_cons, State.takeCharacters_nil, State.takeCharacter_hunt _ s listening state,
      Framer.huntByte_first]

/-! ### What is counted (R109) -/

theorem State.takeJudged_oversize (s : State) :
    s.takeJudged .oversize =
      { s with route := { s.route with
        counters := { s.route.counters with malformed := min 65535 (s.route.counters.malformed + 1) } } } := by
  simp only [← satInc_eq]
  rfl

theorem State.takeJudged_malformed (s : State) : s.takeJudged .malformed = s.takeJudged .oversize := rfl

theorem State.takeJudged_crcError (s : State) :
    s.takeJudged .crcError =
      { s with route := { s.route with
        counters := { s.route.counters with crcErrors := min 65535 (s.route.counters.crcErrors + 1) } } } := by
  simp only [← satInc_eq]
  rfl

/-! ### A gap at the sample event -/

/-- With no event due but gaps that have passed, a sample event cuts the frame in progress (R108; log 3). -/
theorem State.sampleEvent_routeGap {s : State} (listening : Listening s) (due : s.route.framer.gap = some 0)
    (aside : GapsAside s) (codes : ByInput Nat) :
    (s.settle.sampleWork codes).route.framer = Framer.hunting ∧
      (s.settle.sampleWork codes).route.counters = s.takeGap.route.counters := by
  have settled : s.settle.route = s.takeGap.route := by
    rw [State.settle, show s.settleEvents = s from aside, State.settleGaps, State.settleRouteGap,
      if_pos ((Timer.due_iff _).mpr due)]
  have cut : s.takeGap.route.framer = Framer.hunting := by rw [State.takeGap_eq s listening]
  rw [(s.settle.sampleWork_times codes).2.2.1]
  have ticked : ∀ r : Route, r.tickTimes.framer = r.framer ∧ r.tickTimes.counters = r.counters := fun r => by
    unfold Route.tickTimes; repeat' split
    all_goals exact ⟨rfl, rfl⟩
  have counted : ∀ x : State, x.tickTimers.route.counters = x.route.counters ∧
      x.tickTimers.route.framer = { x.route.framer with gap := Timer.tick x.route.framer.gap } := fun _ => ⟨rfl, rfl⟩
  rw [(ticked _).1, (ticked _).2, (counted _).1, (counted _).2, settled, cut]
  exact ⟨rfl, rfl⟩

end Sys2Proof.Machine

namespace Sys2Proof.Proofs

open Sys2Proof Sys2Proof.Machine

/-- Settles O33: the three outcomes of reception short of a good frame. -/
theorem clashMalformedOrUnheard : Obligations.ClashMalformedOrUnheard := by
  intro f s hunt c
  refine ⟨fun sending => ?_, fun listening bad => ?_, fun st configured listening good own => ?_⟩
  · rw [exec_receiveRow_receive, State.receive_sending _ _ _ sending]
  · rw [exec_receiveRow_receive, State.receive_malformed _ _ _ listening bad, State.countMalformed,
      RouteCounters.countJudged, satInc_eq]
    rfl
  · refine ⟨s.receive f (deliveryOf f), exec_receiveRow_receive f s, ?_⟩
    rw [State.receive_clash f _ st s configured listening good own, State.noteClash_eq, satInc_eq]
    exact ⟨rfl, fun fresh => if_neg (by exact Bool.eq_false_iff.mp fresh), fun told => if_pos told⟩

/-- Settles O34: the framer from HUNT to the frame's end, what is judged of it, and the cuts. -/
theorem discardedBytesAreCounted : Obligations.DiscardedBytesAreCounted := by
  intro s c framed malformed truncated listens cuts
  have afterCut : ∀ cut k, Listening s → cuts cut →
      s.takeGap = { s with route := { s.route with framer := Framer.hunting, counters := k } } →
      (∀ b, b ≠ some 0x9E → exec (.routeGapTimeout ⟨cut, b⟩) s = .next (framed .hunt [] k)) ∧
        exec (.routeGapTimeout ⟨cut, some 0x9E⟩) s = .next (framed .hunt [0x9E] k) := by
    intro cut k listening allowed taken
    have afresh := fun b => s.takeGap.takeCharacters_afresh b (by rw [taken]; exact listening) (by rw [taken])
    refine ⟨fun b other => ?_, ?_⟩
    · rw [exec_routeGapTimeout_cut b allowed, (afresh b).1 other, taken]
      rfl
    · rw [exec_routeGapTimeout_cut _ allowed]
      exact congrArg Host.Outcome.next ((afresh none).2.trans (by rw [taken]; rfl))
  refine ⟨fun sending bytes cut b => ⟨?_, ?_⟩, fun n b early => ?_, fun codes listening due aside => ?_,
    fun listening hunt => ⟨?_, fun noise silent some_ nothing => ?_, fun cut allowed => ?_⟩,
    fun listening inFrame cut allowed => ?_, fun listening header nothing => ⟨fun bytes some_ short => ?_,
      fun kind src dst he len => ⟨fun long => ?_, fun rest fits short => ?_, fun body check fits whole two wrong => ?_,
        fun body fits whole bad => ?_⟩⟩,
    fun f listening hunt nothing good => ?_⟩
  · exact congrArg Host.Outcome.next (State.takeCharacters_sending bytes s sending)
  · have taken : s.takeGap = s := if_pos sending
    refine congrArg Host.Outcome.next ?_
    split
    · rw [taken, State.takeCharacters_sending _ s sending]
    · rfl
  · exact execRouteGapTimeout_early b n s early
  · obtain ⟨framer, counters⟩ := State.sampleEvent_routeGap listening due aside codes
    refine ⟨_, rfl, framer, counters.trans ?_⟩
    rw [State.takeGap_eq s listening, satInc_eq]
    dsimp only
    split <;> rfl
  · exact congrArg Host.Outcome.next (State.takeCharacters_delimiter s listening hunt)
  · exact congrArg Host.Outcome.next (State.takeCharacters_noise noise s listening hunt nothing silent some_)
  · exact afterCut cut c listening allowed (by rw [State.takeGap_eq s listening, if_pos hunt])
  · exact afterCut cut truncated listening allowed
      (by rw [State.takeGap_eq s listening, if_neg inFrame, satInc_eq])
  · refine congrArg Host.Outcome.next ((State.takeCharacters_part bytes s listening header nothing some_
      fun n _ => frameEnds_short (by rw [List.length_take]; omega)).trans ?_)
    rw [framerStateOf, if_pos short]
    rfl
  · refine congrArg Host.Outcome.next
      ((State.takeCharacters_oversize kind src dst he len s listening header nothing long).trans ?_)
    rw [State.takeJudged_oversize]
    rfl
  · refine congrArg Host.Outcome.next
      ((State.takeCharacters_short kind src dst he len rest s listening header nothing fits short).trans ?_)
    split <;> rfl
  · refine congrArg Host.Outcome.next
      ((State.takeCharacters_whole kind src dst he len body check s listening header nothing fits whole two).trans ?_)
    rw [judge_crcError kind src dst he len body check fits whole two wrong, State.takeJudged_crcError]
    rfl
  · refine congrArg Host.Outcome.next
      ((State.takeCharacters_whole kind src dst he len body _ s listening header nothing fits whole rfl).trans ?_)
    rw [judge_whole kind src dst he len body fits whole, judgeBody_malformed bad, State.takeJudged_malformed,
      State.takeJudged_oversize]
    rfl
  · rw [exec_receiveRow]
    exact congrArg Host.Outcome.next (State.takeCharacters_wire f s listening hunt nothing good)

end Sys2Proof.Proofs
end

section
/-! PROOFS. The delivery of a frame leaves what the head has heard as it stands: the roster, the partner liveness, the
ends conflict and the counts of good frames and of replaced entries (R109 to R114). -/

namespace Sys2Proof.Machine

/-- What the route channel knows by its ear alone (R109 to R114). -/
def hearing (r : Route) : List RosterEntry × Liveness × Bool × Nat × Nat :=
  (r.roster, r.partner, r.conflict, r.counters.good, r.counters.replacements)

/-! ### Queueing -/

theorem Route.joinQueue_hearing (q : QFrame) (r : Route) : hearing (r.joinQueue q) = hearing r := by
  unfold Route.joinQueue Route.joinFull
  dsimp only
  repeat' split
  all_goals rfl

theorem Route.enqueue_hearing (draws : Nat) (q : QFrame) (r : Route) :
    hearing (r.enqueue draws q).2 = hearing r := by
  rw [← Route.joinQueue_hearing q r]
  simp [Route.enqueue, hearing]

@[simp] theorem State.queueBody_hearing (resend : Bool) (body : FrameBody) (s : State) :
    hearing (s.queueBody resend body).route = hearing s.route := by
  rcases Option.eq_none_or_eq_some s.station with h | ⟨st, h⟩
  · rw [State.queueBody_unconfigured resend body s h]
  · rw [State.queueBody_configured resend body st s h]
    exact Route.enqueue_hearing ..

@[simp] theorem State.send_hearing (body : FrameBody) (s : State) : hearing (s.send body).route = hearing s.route :=
  s.queueBody_hearing false body

@[simp] theorem State.sendStatus_hearing (s : State) : hearing s.sendStatus.route = hearing s.route := by
  unfold State.sendStatus
  split
  · exact s.send_hearing _
  · rfl

@[simp] theorem State.updateLevelCondition_hearing (s : State) :
    hearing s.updateLevelCondition.route = hearing s.route := by
  unfold State.updateLevelCondition
  split
  · split
    · exact s.send_hearing _
    · rfl
  · rfl

@[simp] theorem Route.withdrawPropose_hearing (r : Route) : hearing r.withdrawPropose = hearing r := rfl

/-! ### The blocks -/

@[simp] theorem State.beginDirection_hearing (d : Direction) (s : State) :
    hearing (s.beginDirection d).route = hearing s.route := by
  unfold State.beginDirection
  split
  · simp
  · rfl

@[simp] theorem State.transmitDone_hearing (body : MtestBody) (s : State) :
    hearing (s.transmitDone body).route = hearing s.route := by
  unfold State.transmitDone
  dsimp only
  split <;> simp

@[simp] theorem State.closeRunningSoak_hearing (halted : Bool) (s : State) :
    hearing (s.closeRunningSoak halted).route = hearing s.route := by
  unfold State.closeRunningSoak
  split
  · simp [State.closeSoak, State.sendDigest]
  · rfl

@[simp] theorem State.enterMargin_hearing (s : State) : hearing s.enterMargin.route = hearing s.route := by
  simp [State.enterMargin]

@[simp] theorem State.enterHandover_hearing (s : State) : hearing s.enterHandover.route = hearing s.route := by
  simp [State.enterHandover, State.sendDigest]

@[simp] theorem State.enterHalted_hearing (s : State) : hearing s.enterHalted.route = hearing s.route := by
  simp [State.enterHalted]

@[simp] theorem State.enterBlocks_hearing (target : Phase) (id : Option ProposalId) (role : Antenna) (s : State) :
    hearing (s.enterBlocks target id role).route = hearing s.route := by
  cases target <;> simp [State.enterBlocks]

@[simp] theorem State.leaveBlocks_hearing (left : Phase) (s : State) :
    hearing (s.leaveBlocks left).route = hearing s.route := by
  unfold State.leaveBlocks
  split <;> simp

/-! ### The coordinator -/

@[simp] theorem State.enterPhase_hearing (target : Phase) (cause : EntryCause) (id : Option ProposalId) (role : Antenna)
    (settled : Bool) (s : State) : hearing (s.enterPhase target cause id role settled).route = hearing s.route := by
  simp [State.enterPhase]

@[simp] theorem State.halt_hearing (c : HaltCause) (s : State) : hearing (s.halt c).route = hearing s.route := by
  simp [State.halt]

@[simp] theorem State.closeProposal_hearing (p : Proposal) (o : ProposalOutcome) (r : Option DeclineReason) (s : State) :
    hearing (s.closeProposal p o r).route = hearing s.route := by
  unfold State.closeProposal State.startAutoTimer
  split <;> simp [State.endProposal]

@[simp] theorem State.answer_hearing (a : AnsweredRecord) (s : State) : hearing (s.answer a).route = hearing s.route := by
  simp [State.answer, State.sendAnswer]

@[simp] theorem State.acceptProposal_hearing (proposer : Nat) (b : ProposeBody) (settled : Bool) (s : State) :
    hearing (s.acceptProposal proposer b settled).route = hearing s.route := by
  simp [State.acceptProposal]

@[simp] theorem State.evaluateAndAnswer_hearing (proposer : Nat) (b : ProposeBody) (s : State) :
    hearing (s.evaluateAndAnswer proposer b).route = hearing s.route := by
  unfold State.evaluateAndAnswer
  split <;> simp

@[simp] theorem State.cross_hearing (proposer : Nat) (b : ProposeBody) (p : Proposal) (s : State) :
    hearing (s.cross proposer b p).route = hearing s.route := by
  unfold State.cross State.joinAlike
  repeat' split
  all_goals simp

theorem State.takePropose_hearing (proposer : Nat) (b : ProposeBody) (s : State) :
    hearing (s.takePropose proposer b).route = hearing s.route := by
  unfold State.takePropose
  split
  · rfl
  · split
    · simp [State.sendAnswer]
    · split <;> simp

@[simp] theorem State.enterMatched_hearing (number : Nat) (target : Phase) (cause : EntryCause) (s : State) :
    hearing (s.enterMatched number target cause).route = hearing s.route := by
  unfold State.enterMatched
  split
  · rfl
  · simp [State.enterOwn]

@[simp] theorem State.partnerHalt_hearing (s : State) : hearing s.partnerHalt.route = hearing s.route := by
  unfold State.partnerHalt
  split <;> simp

theorem State.takeAnswer_hearing (b : AnswerBody) (s : State) :
    hearing (s.takeAnswer b).route = hearing s.route := by
  unfold State.takeAnswer State.takeDecline
  repeat' split
  all_goals simp

@[simp] theorem State.haltsOf_hearing (b : StatusBody) (s : State) : hearing (s.haltsOf b).route = hearing s.route := by
  unfold State.haltsOf State.partnerRestarted
  repeat' split
  all_goals simp

theorem State.takeStatus_hearing (b : StatusBody) (s : State) : hearing (s.takeStatus b).route = hearing s.route := by
  have caught : hearing (s.catchUp b).route = hearing s.route := by
    unfold State.catchUp
    split <;> simp
  have counted : ∀ x : State, hearing (x.countMismatch b).route = hearing x.route := by simp
  unfold State.takeStatus
  dsimp only
  split
  · rw [counted, State.haltsOf_hearing, caught]
  · rw [State.haltsOf_hearing, caught]

/-! ### The margin procedure -/

@[simp] theorem State.afterJudge_hearing (d : Direction) (s : State) :
    hearing (s.afterJudge d).route = hearing s.route := by
  unfold State.afterJudge
  split <;> simp

theorem State.marginStatus_hearing (p : MarginProgress) (s : State) :
    hearing (s.marginStatus p).route = hearing s.route := by
  have toJudge : ∀ (d : Direction) (x : State), hearing (x.statusToJudge d p).route = hearing x.route := fun d x => by
    unfold State.statusToJudge
    dsimp only
    repeat' split
    all_goals simp
  unfold State.marginStatus
  dsimp only
  split
  · simp
  · rw [toJudge]
    simp

@[simp] theorem State.rerun_hearing (s : State) : hearing s.rerun.route = hearing s.route := by
  unfold State.rerun
  repeat' split
  all_goals simp

theorem State.autoOnset_hearing (s t : State) : hearing (s.autoOnset t).route = hearing t.route := by
  unfold State.autoOnset State.autoTry
  repeat' split
  all_goals simp [State.propose]

/-! ### The delivery -/

/-- No delivery changes what the head has heard (R111). -/
theorem deliveryOf_hearing (f : Frame) (s : State) : hearing (deliveryOf f s).route = hearing s.route := by
  obtain ⟨header, body⟩ := f
  cases body with
  | status b =>
    exact (State.takeStatus_hearing b _).trans (State.marginStatus_hearing b.progress s)
  | level b => rfl
  | propose b => exact State.takePropose_hearing header.source b s
  | answer b => exact State.takeAnswer_hearing b s
  | verdict b => simp [deliveryOf]
  | digest b => simp [deliveryOf]
  | mtest e b =>
    cases e with
    | step => simp [deliveryOf]
    | limit =>
      refine (State.autoOnset_hearing s _).trans ?_
      unfold State.takeLimit
      split <;> simp
    | done =>
      refine (State.autoOnset_hearing s _).trans ?_
      unfold State.takeDone
      repeat' split
      all_goals simp

theorem State.deliverPartner_hearing (f : Frame) (s : State) :
    hearing (s.deliverPartner f.header (deliveryOf f)).route = hearing s.route := by
  unfold State.deliverPartner
  dsimp only
  repeat' split
  all_goals simp [deliveryOf_hearing]

end Sys2Proof.Machine
end

section
/-! PROOFS. What a good frame does to the roster, one station's entry at a time (R110, R113). -/

namespace Sys2Proof.Machine

/-! ### Looking up a station -/

theorem find_map_station {g : RosterEntry → RosterEntry} (kept : ∀ e, (g e).station = e.station) (n : Nat)
    (es : List RosterEntry) :
    ((es.map g).find? fun e => e.station == n) = (es.find? fun e => e.station == n).map g := by
  rw [List.find?_map]
  congr 2
  funext e
  exact congrArg (· == n) (kept e)

theorem find_insertEntry_same (e : RosterEntry) (es : List RosterEntry) (fresh : ∀ x ∈ es, x.station ≠ e.station) :
    ((insertEntry e es).find? fun x => x.station == e.station) = some e := by
  induction es with
  | nil => simp [insertEntry]
  | cons x xs ih =>
    have other : x.station ≠ e.station := fresh x (List.mem_cons_self ..)
    unfold insertEntry
    split
    · simp
    · rw [List.find?_cons_of_neg (by simpa using other)]
      exact ih fun y inTail => fresh y (List.mem_cons_of_mem _ inTail)

theorem find_insertEntry_other (e : RosterEntry) (es : List RosterEntry) {n : Nat} (other : e.station ≠ n) :
    ((insertEntry e es).find? fun x => x.station == n) = es.find? fun x => x.station == n := by
  induction es with
  | nil => simp [insertEntry, other]
  | cons x xs ih =>
    unfold insertEntry
    split
    · rw [List.find?_cons_of_neg (by simpa using other)]
    · rw [List.find?_cons, List.find?_cons, ih]

theorem find_filter_other (es : List RosterEntry) {n m : Nat} (other : n ≠ m) :
    ((es.filter fun e => e.station != m).find? fun x => x.station == n) = es.find? fun x => x.station == n := by
  rw [List.find?_filter]
  refine congrArg (fun p => es.find? p) (funext fun x => ?_)
  by_cases at_ : x.station = n
  · simp [at_, other]
  · simp [at_]

theorem find_filter_gone (es : List RosterEntry) (m : Nat) :
    ((es.filter fun e => e.station != m).find? fun x => x.station == m) = none := by
  rw [List.find?_eq_none]
  intro x stays
  simpa using (List.mem_filter.mp stays).2

/-- The entry that gives way is the oldest, of the highest station number among those (R113). -/
theorem oldestEntry_oldest {es : List RosterEntry} (ascending : Ascending es) {x : RosterEntry}
    (oldest : oldestEntry es = some x) :
    ∀ y ∈ es, y.age < x.age ∨ (y.age = x.age ∧ y.station ≤ x.station) := by
  induction es generalizing x with
  | nil => simp
  | cons y ys ih =>
    rw [Ascending, List.pairwise_cons] at ascending
    obtain ⟨below, tail⟩ := ascending
    rcases rest : oldestEntry ys with _ | z
    · have single : ys = [] := by
        refine Classical.byContradiction fun some_ => ?_
        obtain ⟨z, has⟩ := oldestEntry_isSome some_
        simp [rest] at has
      subst single
      obtain rfl : y = x := by simpa [oldestEntry] using oldest
      simp
    · have places := ih tail rest
      have above := below z (oldestEntry_mem rest)
      simp only [oldestEntry, rest] at oldest
      intro w inList
      split at oldest
      · next older =>
        obtain rfl := Option.some.inj oldest
        rcases List.mem_cons.mp inList with rfl | inTail
        · exact .inr ⟨rfl, Nat.le_refl _⟩
        · rcases places w inTail with h | ⟨h, -⟩
          · exact .inl (by omega)
          · exact .inl (by omega)
      · next younger =>
        obtain rfl := Option.some.inj oldest
        rcases List.mem_cons.mp inList with rfl | inTail
        · omega
        · exact places w inTail

/-! ### The roster after a good frame -/

/-- The entry of a good frame's source (R110). -/
def entryAfter (now : SampleTime) (f : Frame) (r : Route) : RosterEntry :=
  ((r.entryOf f.header.source).getD (RosterEntry.fresh f.header)).take now f

section

variable {now : SampleTime} {f : Frame} {r : Route}

theorem Route.updateRoster_known {was : RosterEntry} (known : r.entryOf f.header.source = some was) :
    r.updateRoster now f =
      { r with roster := r.roster.map fun e => if e.station = f.header.source then e.take now f else e } := by
  rw [Route.updateRoster, if_pos (by rw [known]; rfl)]

theorem Route.updateRoster_new (new : r.entryOf f.header.source = none) :
    r.updateRoster now f = { r.makeRoom with
      roster := insertEntry ((RosterEntry.fresh f.header).take now f) r.makeRoom.roster } := by
  rw [Route.updateRoster, if_neg (by rw [new]; decide)]

theorem Route.makeRoom_room (room : r.roster.length < 14) : r.makeRoom = r := if_pos room

/-- A full roster gives up its oldest entry (R113). -/
theorem Route.makeRoom_full (full : r.roster.length = 14) :
    ∃ gone, oldestEntry r.roster = some gone ∧
      r.makeRoom = { r with
        roster := r.roster.filter fun e => e.station != gone.station
        counters := { r.counters with replacements := satInc max16 r.counters.replacements } } := by
  obtain ⟨gone, oldest⟩ := oldestEntry_isSome (es := r.roster) (by rintro h; simp [h] at full)
  refine ⟨gone, oldest, ?_⟩
  rw [Route.makeRoom, if_neg (by rw [full]; decide)]
  simp only [oldest]

theorem find_some_station {es : List RosterEntry} {n : Nat} {x : RosterEntry}
    (found : (es.find? fun e => e.station == n) = some x) : x.station = n :=
  beq_iff_eq.mp (List.find?_some (p := fun e : RosterEntry => e.station == n) found)

/-- Other stations' entries stay; the source's holds what the frame sets (R110). -/
theorem Route.updateRoster_known_entries {was : RosterEntry} (known : r.entryOf f.header.source = some was) :
    (r.updateRoster now f).entryOf f.header.source = some (was.take now f) ∧
      ∀ n, n ≠ f.header.source → (r.updateRoster now f).entryOf n = r.entryOf n := by
  have taken : ∀ n, (r.updateRoster now f).entryOf n =
      (r.entryOf n).map fun e => if e.station = f.header.source then e.take now f else e := fun n => by
    rw [Route.updateRoster_known known]
    exact find_map_station (fun e => by split <;> simp) n r.roster
  refine ⟨?_, fun n other => ?_⟩
  · rw [taken, known, Option.map_some, if_pos (find_some_station known)]
  · rw [taken]
    rcases found : r.entryOf n with _ | x
    · rfl
    · rw [Option.map_some, if_neg (by rw [find_some_station found]; exact other)]

theorem fresh_take_station : ((RosterEntry.fresh f.header).take now f).station = f.header.source :=
  RosterEntry.take_station ..

/-- A new source gets an entry among those for which there is room (R113). -/
theorem Route.updateRoster_new_entries (new : r.entryOf f.header.source = none)
    (rest : ∀ x ∈ r.makeRoom.roster, x ∈ r.roster) :
    (r.updateRoster now f).entryOf f.header.source = some ((RosterEntry.fresh f.header).take now f) ∧
      ∀ n, n ≠ f.header.source → (r.updateRoster now f).entryOf n = r.makeRoom.entryOf n := by
  have absent := entryOf_none (r := r) (n := f.header.source) (by rw [new]; rfl)
  rw [Route.updateRoster_new new]
  refine ⟨?_, fun n other => find_insertEntry_other _ _ (by rw [fresh_take_station]; exact other.symm)⟩
  have found := find_insertEntry_same ((RosterEntry.fresh f.header).take now f) r.makeRoom.roster
    fun x inRoom => by rw [fresh_take_station]; exact absent x (rest x inRoom)
  rw [fresh_take_station] at found
  exact found

/-- Only the roster and the count of replaced entries change (R110, R113). -/
theorem Route.updateRoster_eq (short : r.roster.length ≤ 14) :
    r.updateRoster now f = { r with
      roster := (r.updateRoster now f).roster
      counters := { r.counters with
        replacements :=
          if (r.entryOf f.header.source).isNone = true ∧ r.roster.length = 14 then
            min 65535 (r.counters.replacements + 1)
          else r.counters.replacements } } := by
  rcases found : r.entryOf f.header.source with _ | was
  · rw [Route.updateRoster_new found]
    by_cases full : r.roster.length = 14
    · obtain ⟨gone, -, made⟩ := Route.makeRoom_full full
      rw [if_pos ⟨rfl, full⟩, made, satInc_eq]
    · rw [if_neg (by simp [full]), Route.makeRoom_room (by omega)]
  · rw [Route.updateRoster_known found, if_neg (by simp)]

/-- Room is made by dropping entries (R113). -/
theorem Route.makeRoom_subset (r : Route) : ∀ x ∈ r.makeRoom.roster, x ∈ r.roster := by
  unfold Route.makeRoom
  split
  · exact fun _ h => h
  · split
    · exact fun _ h => h
    · exact fun _ h => (List.mem_filter.mp h).1

theorem Route.updateRoster_source :
    (r.updateRoster now f).entryOf f.header.source = some (entryAfter now f r) := by
  rcases found : r.entryOf f.header.source with _ | was
  · rw [(Route.updateRoster_new_entries found r.makeRoom_subset).1, entryAfter, found]
    rfl
  · rw [(Route.updateRoster_known_entries found).1, entryAfter, found]
    rfl

/-- Another station's entry changes only when it gives way to a new one in a full roster (R113). -/
theorem Route.updateRoster_others (room : (r.entryOf f.header.source).isSome = true ∨ r.roster.length < 14) {n : Nat}
    (other : n ≠ f.header.source) : (r.updateRoster now f).entryOf n = r.entryOf n := by
  rcases found : r.entryOf f.header.source with _ | was
  · have roomy := Route.makeRoom_room (room.resolve_left (by simp [found]))
    rw [(Route.updateRoster_new_entries found (by rw [roomy]; exact fun _ h => h)).2 n other, roomy]
  · exact (Route.updateRoster_known_entries found).2 n other

/-- The entry that gives way in a full roster (R113). -/
theorem Route.updateRoster_replaces (new : r.entryOf f.header.source = none) (full : r.roster.length = 14)
    (ascending : Ascending r.roster) :
    ∃ gone ∈ r.roster,
      (∀ x ∈ r.roster, x.age < gone.age ∨ (x.age = gone.age ∧ x.station ≤ gone.station)) ∧
        (r.updateRoster now f).entryOf gone.station = none ∧
        ∀ n, n ≠ f.header.source → n ≠ gone.station → (r.updateRoster now f).entryOf n = r.entryOf n := by
  obtain ⟨gone, oldest, made⟩ := Route.makeRoom_full full
  have held := oldestEntry_mem oldest
  have others := (Route.updateRoster_new_entries (now := now) new (r.makeRoom_sound (by omega) ascending).2.2).2
  have notSource : gone.station ≠ f.header.source := entryOf_none (r := r) (by rw [new]; rfl) gone held
  refine ⟨gone, held, oldestEntry_oldest ascending oldest, ?_, fun n other stays => ?_⟩
  · rw [others _ notSource, made]
    exact find_filter_gone _ _
  · rw [others n other, made]
    exact find_filter_other _ stays

end

/-! ### The entry's fields (R110) -/

section

variable {now : SampleTime} {f : Frame} {e : RosterEntry}

theorem RosterEntry.take_heard (now : SampleTime) (f : Frame) (e : RosterEntry) :
    (e.take now f).hop = f.header.hop ∧ (e.take now f).hopEnd = f.header.hopEnd ∧ (e.take now f).age = 0 ∧
      (e.take now f).liveness = .live := by
  unfold RosterEntry.take RosterEntry.takeBody
  split <;> exact ⟨rfl, rfl, rfl, rfl⟩

theorem RosterEntry.take_status {b : StatusBody} (body : f.body = .status b) :
    e.take now f = (e.hear f.header).takeStatus now b := by rw [RosterEntry.take, body]; rfl

theorem RosterEntry.take_level {b : LevelBody} (body : f.body = .level b) :
    e.take now f = (e.hear f.header).takeLevel now b := by rw [RosterEntry.take, body]; rfl

/-- The other kinds set what every good frame sets (R110). -/
theorem RosterEntry.take_bare (bare : f.body.kind ≠ .status ∧ f.body.kind ≠ .level) :
    e.take now f = e.hear f.header := by
  unfold RosterEntry.take RosterEntry.takeBody
  split
  · next b body => exact absurd (by rw [body]; rfl) bare.1
  · next b body => exact absurd (by rw [body]; rfl) bare.2
  · rfl

end

end Sys2Proof.Machine
end

section
/-! PROOFS. A good frame that is no clash: its count, its entry, and what a frame from the partner brings about before
its delivery (R109 to R114, R122, R187). -/

namespace Sys2Proof.Machine

/-! ### The partner's entry taken up (R112, R114, R122) -/

/-- The partner's entry e, LIVE, is taken up, short of the LEVEL condition (R112, R114). -/
def heardLive (st : Station) (e : RosterEntry) (x : State) : State :=
  let told := if x.route.partner = .live then x.site else x.site.signal (.partner .live e.age)
  { x with
    route := { x.route with partner := .live, conflict := conflicts st e }
    site :=
      if conflicts st e = true ∧ x.route.conflict = false then told.signal (.endsConflict e.hop e.hopEnd) else told }

section

variable {st : Station} {e : RosterEntry} {x : State}

theorem State.refreshPartner_live (entry : x.partnerEntry = some e) (live : e.liveness = .live) :
    x.refreshPartner = { x with
      route := { x.route with partner := .live }
      site := if x.route.partner = .live then x.site else x.site.signal (.partner .live e.age) } := by
  have shows : x.partnerShows = .live := by simp [State.partnerShows, entry, live]
  have age : x.partnerAge = e.age := by simp [State.partnerAge, entry]
  by_cases same : x.route.partner = .live
  · rw [State.refreshPartner_same (by rw [shows, same]), if_pos same, ← same]
  · rw [State.refreshPartner_changed (by rw [shows]; exact fun h => same h.symm), shows, age, if_neg same]
    rfl

theorem State.partnerEntryChanged_live (configured : x.station = some st) (entry : x.partnerEntry = some e)
    (live : e.liveness = .live) : x.partnerEntryChanged = (heardLive st e x).updateLevelCondition := by
  have sameEntry : x.refreshPartner.partnerEntry = some e :=
    (State.partnerEntry_congr (by simp) (by rw [State.refreshPartner_route])).trans entry
  have now : x.refreshPartner.conflictsNow = conflicts st e := by
    simp only [State.conflictsNow, sameEntry, State.refreshPartner_frame, configured]
  have report : x.refreshPartner.conflictReport = .endsConflict e.hop e.hopEnd := by
    simp only [State.conflictReport, sameEntry]
  rw [State.partnerEntryChanged, State.decideConflict_eq, now, report, State.refreshPartner_live entry live]
  rfl

theorem heardLive_levelCondition (configured : x.station = some st) (entry : x.partnerEntry = some e) :
    (heardLive st e x).levelCondition = true ↔
      (x.hop.phase = .beacon ∨ x.hop.phase = .sweep) ∧ e.wantsLevel = true := by
  have sameEntry : (heardLive st e x).partnerEntry = some e := (State.partnerEntry_congr rfl rfl).trans entry
  rw [State.levelCondition_iff (by exact Option.ne_none_iff_exists'.mpr ⟨st, configured⟩), sameEntry]
  constructor
  · rintro ⟨phase, e', same, wants⟩
    exact ⟨phase, Option.some.inj same ▸ wants⟩
  · rintro ⟨phase, wants⟩
    exact ⟨phase, e, rfl, wants⟩

end

/-! ### Reception (R109 to R111) -/

/-- A good frame counted and taken into the roster, the framer hunting (R109, R110). -/
def frameCounted (f : Frame) (s : State) : State := ({ s with route := s.route.hunt } : State).hearFrame f

section

variable {f : Frame} {s : State} {st : Station}

theorem heardFrom_eq (f : Frame) (s : State) :
    heardFrom f s = ({ frameCounted f s with margin := { s.margin with silence := 0 } } : State).partnerEntryChanged := rfl

/-- Reception of a good frame that is no clash (R109 to R111). -/
theorem State.receive_good (listening : Listening s) (good : f.wellFormed = true)
    (other : ∀ st, s.station = some st → f.header.source ≠ st.number) (deliver : State → State) :
    s.receive f deliver =
      if (frameCounted f s).fromPartner f.header = true then (heardFrom f s).deliverPartner f.header deliver
      else frameCounted f s := by
  have noClash : ¬ ({ s with route := s.route.hunt } : State).clashesWith f.header = true := by
    rcases Option.eq_none_or_eq_some s.station with none | ⟨st, configured⟩
    · simp [State.clashesWith, none]
    · simpa [State.clashesWith, configured] using other st configured
  rw [State.receive, if_neg listening, State.judged, good, Bool.not_true, if_neg (by decide), if_neg noClash]
  rfl

theorem frameCounted_fromPartner (f : Frame) (s : State) :
    (frameCounted f s).fromPartner f.header = true ↔ ∃ st, s.station = some st ∧ f.header.source = st.partner := by
  have station : (frameCounted f s).station = s.station := rfl
  rcases Option.eq_none_or_eq_some s.station with none | ⟨st, configured⟩
  · simp [State.fromPartner, station, none]
  · simp [State.fromPartner, station, configured]

/-- What a good frame changes of the route channel (R109, R110). -/
theorem frameCounted_route (short : s.route.roster.length ≤ 14) :
    (frameCounted f s).route = { s.route with
      framer := { state := .hunt, bytes := [], gap := none }
      roster := (s.route.hunt.updateRoster s.time.now f).roster
      counters := { s.route.counters with
        good := min 65535 (s.route.counters.good + 1)
        replacements :=
          if (s.route.entryOf f.header.source).isNone = true ∧ s.route.roster.length = 14 then
            min 65535 (s.route.counters.replacements + 1)
          else s.route.counters.replacements } } := by
  have updated := Route.updateRoster_eq (now := s.time.now) (f := f) (r := s.route.hunt) short
  show ({ s.route.hunt.updateRoster s.time.now f with
    counters := { (s.route.hunt.updateRoster s.time.now f).counters with
      good := satInc max16 (s.route.hunt.updateRoster s.time.now f).counters.good } } : Route) = _
  rw [updated, satInc_eq]
  rfl

theorem frameCounted_eq (f : Frame) (s : State) : frameCounted f s = { s with route := (frameCounted f s).route } := rfl

/-- Whoever the frame is from, the roster and the counts are those of the frame counted (R109 to R111). -/
theorem State.receive_hearing (listening : Listening s) (good : f.wellFormed = true)
    (other : ∀ st, s.station = some st → f.header.source ≠ st.number) :
    let t := s.receive f (deliveryOf f)
    t.route.roster = (frameCounted f s).route.roster ∧ t.route.counters.good = (frameCounted f s).route.counters.good ∧
      t.route.counters.replacements = (frameCounted f s).route.counters.replacements := by
  rw [State.receive_good listening good other]
  split
  · have delivered := State.deliverPartner_hearing f (heardFrom f s)
    have level := State.updateLevelCondition_hearing
      ({ frameCounted f s with margin := { s.margin with silence := 0 } } : State).refreshPartner.decideConflict
    have shown : hearing (heardFrom f s).route = hearing _ := level
    rw [State.refreshed_route] at shown
    have all := delivered.trans shown
    simp only [hearing, Prod.mk.injEq] at all
    obtain ⟨roster, -, -, goods, replaced⟩ := all
    exact ⟨roster, goods, replaced⟩
  · exact ⟨rfl, rfl, rfl⟩

/-! ### From the partner -/

/-- The partner's entry after its frame (R110). -/
theorem frameCounted_partnerEntry (configured : s.station = some st) (source : f.header.source = st.partner) :
    (frameCounted f s).partnerEntry = some (entryAfter s.time.now f s.route) := by
  rw [State.partnerEntry_of (by exact configured), ← source]
  exact Route.updateRoster_source (r := s.route.hunt)

/-- A frame from the partner before its delivery (R112, R114, R187). -/
theorem heardFrom_live (configured : s.station = some st) (source : f.header.source = st.partner) :
    heardFrom f s = (heardLive st (entryAfter s.time.now f s.route)
      { frameCounted f s with margin := { s.margin with silence := 0 } }).updateLevelCondition := by
  exact (heardFrom_eq f s).trans (State.partnerEntryChanged_live configured
    ((State.partnerEntry_congr rfl rfl).trans (frameCounted_partnerEntry configured source))
    (RosterEntry.take_heard ..).2.2.2)

/-- A LEVEL from the partner is the roster's alone, but for the direction ABORTED that begins again (R111, R187). -/
theorem State.deliverPartner_level (configured : s.station = some st) (h : Header) :
    (heardFrom f s).deliverPartner h id = delivered st s (heardFrom f s) := by
  have waits : (heardFrom f s).rerunWaits = (abortedDirection s).isSome := by
    rw [← abortedDirection_isSome, abortedDirection_heardFrom]
  have taken : (if (heardFrom f s).addressed h then id (heardFrom f s) else heardFrom f s) = heardFrom f s := by
    split <;> rfl
  rw [State.deliverPartner, taken, waits, delivered]
  split
  · split
    · next none => exact State.rerun_none none
    · next d again => exact State.rerun_waits (by simp [configured]) again
  · rfl

/-- The route channel as a partner's frame leaves it, short of the LEVEL condition (R109, R110, R112, R114). -/
def heardRoute (st : Station) (f : Frame) (s : State) : Route :=
  { (frameCounted f s).route with partner := .live, conflict := conflicts st (entryAfter s.time.now f s.route) }

/-- A partner's frame changes the route channel, the silence and the site port alone (R112, R114, R122, R187). -/
theorem heardFrom_partner (configured : s.station = some st) (source : f.header.source = st.partner)
    (sound : RosterSound s) :
    let e := entryAfter s.time.now f s.route
    let u := heardFrom f s
    let told := if s.route.partner = .live then s.site else s.site.signal (.partner .live 0)
    let asks := (s.hop.phase = .beacon ∨ s.hop.phase = .sweep) ∧ e.wantsLevel = true
    hearing u.route = hearing (heardRoute st f s) ∧
      u = { s with
        draws := u.draws, route := u.route, margin := { s.margin with silence := 0 }, site := u.site } ∧
      u.site =
        (if conflicts st e = true ∧ s.route.conflict = false then told.signal (.endsConflict e.hop e.hopEnd)
        else told) ∧
      (¬ asks → u.draws = s.draws ∧ u.route = { heardRoute st f s with levelTimer := none }) ∧
      (∀ n, asks → s.route.levelTimer = some n → u.draws = s.draws ∧ u.route = heardRoute st f s) ∧
      (asks → s.route.levelTimer = none →
        u.route =
          { (queuedFor st (.level (levelShown s)) s.draws (heardRoute st f s)).2 with levelTimer := some 250 }) := by
  dsimp only
  have entry := frameCounted_partnerEntry (f := f) configured source
  have heard := heardFrom_live (f := f) configured source
  have age : (entryAfter s.time.now f s.route).age = 0 := (RosterEntry.take_heard ..).2.2.1
  have asks := heardLive_levelCondition (x := { frameCounted f s with margin := { s.margin with silence := 0 } })
    (by exact configured) ((State.partnerEntry_congr rfl rfl).trans entry)
  have before : (frameCounted f s).route.partner = s.route.partner ∧
      (frameCounted f s).route.conflict = s.route.conflict ∧
      (frameCounted f s).route.levelTimer = s.route.levelTimer := by
    rw [frameCounted_route sound.1]
    exact ⟨rfl, rfl, rfl⟩
  obtain ⟨partner, conflict, timer⟩ := before
  refine ⟨?_, ?_, ?_, fun quiet => ?_, fun n wants runs => ?_, fun wants none => ?_⟩
  · rw [heard, State.updateLevelCondition_hearing]
    rfl
  · rw [heard]
    exact State.eq_of_fields (by simp [heardLive, frameCounted])
  · rw [heard]
    simp only [State.updateLevelCondition_frame, heardLive, partner, conflict, age]
    rfl
  · rw [heard, State.updateLevelCondition_quiet (Bool.eq_false_iff.mpr (mt asks.mp quiet))]
    exact ⟨rfl, rfl⟩
  · rw [heard, State.updateLevelCondition_runs (asks.mpr wants) (timer.trans runs)]
    exact ⟨rfl, rfl⟩
  · rw [heard, State.updateLevelCondition_begins (asks.mpr wants) (timer.trans none) (by exact configured)]
    rfl

end

theorem body_of_level {f : Frame} (level : f.body.kind = .level) : ∃ b, f.body = .level b := by
  rcases body : f.body with _ | b | _ | _ | _ | _ | _ <;> simp [body, FrameBody.kind] at level ⊢

/-- The entry of a new source with no STATUS: the header's fields, and those of a LEVEL (R110, R113). -/
theorem entryAfter_new {now : SampleTime} {f : Frame} {r : Route} (new : r.entryOf f.header.source = none)
    (notStatus : f.body.kind ≠ .status) :
    entryAfter now f r =
      { RosterEntry.fresh f.header with ident := (entryAfter now f r).ident, level := (entryAfter now f r).level } := by
  rw [entryAfter, new, Option.getD_none]
  by_cases level : f.body.kind = .level
  · obtain ⟨b, body⟩ := body_of_level level
    rw [RosterEntry.take_level body]
    rfl
  · rw [RosterEntry.take_bare ⟨notStatus, level⟩]
    rfl

end Sys2Proof.Machine

namespace Sys2Proof.Proofs

open Sys2Proof Sys2Proof.Machine

/-- Settles O32: the roster by `updateRoster`'s lemmas, and a partner's frame by `heardFrom_live` and the three cases of
the LEVEL condition. -/
theorem goodFrameUpdatesTheRoster : Obligations.GoodFrameUpdatesTheRoster := by
  intro f s sound listening good other
  dsimp only
  obtain ⟨short, ascending, -⟩ := id sound
  obtain ⟨roster, goods, replaced⟩ := State.receive_hearing listening good other
  obtain ⟨hop, hopEnd, age, live⟩ := RosterEntry.take_heard s.time.now f
    ((s.route.entryOf f.header.source).getD (RosterEntry.fresh f.header))
  have route := frameCounted_route (f := f) short
  rw [route] at goods replaced
  have entry : ∀ n, ((s.receive f (deliveryOf f)).route.roster.find? fun y => y.station == n) =
      (s.route.hunt.updateRoster s.time.now f).entryOf n := fun n => by rw [roster]; rfl
  refine ⟨s.receive f (deliveryOf f), entryAfter s.time.now f s.route, exec_receiveRow_receive f s, ?_, hop, hopEnd,
    age, live, goods, fun b body => ?_, fun b body => ?_, fun was known => ⟨fun bare => ?_, fun level => ?_, ?_, ?_⟩,
    fun new notStatus => ⟨?_, fun bare => ?_⟩, fun new room => ⟨?_, fun n distinct => ?_⟩, fun new full => ?_,
    fun stranger => ?_, fun st configured source => ?_⟩
  · rw [entry]
    exact Route.updateRoster_source (r := s.route.hunt)
  · rw [entryAfter, RosterEntry.take_status body]
    exact ⟨rfl, rfl, rfl, rfl, rfl, rfl, rfl, rfl, rfl, rfl⟩
  · rw [entryAfter, RosterEntry.take_level body]
    exact ⟨rfl, rfl⟩
  · rw [entryAfter, show s.route.entryOf f.header.source = some was from known, RosterEntry.take_bare bare]
    rfl
  · obtain ⟨b, body⟩ := body_of_level level
    rw [entryAfter, show s.route.entryOf f.header.source = some was from known, RosterEntry.take_level body]
    rfl
  · exact replaced.trans (if_neg (by simp [show s.route.entryOf f.header.source = some was from known]))
  · intro n distinct
    rw [entry]
    exact Route.updateRoster_others (r := s.route.hunt) (.inl (by
      rw [show s.route.hunt.entryOf f.header.source = some was from known]; rfl)) distinct
  · exact entryAfter_new new notStatus
  · rw [entryAfter, show s.route.entryOf f.header.source = none from new, RosterEntry.take_bare bare]
    exact ⟨rfl, rfl⟩
  · exact replaced.trans (if_neg (by omega))
  · rw [entry]
    exact Route.updateRoster_others (r := s.route.hunt) (.inr room) distinct
  · obtain ⟨gone, held, oldest, left_, stay⟩ :=
      Route.updateRoster_replaces (now := s.time.now) (f := f) (r := s.route.hunt) new full ascending
    refine ⟨gone, held, oldest, ?_, ?_, fun n distinct stays => ?_⟩
    · rw [entry]; exact left_
    · exact replaced.trans (if_pos ⟨by rw [show s.route.entryOf f.header.source = none from new]; rfl, full⟩)
    · rw [entry]; exact stay n distinct stays
  · have foreign : ¬ (frameCounted f s).fromPartner f.header = true := by
      rw [frameCounted_fromPartner]
      rintro ⟨st, configured, source⟩
      exact stranger st configured source
    rw [State.receive_good listening good other, if_neg foreign, frameCounted_eq, route]
  · have partner : (frameCounted f s).fromPartner f.header = true :=
      (frameCounted_fromPartner f s).mpr ⟨st, configured, source⟩
    obtain ⟨heard, fields, site, quiet, runs, begins⟩ := heardFrom_partner (f := f) configured source sound
    have taken := State.receive_good listening good other (deliveryOf f)
    rw [if_pos partner] at taken
    have after := (State.deliverPartner_hearing f (heardFrom f s)).trans heard
    rw [← taken] at after
    simp only [hearing, Prod.mk.injEq] at heard after
    obtain ⟨rosterHeard, -, conflictHeard, -, -⟩ := heard
    obtain ⟨-, partnerAfter, conflictAfter, -, -⟩ := after
    have conflict : conflicts st (entryAfter s.time.now f s.route) = true ↔
        f.header.hopEnd = st.hopEnd ∨ f.header.hop ≠ st.hop := by
      rw [conflicts_iff, show (entryAfter s.time.now f s.route).hop = _ from hop,
        show (entryAfter s.time.now f s.route).hopEnd = _ from hopEnd]
    have updated : heardRoute st f s = { s.route with
        framer := { state := .hunt, bytes := [], gap := none }, roster := (heardFrom f s).route.roster
        partner := .live, conflict := (heardFrom f s).route.conflict
        counters := { s.route.counters with
          good := min 65535 (s.route.counters.good + 1)
          replacements :=
            if (s.route.entryOf f.header.source).isNone = true ∧ s.route.roster.length = 14 then
              min 65535 (s.route.counters.replacements + 1)
            else s.route.counters.replacements } } := by
      rw [rosterHeard, conflictHeard, heardRoute, route]
    rw [updated] at quiet runs begins
    refine ⟨?_, fields, by rw [conflictHeard]; exact conflict, fun now fresh => ?_, fun calm => ?_, quiet, runs, begins,
      partnerAfter, by rw [conflictAfter]; exact conflict, fun level => ?_⟩
    · rw [rosterHeard]
      exact Route.updateRoster_source (r := s.route.hunt)
    · rw [site, if_pos ⟨conflict.mpr now, fresh⟩]
      exact congrArg (fun report => Site.signal report _) (congr (congrArg Report.endsConflict hop) hopEnd)
    · rw [site, if_neg fun both => ?_]
      rcases calm with none | before
      · exact none (conflict.mp both.1)
      · exact absurd (before.symm.trans both.2) (by decide)
    · obtain ⟨b, body⟩ := body_of_level level
      have roster_ : deliveryOf f = id := by rw [deliveryOf, body]
      rw [taken, roster_, State.deliverPartner_level configured]

end Sys2Proof.Proofs
end

section
/-! PROOFS. The close and the start of a soak (R167, R173, R174, R177, R180). -/

namespace Sys2Proof.Machine

/-! ### The open fades are cut (R180) -/

section

variable {st : Settings} {now : SampleTime} {cmp : Comparator} {r : Role} {k : Soak}

/-- The list and the discards after a fade is entered follow from those before (R179). -/
theorem Soak.enterFade_lists (e : FadeEntry) {x y : Soak} (same : x.list = y.list ∧ x.discards = y.discards) :
    (x.enterFade e).list = (y.enterFade e).list ∧ (x.enterFade e).discards = (y.enterFade e).discards := by
  unfold Soak.enterFade
  rw [same.1, same.2]
  dsimp only
  repeat' split
  all_goals exact ⟨rfl, rfl⟩

theorem Soak.fadeFinish_fades (e : FadeEntry) (k : Soak) :
    (k.fadeFinish e).fades = k.fades.set e.role ((k.fades.get e.role).finish e.duration e.deepest) := by
  rw [Soak.fadeFinish, Soak.enterFade_eq]

theorem Soak.cutRole_absent (h : fitted st r = false ∨ (k.fades.get r).openFade = none) :
    k.cutRole st now cmp r = k := by
  unfold Soak.cutRole
  split
  · rfl
  · next f open_ =>
    rw [if_neg]
    rcases h with h | h
    · simp [h]
    · simp [open_] at h

theorem Soak.cutRole_open {f : OpenFade} (fits : fitted st r = true) (open_ : (k.fades.get r).openFade = some f) :
    k.cutRole st now cmp r = k.fadeFinish (cutEntry now cmp.deepest r f) := by
  simp only [Soak.cutRole, open_, fits, if_true]
  rfl

/-- The cut of a role touches its own record alone (R180). -/
theorem Soak.cutRole_other {q : Role} (other : q ≠ r) : (k.cutRole st now cmp r).fades.get q = k.fades.get q := by
  unfold Soak.cutRole
  split
  · rfl
  · split
    · rw [Soak.fadeFinish_fades]
      exact ByRole.get_set_ne _ _ other
    · rfl

/-- The cut of a role touches the records, the list and the discards alone (R180). -/
theorem Soak.cutRole_eq (st : Settings) (now : SampleTime) (cmp : Comparator) (r : Role) (k : Soak) :
    k.cutRole st now cmp r =
      { k with
        fades := (k.cutRole st now cmp r).fades, list := (k.cutRole st now cmp r).list
        discards := (k.cutRole st now cmp r).discards } := by
  unfold Soak.cutRole
  split
  · rfl
  · split
    · rw [Soak.fadeFinish, Soak.enterFade_eq]
    · rfl

/-- The record of a role whose fade is cut (R177, R180). -/
theorem Soak.cutRole_same {f : OpenFade} (fits : fitted st r = true) (open_ : (k.fades.get r).openFade = some f) :
    (k.cutRole st now cmp r).fades.get r =
      (k.fades.get r).finish (cutEntry now cmp.deepest r f).duration (cutEntry now cmp.deepest r f).deepest := by
  rw [Soak.cutRole_open fits open_, Soak.fadeFinish_fades]
  exact ByRole.get_set_same ..

end

/-- A role's cut fade, as the records of k hold it, entered in the list of x (R180). -/
def enterCut (st : Settings) (now : SampleTime) (u : LevelUnit) (k x : Soak) (r : Role) : Soak :=
  match (k.fades.get r).openFade with
  | none => x
  | some f => if fitted st r = true then x.enterFade (cutEntry now (u.channels.get r).cmp.deepest r f) else x

section

variable {st : Settings} {now : SampleTime} {u : LevelUnit} {k x y : Soak} {r : Role}

/-- The entries are those that the cut of the role makes, whatever else the recorders hold. -/
theorem enterCut_cutRole (record : y.fades.get r = k.fades.get r) (same : x.list = y.list ∧ x.discards = y.discards) :
    (enterCut st now u k x r).list = (y.cutRole st now (u.channels.get r).cmp r).list ∧
      (enterCut st now u k x r).discards = (y.cutRole st now (u.channels.get r).cmp r).discards := by
  rcases open_ : (k.fades.get r).openFade with _ | f
  · rw [Soak.cutRole_absent (.inr (by rw [record, open_]))]
    simpa only [enterCut, open_] using same
  · by_cases fits : fitted st r = true
    · rw [Soak.cutRole_open fits (by rw [record, open_])]
      simp only [enterCut, open_, fits, if_true]
      exact Soak.enterFade_lists _ same
    · have unfit : fitted st r = false := Bool.eq_false_iff.mpr fits
      rw [Soak.cutRole_absent (.inl unfit)]
      simpa [enterCut, open_, unfit] using same

end

/-- The cut of every role, one after another (R180). -/
theorem Soak.cutFades_fold (st : Settings) (now : SampleTime) (u : LevelUnit) (k : Soak) :
    k.cutFades st now u =
      [Role.coMain, .xMain, .coDiv, .xDiv].foldl (fun x r => x.cutRole st now (u.channels.get r).cmp r) k := rfl

/-- Changes of the fade records and the list alone, one after the other. -/
theorem fadeFields_trans {a b c : Soak} (first : b = { a with fades := b.fades, list := b.list, discards := b.discards })
    (second : c = { b with fades := c.fades, list := c.list, discards := c.discards }) :
    c = { a with fades := c.fades, list := c.list, discards := c.discards } := by
  rw [first] at second
  exact second

/-- What the cut of a list of roles leaves of a role's record, and the entries that it makes. -/
theorem Soak.foldl_cutRole (st : Settings) (now : SampleTime) (u : LevelUnit) (k : Soak) :
    ∀ (rs : List Role) (x y : Soak), rs.Nodup → (∀ r ∈ rs, y.fades.get r = k.fades.get r) →
      x.list = y.list ∧ x.discards = y.discards →
      let t := rs.foldl (fun x r => x.cutRole st now (u.channels.get r).cmp r) y
      let entered := rs.foldl (enterCut st now u k) x
      (∀ q, q ∉ rs → t.fades.get q = y.fades.get q) ∧
        (∀ q ∈ rs, t.fades.get q = (k.cutRole st now (u.channels.get q).cmp q).fades.get q) ∧
        (entered.list = t.list ∧ entered.discards = t.discards) ∧
        t = { y with fades := t.fades, list := t.list, discards := t.discards } := by
  intro rs
  induction rs with
  | nil => exact fun x y _ _ same => ⟨fun _ _ => rfl, by simp, same, rfl⟩
  | cons r rs ih =>
    intro x y nodup records same
    obtain ⟨notIn, nodup⟩ := List.nodup_cons.mp nodup
    have record := records r (List.mem_cons_self ..)
    have later : ∀ q ∈ rs, q ≠ r := fun q inTail h => notIn (h ▸ inTail)
    obtain ⟨others, cut, lists, rest⟩ := ih (enterCut st now u k x r) (y.cutRole st now (u.channels.get r).cmp r) nodup
      (fun q inTail => (Soak.cutRole_other (later q inTail)).trans (records q (List.mem_cons_of_mem _ inTail)))
      (enterCut_cutRole record same)
    refine ⟨fun q absent => ?_, fun q inList => ?_, lists, ?_⟩
    · obtain ⟨other, absent⟩ := not_or.mp (mt List.mem_cons.mpr absent)
      exact (others q absent).trans (Soak.cutRole_other other)
    · rcases List.mem_cons.mp inList with rfl | inTail
      · refine (others q notIn).trans ?_
        rcases open_ : (k.fades.get q).openFade with _ | f
        · rw [Soak.cutRole_absent (.inr (by rw [record, open_])), Soak.cutRole_absent (.inr open_), record]
        · by_cases fits : fitted st q = true
          · rw [Soak.cutRole_same fits (by rw [record, open_]), Soak.cutRole_same fits open_, record]
          · rw [Soak.cutRole_absent (.inl (Bool.eq_false_iff.mpr fits)),
              Soak.cutRole_absent (.inl (Bool.eq_false_iff.mpr fits)), record]
      · exact cut q inTail
    · exact fadeFields_trans (Soak.cutRole_eq st now (u.channels.get r).cmp r y) rest

/-- Every open fade of a fitted role is cut (R180); the other figures of the recorder do not matter. -/
theorem Soak.cutFades_cut (st : Settings) (now : SampleTime) (u : LevelUnit) (k y : Soak)
    (records : y.fades = k.fades) (same : k.list = y.list ∧ k.discards = y.discards) :
    FadesCut st now u k (y.cutFades st now u) ∧
      y.cutFades st now u = { y with
        fades := (y.cutFades st now u).fades, list := (y.cutFades st now u).list
        discards := (y.cutFades st now u).discards } := by
  have every : ∀ r : Role, r ∈ [Role.coMain, .xMain, .coDiv, .xDiv] := fun r => by cases r <;> decide
  obtain ⟨-, cut, lists, rest⟩ := Soak.foldl_cutRole st now u k [.coMain, .xMain, .coDiv, .xDiv] k y (by decide)
    (fun r _ => by rw [records]) same
  refine ⟨⟨fun r f fits open_ => ?_, fun r absent => ?_, lists.1.symm, lists.2.symm⟩, rest⟩
  · exact (cut r (every r)).trans ((Soak.cutRole_same fits open_).trans (FadeRecord.finish_eq ..))
  · refine (cut r (every r)).trans ?_
    rw [Soak.cutRole_absent absent]

/-! ### The close (R173, R174) -/

theorem Soak.closePending_available {k : Soak} (h : k.availability = .available) :
    k.closePending = { k with bad := k.bad + k.pending.length, pending := [] } := by
  unfold Soak.closePending
  split
  · rfl
  · next away => exact absurd (h.symm.trans away) (by decide)

theorem Soak.closePending_outage {k : Soak} (h : k.availability = .outage) :
    k.closePending = { k with
      outage := k.outage + k.pending.length, currentOutage := k.currentOutage + k.pending.length, pending := []
      longestOutage := max k.longestOutage (k.currentOutage + k.pending.length) } := by
  unfold Soak.closePending
  split
  · next away => exact absurd (h.symm.trans away) (by decide)
  · rfl

/-- The pending seconds are released, by the availability state (R173). -/
theorem Soak.closePending_eq (k : Soak) :
    k.closePending = { k with
      pending := [], bad := k.closePending.bad, outage := k.closePending.outage
      currentOutage := k.closePending.currentOutage, longestOutage := k.closePending.longestOutage } := by
  unfold Soak.closePending
  split <;> rfl

/-- The close of a running soak (R173, R174, R180). -/
theorem Soak.close_closed (halted : Bool) (x : State) (k : Soak) :
    SoakClosed halted x k (k.close x.settings x.time.now x.level halted) := by
  have pending := k.closePending_eq
  obtain ⟨cut, rest⟩ := Soak.cutFades_cut x.settings x.time.now x.level k k.closePending
    (by rw [pending]) ⟨by rw [pending], by rw [pending]⟩
  have closed : k.close x.settings x.time.now x.level halted =
      { k.closePending.cutFades x.settings x.time.now x.level with
        state := if halted then .incomplete else .closed
        verdict := if halted then none else
          some ((k.closePending.cutFades x.settings x.time.now x.level).judge x.settings) } := by
    cases halted <;> rfl
  rw [closed]
  have seconds : ∀ y : Soak, y = k.closePending.cutFades x.settings x.time.now x.level →
      y.bad = k.closePending.bad ∧ y.outage = k.closePending.outage ∧ y.errored = k.errored ∧
        y.currentOutage = k.closePending.currentOutage ∧ y.longestOutage = k.closePending.longestOutage := by
    rintro y rfl
    rw [rest, pending]
    exact ⟨rfl, rfl, rfl, rfl, rfl⟩
  obtain ⟨bad, outage, errored, current, longest⟩ := seconds _ rfl
  refine ⟨cut, ?_, fun available => ?_, fun out => ?_, ?_⟩
  · rw [rest, pending]
  · have released := Soak.closePending_available available
    exact ⟨bad.trans (by rw [released]), outage.trans (by rw [released]),
      current.trans (by rw [released]), longest.trans (by rw [released])⟩
  · have released := Soak.closePending_outage out
    exact ⟨bad.trans (by rw [released]), outage.trans (by rw [released]),
      current.trans (by rw [released]), longest.trans (by rw [released])⟩
  · cases halted
    · simp only [Soak.judge]
      exact apply_ite some ..
    · rfl

/-! ### The start (R167, R177) -/

section

variable {st : Settings} {cmp : Comparator} {r : Role} {k : Soak}

theorem Soak.takeOver_eq (st : Settings) (cmp : Comparator) (r : Role) (k : Soak) :
    k.takeOver st cmp r = { k with fades := (k.takeOver st cmp r).fades } := by
  unfold Soak.takeOver
  split <;> rfl

theorem Soak.takeOver_other {q : Role} (other : q ≠ r) : (k.takeOver st cmp r).fades.get q = k.fades.get q := by
  unfold Soak.takeOver
  split
  · exact ByRole.get_set_ne _ _ other
  · rfl

/-- A fitted role's fade in progress counts as just started (R177). -/
theorem Soak.takeOver_same (empty : k.fades.get r = FadeRecord.empty) :
    (k.takeOver st cmp r).fades.get r =
      if fitted st r = true ∧ cmp.state = .faded then
        { openFade := some { start := cmp.fadeStart, deepest := cmp.deepest }, count := 1, total := 0, longest := 0
          deepest := some cmp.deepest }
      else { openFade := none, count := 0, total := 0, longest := 0, deepest := none } := by
  unfold Soak.takeOver
  by_cases faded : fitted st r = true ∧ cmp.state = .faded
  · rw [if_pos (by simpa using faded), if_pos faded]
    refine (ByRole.get_set_same ..).trans ?_
    rw [empty]
    rfl
  · rw [if_neg (by simpa using faded), if_neg faded, empty]
    rfl

end

/-- A new soak in WAITING (R167, R177). -/
theorem Soak.begin_entered (st : Settings) (u : LevelUnit) :
    Soak.begin st u = { soakCleared with state := .waiting, fades := (Soak.begin st u).fades } ∧
      ∀ r : Role, (Soak.begin st u).fades.get r =
        (if fitted st r = true ∧ (u.channels.get r).cmp.state = .faded then
          { openFade :=
              some { start := (u.channels.get r).cmp.fadeStart, deepest := (u.channels.get r).cmp.deepest }
            count := 1, total := 0, longest := 0, deepest := some (u.channels.get r).cmp.deepest }
        else { openFade := none, count := 0, total := 0, longest := 0, deepest := none }) := by
  refine ⟨?_, fun r => ?_⟩
  · unfold Soak.begin
    dsimp only
    rw [Soak.takeOver_eq, Soak.takeOver_eq, Soak.takeOver_eq, Soak.takeOver_eq]
    rfl
  · unfold Soak.begin
    dsimp only
    cases r
    · rw [Soak.takeOver_other (by decide), Soak.takeOver_other (by decide), Soak.takeOver_other (by decide),
        Soak.takeOver_same rfl]
    · rw [Soak.takeOver_other (by decide), Soak.takeOver_other (by decide), Soak.takeOver_same]
      rw [Soak.takeOver_other (by decide)]
      rfl
    · rw [Soak.takeOver_other (by decide), Soak.takeOver_same]
      rw [Soak.takeOver_other (by decide), Soak.takeOver_other (by decide)]
      rfl
    · rw [Soak.takeOver_same]
      rw [Soak.takeOver_other (by decide), Soak.takeOver_other (by decide), Soak.takeOver_other (by decide)]
      rfl

end Sys2Proof.Machine
end

section
/-! PROOFS. What each phase's entry makes of the other blocks (section 8.1.1; R23, R24, R150, R153, R157, R173, R181,
R188, R199, R200). -/

namespace Sys2Proof.Machine

/-! ### Events on the way -/

theorem State.signalIdent_signalled (before : IdentState) (s : State) :
    Signalled s.site (s.signalIdent before).site := by
  unfold State.signalIdent
  split
  · exact .refl _
  · dsimp only
    split
    · exact (Signalled.one _ _).signal _
    · exact .one _ _

theorem State.identEntry_signalled (running : Bool) (s : State) : Signalled s.site (s.identEntry running).site :=
  State.signalIdent_signalled s.ident.state _

/-- An ident state that the entry clears is signalled (R23, R24). -/
theorem State.identEntry_event {running : Bool} {s : State} (state : s.ident.state ≠ .noKeying) :
    EventFlag.ident ∈ (s.identEntry running).site.flags :=
  (State.signalIdent_event (before := s.ident.state)
    (s := { s with ident := Identifier.restart running }) (Ne.symm state)).1

@[simp] theorem State.identEntry_ident (running : Bool) (s : State) :
    (s.identEntry running).ident = { identCleared with running := running } := by
  rw [State.identEntry, State.signalIdent_eq]
  rfl

theorem State.exitMargin_signalled (s : State) : Signalled s.site s.exitMargin.site := by
  unfold State.exitMargin
  dsimp only
  split
  · exact .ofEq (by simp)
  · split
    · exact .one _ _
    · exact .ofEq (by simp)

theorem State.closeRunningSoak_signalled (halted : Bool) (s : State) :
    Signalled s.site (s.closeRunningSoak halted).site := by
  unfold State.closeRunningSoak State.closeSoak
  split
  · exact (Signalled.ofEq (by simp [State.sendDigest])).signal _
  · exact .refl _

theorem State.decideHandover_signalled (h : HandoverRecord) (s : State) : Signalled s.site (s.decideHandover h).site := by
  unfold State.decideHandover
  split
  · exact .one _ _
  · exact .refl _

theorem State.openHandover_signalled (s : State) : Signalled s.site s.openHandover.site := by
  unfold State.openHandover
  split
  · exact .refl _
  · exact State.decideHandover_signalled _ _

theorem State.leaveBlocks_signalled (left : Phase) (s : State) : Signalled s.site (s.leaveBlocks left).site := by
  unfold State.leaveBlocks
  split
  · exact .refl _
  · exact State.handoverIncomplete_signalled _
  · exact .refl _

theorem State.cancelOutstanding_signalled (settled : Bool) (s : State) :
    Signalled s.site (s.cancelOutstanding settled).site := by
  unfold State.cancelOutstanding
  split
  · exact .refl _
  · split
    · exact .refl _
    · exact .one _ _

theorem State.enterMargin_signalled (s : State) :
    Signalled s.site s.enterMargin.site ∧ Signalled (s.identEntry false).site s.enterMargin.site := by
  have closed : Signalled (s.identEntry false).site s.enterMargin.site :=
    (State.closeRunningSoak_signalled false _).trans (.ofEq (by simp [State.enterMargin]))
  exact ⟨(s.identEntry_signalled false).trans closed, closed⟩

theorem State.enterHandover_signalled (s : State) :
    Signalled (s.identEntry false).site (s.identEntry false).exitMargin.site ∧
      Signalled (s.identEntry false).exitMargin.site s.enterHandover.site := by
  refine ⟨State.exitMargin_signalled _, ?_⟩
  exact Signalled.trans (.ofEq (by simp [State.sendDigest])) (State.openHandover_signalled _)

theorem State.enterHalted_signalled (s : State) :
    Signalled (s.identEntry false).site (s.identEntry false).exitMargin.site ∧
      Signalled (s.identEntry false).exitMargin.site s.enterHalted.site :=
  ⟨State.exitMargin_signalled _, State.closeRunningSoak_signalled true _⟩

/-- The ident state is cleared at every entry but IDLE (R23, R24), and the entry's other events follow. -/
theorem State.enterBlocks_signalled {target : Phase} (notIdle : target ≠ .idle) (id : Option ProposalId) (role : Antenna)
    (s : State) :
    Signalled s.site (s.enterBlocks target id role).site ∧
      (s.ident.state ≠ .noKeying → EventFlag.ident ∈ (s.enterBlocks target id role).site.flags) := by
  have following : ∀ {x : State} {q : Site} {running : Bool}, x.site = s.site → x.ident = s.ident →
      Signalled (x.identEntry running).site q →
      Signalled s.site q ∧ (s.ident.state ≠ .noKeying → EventFlag.ident ∈ q.flags) :=
    fun site ident rest => ⟨site ▸ (State.identEntry_signalled _ _).trans rest,
      fun state => rest.flag (State.identEntry_event (by rwa [ident]))⟩
  cases target with
  | idle => exact absurd rfl notIdle
  | beacon => exact following (x := { s with src := s.src.writeBeacon .keyed }) rfl rfl (.refl _)
  | sweep =>
    exact following (x := { s with
      map := AlignMap.sweepEntry role, pos := s.pos.zero, level := { s.level with steering := role }
      lobe := s.lobe.sweepEntry, src := s.src.writeBeacon .keyed }) rfl rfl (.refl _)
  | confirm => exact following (x := s) (running := false) rfl rfl (.refl _)
  | soak => exact following (x := s) (running := false) rfl rfl (.refl _)
  | margin => exact following (x := s) rfl rfl s.enterMargin_signalled.2
  | handover => exact following (x := s) rfl rfl (s.enterHandover_signalled.1.trans s.enterHandover_signalled.2)
  | halted => exact following (x := s) rfl rfl (s.enterHalted_signalled.1.trans s.enterHalted_signalled.2)

/-! ### The soak's close -/

theorem State.closeRunningSoak_idle {halted : Bool} {s : State} (idle : s.soak.running = false) :
    s.closeRunningSoak halted = s := if_neg (Bool.eq_false_iff.mp idle)

/-- A running soak closes, its final DIGEST queued (R173 to R175). -/
theorem State.closeRunningSoak_closes {halted : Bool} {st : Station} {s : State} (configured : s.station = some st)
    (running : s.soak.running = true) :
    let k := s.soak.close s.settings s.time.now s.level halted
    s.closeRunningSoak halted = { s with
      soak := k
      draws := (queuedFor st (.digest (digestShown true k)) s.draws s.route).1
      route := (queuedFor st (.digest (digestShown true k)) s.draws s.route).2
      site := s.site.signal k.report } := by
  dsimp only
  rw [State.closeRunningSoak, if_pos running, State.closeSoak, State.sendDigest,
    State.send_queuedFor _ st _ (by exact configured)]
  rfl

/-! ### The margin procedure's end (R188) -/

theorem State.exitMargin_src (s : State) :
    s.exitMargin.src = { s.src with atten := { live := 0, staged := 0, pending := false } } := by
  unfold State.exitMargin
  dsimp only
  split
  · rfl
  · split <;> rfl

/-- The margin procedure at HANDOVER or HALTED entry (R188). -/
theorem State.exitMargin_ended {st : Station} {s : State} (configured : s.station = some st) :
    MarginEnded st s s.exitMargin := by
  refine ⟨fun idle => ?_, fun d current active => ?_⟩
  · rcases Option.eq_none_or_eq_some s.margin.current with none | ⟨d, current⟩
    · simp [State.exitMargin, none]
    · simp [State.exitMargin, current, idle d current]
  · have role : ∀ x : State, x.station = some st →
        (x.roleOf d == MarginRole.transmitting) = decide (roleIn st.hopEnd d = .transmitting) := fun x station => by
      rw [State.roleOf]
      simp only [station]
      exact Bool.eq_iff_iff.mpr (beq_iff_eq.trans decide_eq_true_iff.symm)
    refine ⟨?_, ?_⟩
    · simp only [State.exitMargin, current, active, if_true, State.signalMargin_frame, Margin.abort]
      rw [role]
      · simp only [decide_eq_true_eq]
        rfl
      · exact configured
    · simp only [State.exitMargin, current, active, if_true]
      exact State.event_mem_signal _ _

/-- The end of the margin procedure, seen from a state of the same margin and to a later state (R188). -/
theorem MarginEnded.of {st : Station} {x y t u : State} (ended : MarginEnded st y u) (before : y.margin = x.margin)
    (after : t.margin = u.margin) (later : Signalled u.site t.site) : MarginEnded st x t := by
  obtain ⟨idle, active⟩ := ended
  rw [before] at idle active
  refine ⟨fun h => after.trans (idle h), fun d current h => ?_⟩
  obtain ⟨margin, flag⟩ := active d current h
  exact ⟨after.trans margin, later.flag flag⟩

/-! ### The handover record (R199, R200) -/

theorem HandoverRecord.judge_iff (diversity : Bool) (h : HandoverRecord) :
    h.judge diversity = .pass ↔ RecordPasses diversity h := by
  have digest : digestVerdict h.partnerDigest = some .pass ↔
      ∃ d, h.partnerDigest = some d ∧ d.body.incomplete = false ∧ d.body.verdict = some .pass := by
    rcases h.partnerDigest with _ | d
    · simp [digestVerdict]
    · cases d.body.incomplete <;> simp [digestVerdict]
  have result : ∀ r : Option MarginResult, passed r = true ↔ ∃ a, r = some a ∧ a.outcome = .pass := by
    intro r
    cases r <;> simp [passed]
  have results : resultsPass h.results = true ↔ ∀ r, h.results = some r →
      (∃ a, r.one = some a ∧ a.outcome = .pass) ∧ ∃ b, r.two = some b ∧ b.outcome = .pass := by
    rcases h.results with _ | r
    · simp [resultsPass]
    · simp [resultsPass, result]
  have confirmed : confirmedEnough diversity h.confirmed = true ↔
      h.confirmed.main = true ∧ (diversity = true → h.confirmed.div = true) := by
    cases diversity <;> simp [confirmedEnough]
  have all := and_congr (Iff.refl (h.verdict = some .pass)) (and_congr digest (and_congr results confirmed))
  unfold HandoverRecord.judge
  split
  · next passes => exact ⟨fun _ => all.mp passes, fun _ => rfl⟩
  · next fails => exact ⟨nofun, fun passes => absurd (all.mpr passes) fails⟩

theorem HandoverRecord.judge_cases (diversity : Bool) (h : HandoverRecord) :
    h.judge diversity = .pass ∨ h.judge diversity = .fail := by
  unfold HandoverRecord.judge
  split
  · exact .inl rfl
  · exact .inr rfl

end Sys2Proof.Machine
end

section
/-! PROOFS. A change of phase: what every entry does, block by block, and the frames it queues (section 8.1.1; R117,
R121, R122, R127 to R129). -/

namespace Sys2Proof.Machine

/-! ### A change of phase in its parts -/

/-- The coordinator has changed the phase, a waiting PROPOSE is withdrawn (R127, R129). -/
def entryBegun (target : Phase) (cause : EntryCause) (id : Option ProposalId) (settled : Bool) (s : State) : State :=
  { s.cancelOutstanding settled with hop := s.hop.enter target cause id, route := s.route.withdrawPropose }

/-- The phase left has been left (R70, R79, R175, R200). -/
def phaseLeft (target : Phase) (cause : EntryCause) (id : Option ProposalId) (settled : Bool) (s : State) : State :=
  (entryBegun target cause id settled s).leaveBlocks s.hop.phase

/-- The other blocks have entered the phase, short of its STATUS (section 8.1.1). -/
def blocksEntered (target : Phase) (cause : EntryCause) (id : Option ProposalId) (role : Antenna) (settled : Bool)
    (s : State) : State :=
  ((phaseLeft target cause id settled s).enterBlocks target id role).switchProfile s.hop.profile

section

variable {target : Phase} {cause : EntryCause} {id : Option ProposalId} {role : Antenna} {settled : Bool} {s : State}

theorem State.enterPhase_eq (target : Phase) (cause : EntryCause) (id : Option ProposalId) (role : Antenna)
    (settled : Bool) (s : State) :
    s.enterPhase target cause id role settled =
      ((blocksEntered target cause id role settled s).sendStatus.signal
        (.phase s.hop.phase target cause)).updateLevelCondition := by
  simp only [State.enterPhase, blocksEntered, phaseLeft, entryBegun, State.cancelOutstanding_frame]

/-- After the blocks only the frames and the PHASE event follow (R121, R122, R127). -/
theorem State.enterPhase_blocks (target : Phase) (cause : EntryCause) (id : Option ProposalId) (role : Antenna)
    (settled : Bool) (s : State) :
    let b := blocksEntered target cause id role settled s
    let t := s.enterPhase target cause id role settled
    t.hop = b.hop ∧ t.ident = b.ident ∧ t.src = b.src ∧ t.map = b.map ∧ t.lobe = b.lobe ∧ t.soak = b.soak ∧
      t.margin = b.margin ∧ t.handover = b.handover ∧ t.pos = b.pos ∧ t.level = b.level ∧
      t.site = b.site.signal (.phase s.hop.phase target cause) := by
  dsimp only
  rw [State.enterPhase_eq]
  simp

@[simp] theorem phaseLeft_frame (target : Phase) (cause : EntryCause) (id : Option ProposalId) (settled : Bool)
    (s : State) :
    let y := phaseLeft target cause id settled s
    y.draws = s.draws ∧ y.time = s.time ∧ y.station = s.station ∧ y.settings = s.settings ∧ y.level = s.level ∧
      y.ident = s.ident ∧ y.pos = s.pos ∧ y.map = s.map ∧ y.route = s.route.withdrawPropose ∧
      y.hop = s.hop.enter target cause id ∧ y.src = s.src ∧ y.margin = s.margin := by
  simp [phaseLeft, entryBegun]

theorem phaseLeft_signalled : Signalled s.site (phaseLeft target cause id settled s).site :=
  (State.cancelOutstanding_signalled settled s).trans
    (Signalled.trans (.ofEq rfl) (State.leaveBlocks_signalled s.hop.phase _))

theorem phaseLeft_lobe :
    (phaseLeft target cause id settled s).lobe = if s.hop.phase = .confirm then s.lobe.leaveConfirm else s.lobe := by
  unfold phaseLeft State.leaveBlocks entryBegun
  split
  · next left => simp [left]
  · next left => simp [left]
  · next notConfirm _ => rw [if_neg notConfirm]; simp

theorem phaseLeft_soak :
    (phaseLeft target cause id settled s).soak =
      { s.soak with digestTimer := if s.hop.phase = .handover then none else s.soak.digestTimer } := by
  unfold phaseLeft State.leaveBlocks entryBegun
  split
  · next left => simp [left]
  · next left => simp [left]
  · next notConfirm notHandover => rw [if_neg notHandover]; simp

theorem phaseLeft_handover (stays : s.hop.phase ≠ .handover) :
    (phaseLeft target cause id settled s).handover = s.handover := by
  unfold phaseLeft State.leaveBlocks entryBegun
  split
  · next left => simp
  · next left => exact absurd left stays
  · simp

/-- An outstanding proposal that the change of phase discards is CANCELLED (R133). -/
theorem phaseLeft_cancels (open_ : s.hop.outstanding ≠ none) :
    EventFlag.proposal ∈ (phaseLeft target cause id false s).site.flags := by
  obtain ⟨p, made⟩ := Option.ne_none_iff_exists'.mp open_
  have cancelled : EventFlag.proposal ∈ (s.cancelOutstanding false).site.flags := by
    simp only [State.cancelOutstanding, made]
    exact State.event_mem_signal _ _
  exact (State.leaveBlocks_signalled s.hop.phase (entryBegun target cause id false s)).flag cancelled

theorem blocksEntered_profile (kept : (s.hop.enter target cause id).profile = s.hop.profile) :
    blocksEntered target cause id role settled s = (phaseLeft target cause id settled s).enterBlocks target id role := by
  refine if_pos ?_
  rw [State.enterBlocks_frame _ _ _ _ |>.2.2.2.2.2.1, (phaseLeft_frame target cause id settled s).2.2.2.2.2.2.2.2.2.1]
  exact kept

/-! ### The events -/

theorem State.enterPhase_signalled (notIdle : target ≠ .idle) :
    Signalled (phaseLeft target cause id settled s).site (s.enterPhase target cause id role settled).site ∧
      Signalled s.site (s.enterPhase target cause id role settled).site ∧
      EventFlag.phase ∈ (s.enterPhase target cause id role settled).site.flags ∧
      (s.ident.state ≠ .noKeying → EventFlag.ident ∈ (s.enterPhase target cause id role settled).site.flags) := by
  obtain ⟨-, -, -, -, -, -, -, -, -, -, site⟩ := State.enterPhase_blocks target cause id role settled s
  obtain ⟨entered, ident⟩ := State.enterBlocks_signalled notIdle id role (phaseLeft target cause id settled s)
  have blocks : (blocksEntered target cause id role settled s).site =
      ((phaseLeft target cause id settled s).enterBlocks target id role).site := by simp [blocksEntered]
  rw [site, blocks]
  have whole := entered.signal (.phase s.hop.phase target cause)
  refine ⟨whole, phaseLeft_signalled.trans whole, ?_, fun state => ?_⟩
  · exact (Site.mem_signal_flags _ _ _).mpr (.inl rfl)
  · exact (Signalled.one _ _).flag (ident (by rwa [(phaseLeft_frame target cause id settled s).2.2.2.2.2.1]))

/-! ### The frames -/

/-- A run of queued bodies leaves the head's ear, the clash flag and the LEVEL timer as they are (R117). -/
theorem enqueueAll_kept (st : Station) (bodies : List FrameBody) (draws : Nat) (r : Route) :
    hearing (enqueueAll st bodies draws r).2 = hearing r ∧ (enqueueAll st bodies draws r).2.clash = r.clash ∧
      (enqueueAll st bodies draws r).2.levelTimer = r.levelTimer := by
  unfold enqueueAll
  induction bodies generalizing draws r with
  | nil => exact ⟨rfl, rfl, rfl⟩
  | cons b bs ih =>
    obtain ⟨heard, clash, timer⟩ := ih (queuedFor st b draws r).1 (queuedFor st b draws r).2
    exact ⟨heard.trans (Route.enqueue_hearing ..), clash.trans (by simp [queuedFor]), timer.trans (by simp [queuedFor])⟩

theorem enqueueAll_concat (st : Station) (bodies : List FrameBody) (b : FrameBody) (draws : Nat) (r : Route) :
    enqueueAll st (bodies ++ [b]) draws r =
      queuedFor st b (enqueueAll st bodies draws r).1 (enqueueAll st bodies draws r).2 := by
  simp [enqueueAll, List.foldl_append]

theorem State.updateLevelCondition_clash (s : State) : s.updateLevelCondition.route.clash = s.route.clash := by
  have sent : ∀ body, (s.send body).route.clash = s.route.clash := fun body => by
    rcases Option.eq_none_or_eq_some s.station with none | ⟨st, configured⟩
    · rw [State.send_unconfigured body s none]
    · rw [State.send_configured body st s configured]
      simp
  unfold State.updateLevelCondition
  repeat' split
  · exact sent _
  · rfl
  · rfl

/-- The frames of an entry: those of the blocks, the STATUS, and the LEVEL when it is asked for (R117, R121, R122). -/
theorem State.enterPhase_frames {st : Station} (configured : s.station = some st) (first : List FrameBody)
    (queued : let b := blocksEntered target cause id role settled s
      (b.draws, b.route) = enqueueAll st first s.draws s.route.withdrawPropose) :
    let t := s.enterPhase target cause id role settled
    let queued := enqueueAll st (first ++ [.status (statusShown st t)]) s.draws s.route.withdrawPropose
    let asks := (t.hop.phase = .beacon ∨ t.hop.phase = .sweep) ∧ ∃ e, s.partnerEntry = some e ∧ e.wantsLevel = true
    ∃ n, 2000 ≤ n ∧ n ≤ 2499 ∧
      (¬ asks → t.route = { queued.2 with statusTimer := some n, levelTimer := none }) ∧
      (∀ k, asks → s.route.levelTimer = some k →
        t.route = { queued.2 with statusTimer := some n, levelTimer := some k }) ∧
      (asks → s.route.levelTimer = none →
        t.route =
          { (queuedFor st (.level (levelShown t)) (queued.1 + 1) { queued.2 with statusTimer := some n }).2 with
            levelTimer := some 250 }) := by
  dsimp only at queued ⊢
  have blocks := State.enterPhase_eq target cause id role settled s
  have station : (blocksEntered target cause id role settled s).station = some st := by
    simp [blocksEntered, configured]
  revert queued blocks station
  generalize blocksEntered target cause id role settled s = b
  generalize s.enterPhase target cause id role settled = t
  intro queued blocks station
  obtain ⟨n, least, most, sent⟩ := State.sendStatus_queuedFor st b station
  obtain ⟨w, told⟩ : ∃ w, w = b.sendStatus.signal (.phase s.hop.phase target cause) := ⟨_, rfl⟩
  rw [← told] at blocks
  obtain ⟨q, q_eq⟩ : ∃ q, q = queuedFor st (.status (statusShown st b)) b.draws b.route := ⟨_, rfl⟩
  rw [← q_eq] at sent
  have route : w.route = { q.2 with statusTimer := some n } ∧ w.draws = q.1 + 1 := by
    rw [told, sent]
    exact ⟨rfl, rfl⟩
  have shown : statusShown st t = statusShown st b := by
    refine statusShown_congr ?_ ?_
    · rw [blocks, told]; simp
    · rw [blocks, State.updateLevelCondition_clash, route.1, q_eq]
      simp [queuedFor]
  have bodies : enqueueAll st (first ++ [.status (statusShown st t)]) s.draws s.route.withdrawPropose = q := by
    rw [enqueueAll_concat, ← queued, shown, q_eq]
  rw [bodies]
  obtain ⟨heard, -, timer⟩ :=
    enqueueAll_kept st (first ++ [.status (statusShown st t)]) s.draws s.route.withdrawPropose
  rw [bodies] at heard timer
  have roster : w.route.roster = s.route.roster := by
    rw [route.1]
    exact congrArg Prod.fst heard
  have runs : w.route.levelTimer = s.route.levelTimer := by
    rw [route.1]
    exact timer
  have wStation : w.station = some st := by rw [told]; simpa using station
  have asks : w.levelCondition = true ↔
      (t.hop.phase = .beacon ∨ t.hop.phase = .sweep) ∧ ∃ e, s.partnerEntry = some e ∧ e.wantsLevel = true := by
    rw [State.levelCondition_iff (by simp [wStation]), State.partnerEntry_congr (wStation.trans configured.symm) roster]
    rw [blocks, State.updateLevelCondition_frame w |>.2.2.2.2.2.2.2.2.2.2.1]
  rw [← asks]
  refine ⟨n, least, most, fun quiet => ?_, fun k wants timer => ?_, fun wants none => ?_⟩
  · rw [blocks, State.updateLevelCondition_quiet (Bool.eq_false_iff.mpr quiet), route.1]
  · rw [blocks, State.updateLevelCondition_runs wants (runs.trans timer), ← timer, ← runs, route.1]
  · have sameLevel : levelShown t = levelShown w := by
      rw [blocks]
      simp [levelShown, State.steeringRange, State.roleInput]
    rw [sameLevel, blocks, State.updateLevelCondition_begins wants (runs.trans none) wStation, route.1, route.2]

end

end Sys2Proof.Machine
end

section
/-! PROOFS. HALTED entry, and ABORT (section 8.1.1; R141, R173, R180, R188, R200). -/

namespace Sys2Proof.Machine

/-! ### HALTED entry -/

/-- The final DIGEST of a soak that closes at an entry (R173, R175). -/
def closingFrames (x : State) (k : Soak) : List FrameBody :=
  if x.soak.running = true then [.digest (digestShown true k)] else []

theorem beaconSet_atten (m : BeaconMode) (y : Source) (a : Staged Nat) :
    beaconSet m { y with atten := a } = { beaconSet m y with atten := a } := by
  unfold beaconSet
  split <;> rfl

/-- The close depends on the settings, the time and the level unit alone (R173, R180). -/
theorem SoakClosed.of {halted : Bool} {x y : State} {k t : Soak} (closed : SoakClosed halted y k t)
    (settings : y.settings = x.settings) (now : y.time.now = x.time.now) (level : y.level = x.level) :
    SoakClosed halted x k t := by
  unfold SoakClosed at *
  rw [← settings, ← now, ← level]
  exact closed

section

variable {st : Station} {y : State}

/-- A running soak closes, or nothing does (R173). -/
theorem State.closeRunningSoak_soak (halted : Bool) (configured : y.station = some st) :
    (y.soak.running = false → (y.closeRunningSoak halted).soak = y.soak) ∧
      (y.soak.running = true → SoakClosed halted y y.soak (y.closeRunningSoak halted).soak ∧
        EventFlag.soak ∈ (y.closeRunningSoak halted).site.flags) ∧
      ((y.closeRunningSoak halted).draws, (y.closeRunningSoak halted).route) =
        enqueueAll st (closingFrames y (y.closeRunningSoak halted).soak) y.draws y.route := by
  by_cases running : y.soak.running = true
  · have closes := State.closeRunningSoak_closes (halted := halted) configured running
    refine ⟨fun idle => absurd (running.symm.trans idle) (by decide), fun _ => ?_, ?_⟩
    · rw [closes]
      exact ⟨Soak.close_closed halted y y.soak, (Site.mem_signal_flags _ _ _).mpr (.inl rfl)⟩
    · rw [closes, closingFrames, if_pos running]
      rfl
  · have idle := Bool.eq_false_iff.mpr running
    rw [State.closeRunningSoak_idle idle, closingFrames, if_neg running]
    exact ⟨fun _ => rfl, fun runs => absurd runs running, rfl⟩

/-- HALTED entry but for the close of the soak (section 8.1.1). -/
def haltBegun (y : State) : State :=
  { (y.identEntry false).exitMargin with
    src := ((y.identEntry false).exitMargin.src.writeBeacon .off).writePattern false, map := y.map.freeze }

theorem State.enterHalted_eq (y : State) : y.enterHalted = (haltBegun y).closeRunningSoak true := by
  simp [State.enterHalted, haltBegun]

@[simp] theorem haltBegun_frame (y : State) :
    (haltBegun y).station = y.station ∧ (haltBegun y).settings = y.settings ∧ (haltBegun y).time = y.time ∧
      (haltBegun y).level = y.level ∧ (haltBegun y).soak = y.soak ∧ (haltBegun y).draws = y.draws ∧
      (haltBegun y).route = y.route ∧ (haltBegun y).handover = y.handover ∧ (haltBegun y).lobe = y.lobe ∧
      (haltBegun y).pos = y.pos ∧ (haltBegun y).ident = identCleared ∧ (haltBegun y).map = y.map.freeze ∧
      (haltBegun y).margin = (y.identEntry false).exitMargin.margin ∧
      (haltBegun y).site = (y.identEntry false).exitMargin.site := by
  simp [haltBegun]
  rfl

theorem haltBegun_src (y : State) :
    (haltBegun y).src = { beaconSet .off y.src with
      atten := { live := 0, staged := 0, pending := false }
      pattern := { live := y.src.pattern.live, staged := false, pending := true } } := by
  have pattern : (beaconSet .off y.src).pattern = y.src.pattern := by
    unfold beaconSet
    split <;> rfl
  rw [haltBegun]
  dsimp only
  rw [State.exitMargin_src, Source.writeBeacon_set, beaconSet_atten, Source.writePattern]
  simp only [Staged.write, State.identEntry_frame, pattern]

end

/-- A record still PENDING turns INCOMPLETE as HANDOVER is left (R200). -/
theorem phaseLeft_record {target : Phase} {cause : EntryCause} {id : Option ProposalId} {settled : Bool} {s : State}
    (handover : s.hop.phase = .handover) :
    (s.handover = none → (phaseLeft target cause id settled s).handover = none) ∧
      ∀ h, s.handover = some h →
        (phaseLeft target cause id settled s).handover =
            some (if h.overall = .pending then { h with overall := .incomplete } else h) ∧
          (h.overall = .pending → EventFlag.handover ∈ (phaseLeft target cause id settled s).site.flags) := by
  have begun : (entryBegun target cause id settled s).handover = s.handover := by simp [entryBegun]
  simp only [phaseLeft, handover, State.leaveBlocks, State.handoverIncomplete, begun]
  refine ⟨fun none => by rw [none], fun h record => ?_⟩
  rw [record]
  dsimp only
  by_cases pending : h.overall = .pending
  · rw [if_pos pending, if_pos pending]
    exact ⟨rfl, fun _ => State.event_mem_signal _ _⟩
  · rw [if_neg pending, if_neg pending]
    exact ⟨rfl, fun now => absurd now pending⟩

/-- The frames of the blocks as a phase is entered (section 8.1.1). -/
def entryFrames (st : Station) (x t : State) : List FrameBody :=
  match t.hop.phase with
  | .margin => closingFrames x t.soak ++ (if roleIn st.hopEnd .one = .transmitting then [firstStep .one] else [])
  | .handover => [.digest (digestShown true t.soak)]
  | .halted => closingFrames x t.soak
  | _ => []

/-- The frames of an entry whose blocks queue theirs (R117, R121, R122). -/
theorem State.enterPhase_framesQueued {st : Station} {target : Phase} {cause : EntryCause} {id : Option ProposalId}
    {role : Antenna} {settled : Bool} {s : State} (configured : s.station = some st)
    (queued : let b := blocksEntered target cause id role settled s
      (b.draws, b.route) =
        enqueueAll st (entryFrames st s (s.enterPhase target cause id role settled)) s.draws s.route.withdrawPropose) :
    EntryFramesQueued st s (s.enterPhase target cause id role settled) :=
  State.enterPhase_frames configured _ queued

/-- A halt enters HALTED, with all that the entry does (R141, R173, R180, R188, R200). -/
theorem State.halt_entered {st : Station} {s : State} (configured : s.station = some st) (c : HaltCause) :
    HaltEntered st c s (s.halt c) ∧ Signalled s.site (s.halt c).site := by
  obtain ⟨y, y_eq⟩ : ∃ y, y = phaseLeft .halted (.halt c) none false s := ⟨_, rfl⟩
  obtain ⟨draws, time, station, settings, level, ident, pos, map, route, hop, src, margin⟩ :=
    y_eq ▸ phaseLeft_frame .halted (.halt c) none false s
  have lobe : y.lobe = _ := y_eq ▸ phaseLeft_lobe
  have soak : y.soak = _ := y_eq ▸ phaseLeft_soak
  have blocks : blocksEntered .halted (.halt c) none .main false s = (haltBegun y).closeRunningSoak true :=
    y_eq ▸ (blocksEntered_profile rfl).trans (State.enterHalted_eq _)
  obtain ⟨tHop, tIdent, tSrc, tMap, tLobe, tSoak, tMargin, tHandover, tPos, tLevel, tSite⟩ :=
    blocks ▸ State.enterPhase_blocks .halted (.halt c) none .main false s
  obtain ⟨later, all, phase, told⟩ := y_eq ▸ State.enterPhase_signalled (target := .halted) (cause := .halt c)
    (id := none) (role := .main) (settled := false) (s := s) (by decide)
  have running : y.soak.running = s.soak.running := by rw [soak]; rfl
  obtain ⟨idle, runs, queued⟩ := State.closeRunningSoak_soak (y := haltBegun y) true
    (by simpa [station] using configured)
  have ended := (State.exitMargin_ended (s := y.identEntry false) (by simpa [station] using configured))
  rw [← tSoak] at idle runs queued
  simp only [State.closeRunningSoak_frame, haltBegun_frame] at tHop tIdent tMap tLobe tMargin tHandover tPos tLevel idle runs
  rw [State.closeRunningSoak_frame .. |>.2.2.2.2.2.2.2.2.2.2.2.1, haltBegun_src, src] at tSrc
  change (s.halt c).hop = _ at tHop
  have site : Signalled (y.identEntry false).exitMargin.site (s.halt c).site := by
    refine Signalled.trans ?_ (Signalled.ofEq tSite)
    exact Signalled.signal (Signalled.trans (Signalled.ofEq (by simp)) (State.closeRunningSoak_signalled true _)) _
  have hopIs : (s.halt c).hop = s.hop.enter .halted (.halt c) none := by
    refine tHop.trans (Eq.trans ?_ hop)
    simp [haltBegun]
  refine ⟨⟨hopIs.trans rfl, tIdent, told, tSrc, ?_, ?_, ?_, ?_, ?_, ?_, ?_, ?_, ?_, ?_, phase, ?_, ?_, ?_⟩, all⟩
  · exact tMap.trans (by rw [map]; rfl)
  · exact fun notConfirm => tLobe.trans (lobe.trans (if_neg notConfirm))
  · intro confirm notRunning
    refine tLobe.trans (lobe.trans ((if_pos confirm).trans ?_))
    rw [Analyser.leaveConfirm, if_neg (by exact notRunning)]
  · intro confirm analysing
    refine tLobe.trans (lobe.trans ((if_pos confirm).trans ?_))
    rw [Analyser.leaveConfirm, if_pos (by exact analysing)]
  · exact fun quiet => (idle (running.trans quiet)).trans soak
  · intro busy
    obtain ⟨closed, flag⟩ := runs (running.trans busy)
    rw [soak] at closed
    exact ⟨closed.of (by simp [settings]) (by simp [time]) (by simp [level]),
      ((Signalled.one _ _).trans (Signalled.ofEq tSite)).flag flag⟩
  · exact ended.of (by simp [margin]) tMargin site
  · exact fun stays => tHandover.trans (y_eq ▸ phaseLeft_handover stays)
  · exact fun handover none => tHandover.trans (y_eq ▸ (phaseLeft_record handover).1 none)
  · intro h handover record
    obtain ⟨changed, flag⟩ := y_eq ▸ (phaseLeft_record (target := .halted) (cause := .halt c) (id := none)
      (settled := false) handover).2 h record
    exact ⟨tHandover.trans changed, fun pending => later.flag (flag pending)⟩
  · exact fun open_ => later.flag (y_eq ▸ phaseLeft_cancels open_)
  · refine State.enterPhase_framesQueued configured ?_
    have phaseIs : (s.halt c).hop.phase = .halted := by rw [hopIs]; rfl
    have frames : entryFrames st s (s.halt c) = closingFrames s (s.halt c).soak := by rw [entryFrames, phaseIs]
    dsimp only
    rw [blocks]
    refine queued.trans ?_
    simp only [closingFrames, haltBegun_frame, running, draws, route]
    exact congrArg (fun bodies => enqueueAll st bodies _ _) frames.symm
  · exact State.eq_of_fields (by simp [State.halt, tLevel.trans level, tPos.trans pos])

end Sys2Proof.Machine

namespace Sys2Proof.Proofs

open Sys2Proof Sys2Proof.Machine

/-- Settles O28: the three answers of ABORT; the reply stands in the queue through the events of the halt. -/
theorem abortHalts : Obligations.AbortHalts := by
  have taken : ∀ s : State, Room s →
      exec .abort s = .next (State.answerAbort { s with site := { s.site with framer := .hunting } }) :=
    fun s room => congrArg Host.Outcome.next (State.request_taken _ s room)
  refine ⟨fun s none room => ?_, fun st s configured room => ?_⟩
  · rw [taken s room, State.answerAbort, if_pos (by simp [State.configured, none])]
    rfl
  · have isConfigured : ¬ (!s.configured) = true := by simp [State.configured, configured]
    rw [taken s room, State.answerAbort, if_neg (by exact isConfigured)]
    refine ⟨fun halted => ?_, fun acts => ?_⟩
    · rw [if_pos (by exact halted)]
      rfl
    · rw [if_neg (by exact acts)]
      obtain ⟨entered, told⟩ := State.halt_entered (st := st)
        (s := State.accept .abort { s with site := { s.site with framer := .hunting } }) (by exact configured) .operator
      exact ⟨_, rfl, entered, told.reply (List.getElem?_concat_length ..)⟩

end Sys2Proof.Proofs
end

section
/-! PROOFS. What a station does as it enters a phase under an accepted proposal (the table of section 8.1.1). -/

namespace Sys2Proof.Machine

/-! ### The blocks of a legal entry -/

/-- A legal entry comes from a phase before HANDOVER and goes to one of the six working phases (R126). -/
theorem legalSuccessor_ends {m : Bool} {p target : Phase} (legal : legalSuccessor m p target = true) :
    p ≠ .handover ∧ p ≠ .halted ∧ target ≠ .idle ∧ target ≠ .halted ∧ p ≠ target ∧
      (p = .confirm → target = .sweep ∨ target = .soak) ∧ (target = .soak → p = .confirm) := by
  cases p <;> cases target <;> simp [legalSuccessor] at legal ⊢

section

variable {target : Phase} {cause : EntryCause} {id : Option ProposalId} {role : Antenna} {settled : Bool} {s : State}
  {st : Station}

theorem phaseLeft_soak_same (stays : s.hop.phase ≠ .handover) :
    (phaseLeft target cause id settled s).soak = s.soak := by rw [phaseLeft_soak, if_neg stays]

theorem phaseLeft_lobe_same (stays : s.hop.phase ≠ .confirm) :
    (phaseLeft target cause id settled s).lobe = s.lobe := by rw [phaseLeft_lobe, if_neg stays]

/-- A running analysis is cancelled as CONFIRM is left, a complete one keeps its result (R70, R79). -/
theorem phaseLeft_lobe_confirm (left : s.hop.phase = .confirm) :
    (s.lobe.state ≠ .running →
      (phaseLeft target cause id settled s).lobe = { s.lobe with repeatTimer := none }) ∧
    (s.lobe.state = .running →
      (phaseLeft target cause id settled s).lobe =
        { s.lobe with repeatTimer := none, state := .notRun, result := .none, id := none, held := none }) := by
  rw [phaseLeft_lobe, if_pos left, Analyser.leaveConfirm]
  exact ⟨fun idle => if_neg (by exact idle), fun runs => if_pos (by exact runs)⟩

/-- A change of phase leaves the blocks as their entry leaves them, but for a profile that changes (R20, R128). -/
theorem State.enterPhase_enters {e t : State}
    (entered : e = (phaseLeft target cause id settled s).enterBlocks target id role)
    (after : t = s.enterPhase target cause id role settled) :
    (t.ident = e.ident ∧ t.src = e.src ∧ t.map = e.map ∧ t.lobe = e.lobe ∧ t.soak = e.soak ∧ t.margin = e.margin ∧
      t.handover = e.handover ∧ t.pos = e.pos) ∧
    t.level = (if profileOf target s.hop.profile = s.hop.profile then e.level else e.level.profileSwitch) ∧
    Signalled e.site t.site := by
  obtain ⟨-, ident, src, map, lobe, soak, margin, handover, pos, level, site⟩ :=
    State.enterPhase_blocks target cause id role settled s
  rw [← after] at ident src map lobe soak margin handover pos level site
  simp only [blocksEntered, ← entered, State.switchProfile_frame] at ident src map lobe soak margin handover pos level site
  refine ⟨⟨ident, src, map, lobe, soak, margin, handover, pos⟩, ?_, site ▸ Signalled.one _ _⟩
  have profile : e.hop.profile = profileOf target s.hop.profile := by
    rw [entered, State.enterBlocks_frame _ _ _ _ |>.2.2.2.2.2.1,
      (phaseLeft_frame target cause id settled s).2.2.2.2.2.2.2.2.2.1]
    rfl
  rw [level, State.switchProfile, profile]
  exact apply_ite State.level ..

/-! ### The phases -/

theorem State.enterPhase_beacon {t : State} (after : t = s.enterPhase .beacon cause id role settled)
    (legal : legalSuccessor s.settings.marginEnabled s.hop.phase .beacon = true) : BeaconEntered s t := by
  obtain ⟨notHandover, -, -, -, -, fromConfirm, -⟩ := legalSuccessor_ends legal
  have notConfirm : s.hop.phase ≠ .confirm := fun left => absurd (fromConfirm left) (by decide)
  obtain ⟨⟨ident, src, map, lobe, soak, margin, handover, -⟩, -, -⟩ := State.enterPhase_enters rfl after
  simp only [State.enterBlocks, State.enterBeacon, State.identEntry_frame, State.identEntry_ident, phaseLeft_frame,
    Source.writeBeacon_set, phaseLeft_soak_same notHandover, phaseLeft_handover notHandover,
    phaseLeft_lobe_same notConfirm] at ident src map lobe soak margin handover
  exact ⟨ident, src, map, lobe, soak, margin, handover⟩

theorem State.enterPhase_sweep {t : State} (after : t = s.enterPhase .sweep cause id role settled)
    (legal : legalSuccessor s.settings.marginEnabled s.hop.phase .sweep = true) : SweepEntered role s t := by
  obtain ⟨notHandover, -, -, -, -, -, -⟩ := legalSuccessor_ends legal
  obtain ⟨⟨ident, src, map, lobe, soak, margin, handover, pos⟩, level, -⟩ := State.enterPhase_enters rfl after
  simp only [State.enterBlocks, State.enterSweep, State.identEntry_frame, State.identEntry_ident, phaseLeft_frame,
    Source.writeBeacon_set, phaseLeft_soak_same notHandover, phaseLeft_handover notHandover]
    at ident src map lobe soak margin handover pos level
  have repeats : t.lobe.repeatTimer = (phaseLeft .sweep cause id settled s).lobe.repeatTimer := by rw [lobe]; rfl
  refine ⟨map, ?_, ?_, ?_, by rw [pos]; rfl, ident, src, ?_, ?_, ?_, soak, margin, handover⟩
  · rw [level]; split <;> rfl
  · rw [level]; split <;> rfl
  · intro a
    rw [pos]
    exact ByAxis.get_map ..
  · rw [lobe]
    by_cases left : s.hop.phase = .confirm
    · by_cases runs : s.lobe.state = .running
      · rw [(phaseLeft_lobe_confirm left).2 runs]; rfl
      · rw [(phaseLeft_lobe_confirm left).1 runs]; rfl
    · rw [phaseLeft_lobe_same left]; rfl
  · intro left
    rw [repeats]
    by_cases runs : s.lobe.state = .running
    · rw [(phaseLeft_lobe_confirm left).2 runs]
    · rw [(phaseLeft_lobe_confirm left).1 runs]
  · intro stays
    rw [repeats, phaseLeft_lobe_same stays]

theorem State.enterPhase_confirm {t : State} {pid : ProposalId}
    (after : t = s.enterPhase .confirm cause (some pid) role settled)
    (legal : legalSuccessor s.settings.marginEnabled s.hop.phase .confirm = true) : ConfirmEntered pid s t := by
  obtain ⟨notHandover, -, -, -, notSame, -, -⟩ := legalSuccessor_ends legal
  obtain ⟨⟨ident, src, map, lobe, soak, margin, handover, -⟩, -, -⟩ := State.enterPhase_enters rfl after
  simp only [State.enterBlocks, State.enterConfirm, State.identEntry_frame, State.identEntry_ident, phaseLeft_frame,
    Source.writeBeacon_set, phaseLeft_soak_same notHandover, phaseLeft_handover notHandover, Option.getD_some,
    phaseLeft_lobe_same notSame] at ident src map lobe soak margin handover
  refine ⟨ident, src, ?_, ?_, soak, margin, handover⟩
  · rw [map, AlignMap.freeze]
    split <;> rfl
  · rw [lobe, Analyser.start]
    rcases s.lobe.held with _ | r
    · rfl
    · simp only [Option.filter, beq_iff_eq]

theorem State.enterPhase_soak {t : State} (after : t = s.enterPhase .soak cause id role settled)
    (legal : legalSuccessor s.settings.marginEnabled s.hop.phase .soak = true) : SoakEntered s t := by
  obtain ⟨notHandover, -, -, -, -, -, fromConfirm⟩ := legalSuccessor_ends legal
  have left := fromConfirm rfl
  obtain ⟨⟨ident, src, map, lobe, soak, margin, handover, -⟩, level, -⟩ := State.enterPhase_enters rfl after
  simp only [State.enterBlocks, State.enterSoak, State.identEntry_frame, State.identEntry_ident, phaseLeft_frame,
    Source.writeBeacon_set, phaseLeft_handover notHandover] at ident src map lobe soak margin handover level
  obtain ⟨waiting, fades⟩ := Soak.begin_entered s.settings s.level
  refine ⟨ident, ?_, ?_, ?_, ?_, ?_, ?_, ?_, ?_, ?_, map, margin, handover⟩
  · have pattern : (beaconSet .off s.src).pattern = s.src.pattern := by
      unfold beaconSet
      split <;> rfl
    rw [src, Source.writePattern, Staged.write, pattern]
  · rw [soak]; exact waiting
  · rw [soak]; exact fades
  · exact fun idle => lobe.trans ((phaseLeft_lobe_confirm left).1 idle)
  · exact fun runs => lobe.trans ((phaseLeft_lobe_confirm left).2 runs)
  · rw [level]; split <;> rfl
  · rw [level]; split <;> rfl
  · intro align r
    rw [level, if_neg (by rw [align]; decide)]
    exact ByRole.get_map ..
  · intro soaked
    rw [level, if_pos (by rw [soaked]; rfl)]

theorem enqueueAll_append (st : Station) (a b : List FrameBody) (draws : Nat) (r : Route) :
    enqueueAll st (a ++ b) draws r = enqueueAll st b (enqueueAll st a draws r).1 (enqueueAll st a draws r).2 := by
  simp [enqueueAll, List.foldl_append]

/-- The start of a direction: the frame it queues, and the blocks it changes (R181). -/
theorem begun_queue (st : Station) (d : Direction) (x : State) :
    ((begun st d x).draws, (begun st d x).route) =
      enqueueAll st (if roleIn st.hopEnd d = .transmitting then [firstStep d] else []) x.draws x.route := by
  unfold begun
  dsimp only
  split <;> rfl

theorem begun_blocks {st : Station} {d : Direction} {x y : State} (margin : x.margin = y.margin) (src : x.src = y.src) :
    (begun st d x).margin = (begun st d y).margin ∧ (begun st d x).src = (begun st d y).src := by
  unfold begun
  dsimp only
  rw [margin]
  split
  · exact ⟨rfl, by rw [src]⟩
  · exact ⟨rfl, src⟩

theorem State.enterPhase_margin {t : State} (configured : s.station = some st)
    (after : t = s.enterPhase .margin cause id role settled)
    (legal : legalSuccessor s.settings.marginEnabled s.hop.phase .margin = true) :
    MarginEntered st s t ∧ EntryFramesQueued st s t := by
  obtain ⟨notHandover, -, -, -, -, fromConfirm, -⟩ := legalSuccessor_ends legal
  have notConfirm : s.hop.phase ≠ .confirm := fun left => absurd (fromConfirm left) (by decide)
  obtain ⟨y, y_eq⟩ : ∃ y, y = (phaseLeft .margin cause id settled s).identEntry false := ⟨_, rfl⟩
  have entered : (phaseLeft .margin cause id settled s).enterBlocks .margin id role =
      begun st .one (y.closeRunningSoak false) := by
    rw [y_eq]
    exact State.beginDirection_begun st .one _ (by simpa using configured)
  have yFacts : y.soak = s.soak ∧ y.margin = s.margin ∧ y.src = s.src ∧ y.station = some st ∧ y.settings = s.settings ∧
      y.time = s.time ∧ y.level = s.level ∧ y.draws = s.draws ∧ y.route = s.route.withdrawPropose ∧ y.map = s.map ∧
      y.lobe = s.lobe ∧ y.handover = s.handover ∧ y.ident = identCleared := by
    rw [y_eq]
    simp [phaseLeft_soak_same notHandover, phaseLeft_lobe_same notConfirm, phaseLeft_handover notHandover, configured]
    rfl
  obtain ⟨ySoak, yMargin, ySrc, yStation, ySettings, yTime, yLevel, yDraws, yRoute, yMap, yLobe, yHandover, yIdent⟩ := yFacts
  obtain ⟨⟨ident, src, map, lobe, soak, margin, handover, -⟩, -, told⟩ := State.enterPhase_enters rfl after
  obtain ⟨blocksMargin, blocksSrc⟩ := begun_blocks (st := st) (d := .one) (x := y.closeRunningSoak false) (y := s)
    (by simpa using yMargin) (by simpa using ySrc)
  rw [entered] at ident src map lobe soak margin handover told
  simp only [begun_frame, State.closeRunningSoak_frame] at ident map lobe soak handover told
  obtain ⟨idle, runs, queued⟩ := State.closeRunningSoak_soak (y := y) false yStation
  rw [← soak, ySoak] at idle runs
  refine ⟨⟨ident.trans yIdent, idle, fun busy => ?_, map.trans yMap, lobe.trans yLobe, handover.trans yHandover,
    margin.trans blocksMargin, src.trans blocksSrc⟩, ?_⟩
  · obtain ⟨closed, flag⟩ := runs busy
    exact ⟨closed.of ySettings (congrArg _ yTime) yLevel, told.flag flag⟩
  · subst after
    refine State.enterPhase_framesQueued configured ?_
    have phase : (s.enterPhase .margin cause id role settled).hop.phase = .margin := by simp [State.enterPhase_hop]; rfl
    have frames : entryFrames st s (s.enterPhase .margin cause id role settled) =
        closingFrames y (y.closeRunningSoak false).soak ++
          (if roleIn st.hopEnd .one = .transmitting then [firstStep .one] else []) := by
      rw [entryFrames, phase, soak, closingFrames, closingFrames, ySoak]
    dsimp only
    rw [frames, enqueueAll_append, ← yDraws, ← yRoute, ← queued, ← begun_queue, blocksEntered, entered]
    simp

/-- The blocks that only change themselves queue no frame of their own (R121, R129). -/
theorem State.enterPhase_quiet (configured : s.station = some st)
    (quiet : target = .beacon ∨ target = .sweep ∨ target = .confirm ∨ target = .soak) :
    EntryFramesQueued st s (s.enterPhase target cause id role settled) := by
  refine State.enterPhase_framesQueued configured ?_
  have phase : (s.enterPhase target cause id role settled).hop.phase = target := by rw [State.enterPhase_hop]; rfl
  dsimp only
  rw [entryFrames, phase]
  rcases quiet with rfl | rfl | rfl | rfl <;> simp [blocksEntered, State.enterBlocks, enqueueAll]

/-! ### HANDOVER -/

/-- HANDOVER entry before its DIGEST (R153, R157, R175, R188). -/
def handoverBegun (y : State) : State :=
  { (y.identEntry false).exitMargin with
    src := (y.identEntry false).exitMargin.src.writePattern false
    soak := { y.soak with digestTimer := some 60 } }

theorem State.enterHandover_eq (y : State) : y.enterHandover = ((handoverBegun y).sendDigest true).openHandover := by
  simp [State.enterHandover, handoverBegun]

/-- A record opened without a final partner digest stays PENDING (R199, R200). -/
theorem State.openHandover_pending {x : State} (configured : x.station = some st)
    (open_ : finalDigest x.soak.partnerDigest = false) :
    x.openHandover = { x with handover := some (x.handoverRecord st) } := by
  have kept : x.decideHandover (x.handoverRecord st) = { x with handover := some (x.handoverRecord st) } :=
    if_neg (Bool.eq_false_iff.mp open_)
  rw [← kept, State.openHandover]
  simp only [configured]

/-- A record opened with a final partner digest is decided at once (R199, R200). -/
theorem State.openHandover_decided {x : State} (configured : x.station = some st)
    (final : finalDigest x.soak.partnerDigest = true) :
    x.openHandover = x.setOverall (x.handoverRecord st) ((x.handoverRecord st).judge x.settings.diversity) := by
  rw [State.openHandover]
  simp only [configured]
  exact if_pos final

/-- The record opened at HANDOVER entry, the margin procedure having ended (R199). -/
def openedRecord (st : Station) (x : State) (m : Margin) : HandoverRecord :=
  { x.handoverRecord st with results := if x.settings.marginEnabled = true then some m.results else none }

theorem State.enterPhase_handover {t : State} (configured : s.station = some st)
    (after : t = s.enterPhase .handover cause id role settled)
    (legal : legalSuccessor s.settings.marginEnabled s.hop.phase .handover = true) :
    HandoverEntered st s t ∧ EntryFramesQueued st s t := by
  obtain ⟨notHandover, -, -, -, -, fromConfirm, -⟩ := legalSuccessor_ends legal
  have notConfirm : s.hop.phase ≠ .confirm := fun left => absurd (fromConfirm left) (by decide)
  obtain ⟨y, y_eq⟩ : ∃ y, y = phaseLeft .handover cause id settled s := ⟨_, rfl⟩
  have yFacts : y.soak = s.soak ∧ y.lobe = s.lobe ∧ y.station = some st := by
    rw [y_eq]
    simp [phaseLeft_soak_same notHandover, phaseLeft_lobe_same notConfirm, configured]
  obtain ⟨ySoak, yLobe, yStation⟩ := yFacts
  obtain ⟨yDraws, -, -, ySettings, -, -, -, yMap, yRoute, -, ySrc, yMargin⟩ :=
    y_eq ▸ phaseLeft_frame .handover cause id settled s
  obtain ⟨z, z_eq⟩ : ∃ z, z = handoverBegun y := ⟨_, rfl⟩
  have zFacts : z.soak = { s.soak with digestTimer := some 60 } ∧ z.lobe = s.lobe ∧ z.station = some st ∧
      z.settings = s.settings ∧ z.map = s.map ∧ z.ident = identCleared ∧ z.draws = s.draws ∧
      z.route = s.route.withdrawPropose := by
    rw [z_eq]
    simp [handoverBegun, ySoak, yLobe, yStation, ySettings, yMap, yDraws, yRoute]
    rfl
  obtain ⟨zSoak, zLobe, zStation, zSettings, zMap, zIdent, zDraws, zRoute⟩ := zFacts
  have zSrc : z.src = { s.src with
      atten := { live := 0, staged := 0, pending := false }
      pattern := { live := s.src.pattern.live, staged := false, pending := true } } := by
    rw [z_eq, handoverBegun, State.exitMargin_src, State.identEntry_frame _ _ |>.2.2.2.2.2.2.2.2.2.2.2.2.1, ySrc]
    rfl
  have zEnded : MarginEnded st s z :=
    (State.exitMargin_ended (s := y.identEntry false) (by simpa using yStation)).of (by simpa using yMargin)
      (by rw [z_eq, handoverBegun]) (Signalled.ofEq (by rw [z_eq, handoverBegun]))
  obtain ⟨w, w_eq⟩ : ∃ w, w = z.sendDigest true := ⟨_, rfl⟩
  have wQueued : w = { z with
      draws := (queuedFor st (.digest (digestShown true z.soak)) z.draws z.route).1
      route := (queuedFor st (.digest (digestShown true z.soak)) z.draws z.route).2 } :=
    w_eq.trans (State.send_queuedFor _ st z zStation)
  have entered : (phaseLeft .handover cause id settled s).enterBlocks .handover id role = w.openHandover := by
    rw [w_eq, z_eq, y_eq]
    exact State.enterHandover_eq _
  obtain ⟨⟨ident, src, map, lobe, soak, margin, handover, -⟩, -, told⟩ := State.enterPhase_enters rfl after
  rw [entered] at ident src map lobe soak margin handover told
  simp only [State.openHandover_frame] at ident src map lobe soak margin
  have wStation : w.station = some st := by rw [wQueued]; exact zStation
  have marginIs : t.margin = z.margin := by rw [margin, wQueued]
  have record : w.handoverRecord st = openedRecord st s t.margin := by
    rw [marginIs, wQueued, State.handoverRecord, openedRecord]
    simp only [queuedFor, Route.enqueue_clashes, zSoak, zLobe, zSettings, zRoute]
    rfl
  have wSoak : w.soak = { s.soak with digestTimer := some 60 } := by rw [wQueued]; exact zSoak
  have wSettings : w.settings = s.settings := by rw [wQueued]; exact zSettings
  refine ⟨⟨?_, ?_, ?_, ?_, ?_, ?_, fun open_ => ?_, fun d held final => ?_⟩, ?_⟩
  · rw [ident, wQueued]; exact zIdent
  · rw [map, wQueued]; exact zMap
  · rw [lobe, wQueued]; exact zLobe
  · rw [src, wQueued]; exact zSrc
  · rw [soak]; exact wSoak
  · exact zEnded.of rfl marginIs (Signalled.trans (Signalled.ofEq (by rw [wQueued])) ((State.openHandover_signalled w).trans told))
  · have pending : finalDigest w.soak.partnerDigest = false := by
      rw [wSoak]
      rcases Option.eq_none_or_eq_some s.soak.partnerDigest with none | ⟨d, held⟩
      · rw [none]; rfl
      · rw [held]; exact open_ d held
    rw [handover, State.openHandover_pending wStation pending, record]
    rfl
  · have decided : finalDigest w.soak.partnerDigest = true := by
      rw [wSoak, held]; exact final
    rw [State.openHandover_decided wStation decided, record, wSettings] at handover told
    refine ⟨_, handover, HandoverRecord.judge_cases _ _, HandoverRecord.judge_iff _ _, ?_⟩
    exact told.flag (State.event_mem_signal _ _)
  · subst after
    refine State.enterPhase_framesQueued configured ?_
    have phase : (s.enterPhase .handover cause id role settled).hop.phase = .handover := by
      rw [State.enterPhase_hop]
      rfl
    dsimp only
    rw [entryFrames, phase, blocksEntered, entered]
    simp only [State.switchProfile_frame, State.openHandover_frame, soak, wSoak]
    rw [wQueued, zSoak, zDraws, zRoute]
    rfl

/-- But for a SWEEP, an entry moves neither the position nor the steering (R7, R45). -/
theorem State.enterBlocks_still (legal : target ≠ .halted) (y : State) :
    (y.enterBlocks target id role).level =
        { y.level with steering := if target = .sweep then role else y.level.steering } ∧
      (target ≠ .sweep → (y.enterBlocks target id role).pos = y.pos) := by
  cases target <;> simp [State.enterBlocks, State.enterSweep] at legal ⊢

/-- A legal entry does what the table of section 8.1.1 asks for. -/
theorem State.enterPhase_runs {pid : ProposalId} (configured : s.station = some st)
    (legal : legalSuccessor s.settings.marginEnabled s.hop.phase target = true) :
    EntryRuns st pid role s (s.enterPhase target cause (some pid) role settled) := by
  obtain ⟨-, -, notIdle, notHalted, -, -, -⟩ := legalSuccessor_ends legal
  obtain ⟨t, after⟩ : ∃ t, t = s.enterPhase target cause (some pid) role settled := ⟨_, rfl⟩
  rw [← after]
  have hop : t.hop = s.hop.enter target cause (some pid) := after ▸ State.enterPhase_hop ..
  have phase : t.hop.phase = target := by rw [hop]; rfl
  obtain ⟨-, -, -, ident⟩ := State.enterPhase_signalled (cause := cause) (id := some pid) (role := role)
    (settled := settled) (s := s) notIdle
  obtain ⟨⟨-, -, -, -, -, -, -, pos⟩, level, -⟩ := State.enterPhase_enters rfl after
  obtain ⟨stillLevel, stillPos⟩ := State.enterBlocks_still (id := some pid) (role := role) notHalted
    (phaseLeft target cause (some pid) settled s)
  obtain ⟨-, -, -, -, sameLevel, -, samePos, -⟩ := phaseLeft_frame target cause (some pid) settled s
  have queued : EntryFramesQueued st s t := by
    cases target with
    | idle => exact absurd rfl notIdle
    | beacon => exact after ▸ State.enterPhase_quiet configured (.inl rfl)
    | sweep => exact after ▸ State.enterPhase_quiet configured (.inr (.inl rfl))
    | confirm => exact after ▸ State.enterPhase_quiet configured (.inr (.inr (.inl rfl)))
    | soak => exact after ▸ State.enterPhase_quiet configured (.inr (.inr (.inr rfl)))
    | margin => exact (State.enterPhase_margin configured after legal).2
    | handover => exact (State.enterPhase_handover configured after legal).2
    | halted => exact absurd rfl notHalted
  unfold EntryRuns
  rw [phase]
  refine ⟨?_, ?_, ?_, ?_, ?_, ?_, fun _ => after ▸ ident, fun stays => ?_, fun kept => ?_, queued⟩
  · rintro rfl
    exact State.enterPhase_beacon after legal
  · rintro rfl
    exact State.enterPhase_sweep after legal
  · rintro rfl
    exact State.enterPhase_confirm after legal
  · rintro rfl
    exact State.enterPhase_soak after legal
  · rintro rfl
    exact (State.enterPhase_margin configured after legal).1
  · rintro rfl
    exact (State.enterPhase_handover configured after legal).1
  · rw [pos, stillPos stays, samePos]
  · have profile : profileOf target s.hop.profile = s.hop.profile := by
      rw [hop] at kept
      exact kept
    rw [level, if_pos profile, stillLevel, sameLevel]

end

end Sys2Proof.Machine
end

section
/-! PROOFS. What the coordinator's frames from the partner turn on: the delivery, the entry under a proposal, the end of a
proposal, and the own proposal that a frame names (R111, R127, R133, R187). -/

namespace Sys2Proof.Machine

/-! ### The delivery (R111, R187) -/

theorem deliveryOf_station (f : Frame) (s : State) : (deliveryOf f s).station = s.station := by
  obtain ⟨header, body⟩ := f
  cases body with
  | mtest e b => cases e <;> simp [deliveryOf]
  | status b => simp [deliveryOf]
  | level b => rfl
  | propose b => simp [deliveryOf]
  | answer b => simp [deliveryOf]
  | verdict b => simp [deliveryOf]
  | digest b => simp [deliveryOf]

/-- A frame from the partner is delivered, and an ABORTED direction begins again after it. -/
theorem exec_receiveRow_delivered {st : Station} {f : Frame} {s : State} (h : Delivered st f.header s)
    (good : f.body.wellFormed = true) :
    exec (receiveRow f) s = .next (delivered st s (deliveryOf f (heardFrom f s))) := by
  obtain ⟨-, -, header, -⟩ := id h
  rw [exec_receiveRow_receive, State.receive_delivered h (Bool.and_eq_true_iff.mpr ⟨header, good⟩)
    (deliveryOf_station _ _)]

section

variable {target : Phase} {cause : EntryCause} {id : Option ProposalId} {role : Antenna} {settled : Bool}
  {s x : State} {st : Station}

/-! ### A change of phase, whatever the target -/

/-- A change of phase is an event, and keeps what was signalled (R127). -/
theorem State.enterPhase_told (target : Phase) (cause : EntryCause) (id : Option ProposalId) (role : Antenna)
    (settled : Bool) (s : State) :
    Signalled s.site (s.enterPhase target cause id role settled).site ∧
      EventFlag.phase ∈ (s.enterPhase target cause id role settled).site.flags := by
  by_cases idle : target = .idle
  · subst idle
    obtain ⟨-, -, -, -, -, -, -, -, -, -, site⟩ := State.enterPhase_blocks .idle cause id role settled s
    have blocks : (blocksEntered .idle cause id role settled s).site = (phaseLeft .idle cause id settled s).site := by
      simp [blocksEntered, State.enterBlocks]
    rw [site, blocks]
    exact ⟨phaseLeft_signalled.signal _, (Site.mem_signal_flags _ _ _).mpr (.inl rfl)⟩
  · obtain ⟨-, told, phase, -⟩ := State.enterPhase_signalled (target := target) (cause := cause) (id := id) (role := role)
      (settled := settled) (s := s) idle
    exact ⟨told, phase⟩

/-- No direction is ABORTED after a change of phase: direction 1 begins as MARGIN is entered (R181, R187). -/
theorem State.enterPhase_notAborted (configured : s.station = some st) :
    abortedDirection (s.enterPhase target cause id role settled) = none := by
  have phase : (s.enterPhase target cause id role settled).hop.phase = target := by rw [State.enterPhase_hop]; rfl
  by_cases inMargin : target = .margin
  · subst inMargin
    obtain ⟨⟨-, -, -, -, -, margin, -, -⟩, -, -⟩ := State.enterPhase_enters (target := .margin) (cause := cause) (id := id)
      (role := role) (settled := settled) (s := s) rfl rfl
    have entered : (phaseLeft .margin cause id settled s).enterBlocks .margin id role = begun st .one
        (((phaseLeft .margin cause id settled s).identEntry false).closeRunningSoak false) :=
      State.beginDirection_begun st .one _ (by simpa using configured)
    have active : ∀ y : State, (begun st .one y).margin.current = some .one ∧
        (begun st .one y).margin.states.get .one = .active := by
      intro y
      unfold begun
      dsimp only
      split <;> exact ⟨rfl, rfl⟩
    rw [entered] at margin
    unfold abortedDirection
    rw [margin, (active _).1]
    exact if_neg (by rw [(active _).2]; exact fun h => absurd h.2 (by decide))
  · exact abortedDirection_none (by rw [phase]; exact inMargin)

/-- After a change of phase no direction begins again. -/
theorem delivered_entered (configured : x.station = some st) :
    delivered st s (x.enterPhase target cause id role settled) = x.enterPhase target cause id role settled :=
  delivered_stays (State.enterPhase_notAborted configured)

/-! ### The end of a proposal (R132, R133, R140) -/

theorem State.closeProposal_eq (p : Proposal) (o : ProposalOutcome) (r : Option DeclineReason) (x : State) :
    x.closeProposal p o r =
      ({ x with
        hop :=
          { x.hop with
            outstanding := none, answerTimer := none
            autoTimer := if p.automatic then some 10000 else x.hop.autoTimer }
        route := { x.route with waiting := x.route.waiting.filter fun q => q.kind != FrameKind.propose } } : State).signal
        (.proposal p.number p.target o r) := by
  unfold State.closeProposal State.startAutoTimer
  cases p.automatic <;> rfl

/-! ### The own proposal that a frame names (R133, R139) -/

theorem Coordinator.outstandingMatch_some {c : Coordinator} {number : Nat} {p : Proposal} (made : c.outstanding = some p)
    (named : p.number = number ∧ p.target = target) : c.outstandingMatch number target = some p := by
  simp [Coordinator.outstandingMatch, made, Option.filter, named]

theorem Coordinator.ownMatch_outstanding {c : Coordinator} {number : Nat} {p : Proposal} (made : c.outstanding = some p)
    (named : p.number = number ∧ p.target = target) : c.ownMatch number target = some (p.role, true) := by
  simp [Coordinator.ownMatch, Coordinator.outstandingMatch_some made named]

theorem Coordinator.outstandingMatch_none {c : Coordinator} {number : Nat}
    (other : ∀ p, ¬ (c.outstanding = some p ∧ p.number = number ∧ p.target = target)) :
    c.outstandingMatch number target = none := by
  rcases made : c.outstanding with _ | p
  · rw [Coordinator.outstandingMatch, made]
    rfl
  · have differs := other p
    simp only [made, true_and, not_and] at differs
    simpa [Coordinator.outstandingMatch, made] using differs

theorem Coordinator.ownMatch_failed {c : Coordinator} {number : Nat} {p : FailedProposal}
    (other : ∀ p, ¬ (c.outstanding = some p ∧ p.number = number ∧ p.target = target)) (made : c.failed = some p)
    (named : p.number = number ∧ p.target = target) : c.ownMatch number target = some (p.role, false) := by
  have failed : c.failedMatch number target = some p := by simp [Coordinator.failedMatch, made, Option.filter, named]
  rw [Coordinator.ownMatch, Coordinator.outstandingMatch_none other]
  dsimp only
  rw [failed]

theorem Coordinator.ownMatch_none {c : Coordinator} {number : Nat}
    (other : ∀ p, ¬ (c.outstanding = some p ∧ p.number = number ∧ p.target = target))
    (otherFailed : ∀ p, ¬ (c.failed = some p ∧ p.number = number ∧ p.target = target)) :
    c.ownMatch number target = none := by
  have failed : c.failedMatch number target = none := by
    rcases made : c.failed with _ | p
    · rw [Coordinator.failedMatch, made]
      rfl
    · have differs := otherFailed p
      simp only [made, true_and, not_and] at differs
      simpa [Coordinator.failedMatch, made] using differs
  rw [Coordinator.ownMatch, Coordinator.outstandingMatch_none other]
  dsimp only
  rw [failed]

theorem Coordinator.ownMatch_some {c : Coordinator} {number : Nat}
    (either : (∃ p, c.outstanding = some p ∧ p.number = number ∧ p.target = target) ∨
      ∃ p, c.failed = some p ∧ p.number = number ∧ p.target = target) : ∃ m, c.ownMatch number target = some m := by
  by_cases made : ∃ p, c.outstanding = some p ∧ p.number = number ∧ p.target = target
  · obtain ⟨p, made, named⟩ := made
    exact ⟨_, Coordinator.ownMatch_outstanding made named⟩
  · obtain ⟨p, failed, named⟩ := either.resolve_left made
    exact ⟨_, Coordinator.ownMatch_failed (not_exists.mp made) failed named⟩

theorem State.enterMatched_matched {number : Nat} {m : Antenna × Bool} (named : s.hop.ownMatch number target = some m) :
    s.enterMatched number target cause = s.enterOwn number target m.1 cause m.2 := by
  rw [State.enterMatched, named]

theorem State.enterMatched_none {number : Nat} (none : s.hop.ownMatch number target = none) :
    s.enterMatched number target cause = s := by
  rw [State.enterMatched, none]

/-- The entry under an own proposal is told: PROPOSAL, then PHASE (R127, R133). -/
theorem State.enterOwn_told (number : Nat) (target : Phase) (role : Antenna) (cause : EntryCause) (settled : Bool)
    (s : State) :
    EventFlag.proposal ∈ (s.enterOwn number target role cause settled).site.flags ∧
      EventFlag.phase ∈ (s.enterOwn number target role cause settled).site.flags ∧
      (s.enterOwn number target role cause settled).hop =
        s.hop.enter target cause (some { proposer := s.ownNumber, number := number }) := by
  obtain ⟨told, phase⟩ := State.enterPhase_told target cause (some { proposer := s.ownNumber, number := number }) role
    settled (s.signalProposal number target .accepted none)
  exact ⟨told.flag (State.event_mem_signal _ _), phase, State.enterPhase_hop ..⟩

/-! ### Halts by the partner (R142) -/

theorem State.partnerHalt_acts (running : s.hop.phase ≠ .idle ∧ s.hop.phase ≠ .halted) :
    s.partnerHalt = s.halt .partner := by
  refine if_pos ((State.phaseIn_iff _ _).mpr ?_)
  obtain ⟨notIdle, notHalted⟩ := running
  revert notIdle notHalted
  cases s.hop.phase <;> simp

theorem State.partnerHalt_ignored (still : s.hop.phase = .idle ∨ s.hop.phase = .halted) : s.partnerHalt = s := by
  refine if_neg (mt (State.phaseIn_iff _ _).mp ?_)
  rcases still with still | still <;> simp [still]

end

end Sys2Proof.Machine
end

section
/-! PROOFS. The partner's ANSWER (R133, R140, R142). -/

namespace Sys2Proof.Machine

section

variable {b : AnswerBody} {x : State} {st : Station}

theorem State.takeAnswer_halted (halts : b.accept = false ∧ b.reason = some .halted) :
    x.takeAnswer b = x.partnerHalt := if_pos halts

theorem State.takeAnswer_other (halts : ¬ (b.accept = false ∧ b.reason = some .halted))
    (other : b.proposer ≠ x.ownNumber) : x.takeAnswer b = x := by
  rw [State.takeAnswer, if_neg halts, if_pos other]

theorem State.takeAnswer_accept (accept : b.accept = true) (own : b.proposer = x.ownNumber) :
    x.takeAnswer b = x.enterMatched b.number b.target .answered := by
  rw [State.takeAnswer, if_neg (fun halts => absurd (accept.symm.trans halts.1) (by decide)), if_neg (Classical.not_not.mpr own),
    if_pos accept]

theorem State.takeAnswer_decline (declined : b.accept = false) (halts : ¬ (b.accept = false ∧ b.reason = some .halted))
    (own : b.proposer = x.ownNumber) : x.takeAnswer b = x.takeDecline b := by
  rw [State.takeAnswer, if_neg halts, if_neg (Classical.not_not.mpr own), if_neg (by rw [declined]; decide)]

/-- A decline of the outstanding proposal ends it (R133; log 42). -/
theorem State.takeDecline_matched {p : Proposal} (made : x.hop.outstanding = some p)
    (named : p.number = b.number ∧ p.target = b.target) :
    x.takeDecline b =
      if b.reason = some .crossed then x.closeProposal p .withdrawn none else x.closeProposal p .declined b.reason := by
  rw [State.takeDecline, Coordinator.outstandingMatch_some made named]

theorem State.takeDecline_none
    (other : ∀ p, ¬ (x.hop.outstanding = some p ∧ p.number = b.number ∧ p.target = b.target)) : x.takeDecline b = x := by
  rw [State.takeDecline, Coordinator.outstandingMatch_none other]

end

end Sys2Proof.Machine

namespace Sys2Proof.Proofs

open Sys2Proof Sys2Proof.Machine

/-- Settles O40: the delivery, and the table of R133 row by row. -/
theorem answerIsTaken : Obligations.AnswerIsTaken := by
  intro st h b s here good u haltedReason own outstanding failed id
  have configured : s.station = some st := And.left here
  obtain ⟨t, t_eq⟩ : ∃ t, t = delivered st s (u.takeAnswer b) := ⟨_, rfl⟩
  have taken : exec (.receiveAnswer h b) s = .next t :=
    t_eq ▸ exec_receiveRow_delivered (f := { header := h, body := .answer b }) here good
  have uFrame : u.pending = s.pending ∧ u.station = s.station ∧ u.settings = s.settings ∧ u.time = s.time ∧
      u.cue = s.cue ∧ u.chk = s.chk ∧ u.supply = s.supply ∧ u.level = s.level ∧ u.ident = s.ident ∧ u.pos = s.pos ∧
      u.map = s.map ∧ u.lobe = s.lobe ∧ u.soak = s.soak ∧ u.hop = s.hop := by
    simp [u]
  clear_value u
  have uHop : u.hop = s.hop := by simp [uFrame]
  have uStation : u.station = some st := by simp [uFrame, configured]
  have uOwn : u.ownNumber = st.number := by simp [State.ownNumber, uStation]
  have halts : haltedReason → s.hop.phase ≠ .idle → s.hop.phase ≠ .halted → t = u.halt .partner := by
    intro reason notIdle notHalted
    rw [t_eq, State.takeAnswer_halted reason, State.partnerHalt_acts (by rw [uHop]; exact ⟨notIdle, notHalted⟩)]
    exact delivered_entered uStation
  have still : haltedReason → s.hop.phase = .idle ∨ s.hop.phase = .halted → t = delivered st s u := by
    intro reason quiet
    rw [t_eq, State.takeAnswer_halted reason, State.partnerHalt_ignored (by rw [uHop]; exact quiet)]
  have enters : ∀ m, b.accept = true → own → s.hop.ownMatch b.number b.target = some m →
      t = u.enterOwn b.number b.target m.1 .answered m.2 := by
    intro m accept mine named
    rw [t_eq, State.takeAnswer_accept accept (by rw [uOwn]; exact mine),
      State.enterMatched_matched (by rw [uHop]; exact named)]
    exact delivered_entered uStation
  have ends : ∀ p, b.accept = false → ¬ haltedReason → own → outstanding p →
      t = delivered st s (if b.reason = some .crossed then u.closeProposal p .withdrawn none
        else u.closeProposal p .declined b.reason) := by
    intro p decline noHalt mine made
    obtain ⟨made, named⟩ := made
    rw [t_eq, State.takeAnswer_decline decline noHalt (by rw [uOwn]; exact mine),
      State.takeDecline_matched (by rw [uHop]; exact made) named]
  have ignores : ¬ haltedReason → ¬ own ∨ (b.accept = true ∧ ¬ (∃ p, outstanding p) ∧ ¬ ∃ p, failed p) ∨
      (b.accept = false ∧ ¬ ∃ p, outstanding p) → t = delivered st s u := by
    intro noHalt why
    rw [t_eq]
    by_cases mine : own
    · rcases why with other | ⟨accept, noneMade, noneFailed⟩ | ⟨decline, noneMade⟩
      · exact absurd mine other
      · rw [State.takeAnswer_accept accept (by rw [uOwn]; exact mine), State.enterMatched_none]
        rw [uHop]
        exact Coordinator.ownMatch_none (not_exists.mp noneMade) (not_exists.mp noneFailed)
      · rw [State.takeAnswer_decline decline noHalt (by rw [uOwn]; exact mine), State.takeDecline_none]
        rw [uHop]
        exact not_exists.mp noneMade
    · rw [State.takeAnswer_other noHalt (by rw [uOwn]; exact mine)]
  have named : (∃ p, outstanding p) ∨ (∃ p, failed p) → ∃ m, s.hop.ownMatch b.number b.target = some m :=
    Coordinator.ownMatch_some
  have ownHop : ∀ m : Antenna × Bool, t = u.enterOwn b.number b.target m.1 .answered m.2 →
      t.hop = s.hop.enter b.target .answered (some id) ∧ EventFlag.proposal ∈ t.site.flags ∧
        EventFlag.phase ∈ t.site.flags := by
    rintro m rfl
    obtain ⟨proposal, phase, hop⟩ := State.enterOwn_told b.number b.target m.1 .answered m.2 u
    exact ⟨hop.trans (by rw [uHop, uOwn]), proposal, phase⟩
  have runs : ∀ role settled, t = u.enterOwn b.number b.target role .answered settled →
      (HopSound s → MayEnter s b.target) →
      let y := u.signal (.proposal b.number b.target .accepted none)
      t = y.enterPhase b.target .answered (some id) role settled ∧ (HopSound s → EntryRuns st id role y t) := by
    intro role settled own_ may y
    have entered : t = y.enterPhase b.target .answered (some id) role settled := by
      rw [own_, State.enterOwn, uOwn]
      rfl
    refine ⟨entered, fun sound => entered ▸ State.enterPhase_runs (by simpa [y] using uStation) ?_⟩
    obtain ⟨legal, -⟩ := may sound
    simpa [y, uFrame] using legal
  refine ⟨t, taken, ?_, ?_, ?_, ?_, ?_, ?_, ?_, ?_, ?_, ⟨?_, ?_⟩, ?_, still, ?_, ?_⟩
  iterate 7 · rw [t_eq]; simp [uFrame]
  · intro samePhase otherTarget
    by_cases reason : haltedReason
    · by_cases running : s.hop.phase ≠ .idle ∧ s.hop.phase ≠ .halted
      · rw [halts reason running.1 running.2, State.halt, State.enterPhase_hop] at samePhase
        exact absurd samePhase.symm running.2
      · have quiet : s.hop.phase = .idle ∨ s.hop.phase = .halted := by
          refine Classical.byContradiction fun both => ?_
          exact running (not_or.mp both)
        rw [still reason quiet]
        simp [uFrame]
    · by_cases acts : own ∧ ((∃ p, outstanding p) ∨ (b.accept = true ∧ ∃ p, failed p))
      · obtain ⟨mine, either⟩ := acts
        by_cases accept : b.accept = true
        · obtain ⟨m, matched⟩ := named (either.imp_right And.right)
          obtain ⟨hop, -, -⟩ := ownHop m (enters m accept mine matched)
          rw [hop] at samePhase
          exact absurd samePhase otherTarget
        · obtain ⟨p, made⟩ := either.resolve_right fun failed_ => accept failed_.1
          rw [ends p (Bool.eq_false_iff.mpr accept) reason mine made]
          split <;> simp [uFrame]
      · have why : ¬ own ∨ (b.accept = true ∧ ¬ (∃ p, outstanding p) ∧ ¬ ∃ p, failed p) ∨
            (b.accept = false ∧ ¬ ∃ p, outstanding p) := by
          by_cases mine : own
          · obtain ⟨noneMade, noneFailed⟩ := not_or.mp (not_and.mp acts mine)
            by_cases accept : b.accept = true
            · exact .inr (.inl ⟨accept, noneMade, not_and.mp noneFailed accept⟩)
            · exact .inr (.inr ⟨Bool.eq_false_iff.mpr accept, noneMade⟩)
          · exact .inl mine
        rw [ignores reason why]
        simp [uFrame]
  · intro accept mine either
    obtain ⟨m, matched⟩ := named either
    obtain ⟨hop, proposal, phase⟩ := ownHop m (enters m accept mine matched)
    rw [hop]
    exact ⟨rfl, rfl, rfl, rfl, rfl, proposal, phase⟩
  · intro p accept mine made
    obtain ⟨made, called⟩ := made
    exact runs p.role true (enters (p.role, true) accept mine (Coordinator.ownMatch_outstanding made called))
      fun sound => called.2 ▸ sound.2.1 p made
  · intro p accept mine none made
    obtain ⟨made, called⟩ := made
    exact runs p.role false (enters (p.role, false) accept mine (Coordinator.ownMatch_failed none made called))
      fun sound => called.2 ▸ sound.2.2.1 p made
  · intro reason notIdle notHalted
    rw [halts reason notIdle notHalted]
    exact (State.halt_entered uStation .partner).1
  · intro p decline noHalt mine made
    have ended := ends p decline noHalt mine made
    simp only [State.closeProposal_eq, uHop] at ended
    refine ⟨?_, fun crossed => ?_, fun other => ?_⟩
    · rw [ended]
      split <;> simp
    · rw [ended, if_pos crossed]
    · rw [ended, if_neg other]
  · intro noHalt why
    have ignored := ignores noHalt why
    exact ⟨by rw [ignored]; simp [uHop], ignored⟩

end Sys2Proof.Proofs
end

section
/-! PROOFS. The partner's PROPOSE (R112, R127 to R129, R134 to R138). -/

namespace Sys2Proof.Machine

/-! ### What the head hears of a delivered frame (R112) -/

theorem begun_hearing (st : Station) (d : Direction) (x : State) : hearing (begun st d x).route = hearing x.route := by
  unfold begun
  dsimp only
  split
  · exact Route.enqueue_hearing ..
  · rfl

theorem delivered_hearing (st : Station) (s x : State) : hearing (delivered st s x).route = hearing x.route := by
  unfold delivered
  split
  · split
    · rfl
    · exact begun_hearing ..
  · rfl

theorem conflict_of_hearing {r q : Route} (same : hearing r = hearing q) : r.conflict = q.conflict :=
  congrArg (fun h => h.2.2.1) same

/-- A partner's frame tells the ends conflict (R112). -/
theorem heardFrom_conflict {st : Station} {f : Frame} {s : State} (configured : s.station = some st)
    (source : f.header.source = st.partner) :
    ((heardFrom f s).route.conflict = true ↔ f.header.hopEnd = st.hopEnd ∨ f.header.hop ≠ st.hop) ∧
      (heardFrom f s).route.partner = .live := by
  have heard : hearing (heardFrom f s).route = hearing (heardRoute st f s) := by
    rw [heardFrom_live configured source, State.updateLevelCondition_hearing]
    rfl
  obtain ⟨hop, hopEnd, -, -⟩ : (entryAfter s.time.now f s.route).hop = f.header.hop ∧
      (entryAfter s.time.now f s.route).hopEnd = f.header.hopEnd ∧ _ := RosterEntry.take_heard ..
  rw [conflict_of_hearing heard, heardRoute]
  refine ⟨?_, congrArg (fun h => h.2.1) heard⟩
  rw [conflicts_iff, hop, hopEnd]

/-! ### Answers and evaluations (R134 to R136) -/

section

variable {st : Station} {x y : State} {b : ProposeBody} {proposer : Nat}

theorem State.answer_eq (a : AnsweredRecord) (configured : x.station = some st) : x.answer a = answered st a x := by
  rw [State.answer, State.sendAnswer, State.send_queuedFor _ st x configured]
  rfl

/-- An ANSWER sent again leaves the coordinator as it stands (R134). -/
theorem State.sendAnswer_eq (a : AnsweredRecord) (configured : x.station = some st) :
    x.sendAnswer a = { answered st a x with hop := x.hop } := by
  rw [State.sendAnswer, State.send_queuedFor _ st x configured]
  rfl

@[simp] theorem answered_frame (st : Station) (a : AnsweredRecord) (x : State) :
    (answered st a x).pending = x.pending ∧ (answered st a x).time = x.time ∧ (answered st a x).station = x.station ∧
      (answered st a x).settings = x.settings ∧ (answered st a x).level = x.level ∧ (answered st a x).ident = x.ident ∧
      (answered st a x).pos = x.pos ∧ (answered st a x).map = x.map ∧ (answered st a x).lobe = x.lobe ∧
      (answered st a x).cue = x.cue ∧ (answered st a x).src = x.src ∧ (answered st a x).chk = x.chk ∧
      (answered st a x).soak = x.soak ∧ (answered st a x).margin = x.margin ∧
      (answered st a x).handover = x.handover ∧ (answered st a x).site = x.site ∧
      (answered st a x).supply = x.supply ∧ (answered st a x).hop = { x.hop with lastAnswered := some a } :=
  ⟨rfl, rfl, rfl, rfl, rfl, rfl, rfl, rfl, rfl, rfl, rfl, rfl, rfl, rfl, rfl, rfl, rfl, rfl⟩

/-- An evaluation depends on the phase, the map's visits, the confirmed set, the soak and the results (R135). -/
theorem State.precondition_congr {target : Phase} (settings : x.settings = y.settings) (phase : x.hop.phase = y.hop.phase)
    (map : x.map = y.map) (lobe : x.lobe = y.lobe) (soak : x.soak = y.soak)
    (results : x.margin.results = y.margin.results) : x.precondition target = y.precondition target := by
  unfold State.precondition Margin.bothDone Margin.doneAt
  rw [settings, phase, map, lobe, soak, results]

theorem State.evaluate_congr {target : Phase} {role : Antenna} (settings : x.settings = y.settings)
    (phase : x.hop.phase = y.hop.phase) (map : x.map = y.map) (lobe : x.lobe = y.lobe) (soak : x.soak = y.soak)
    (results : x.margin.results = y.margin.results) : x.evaluate target role = y.evaluate target role := by
  unfold State.evaluate
  rw [State.precondition_congr settings phase map lobe soak results, settings, phase]

theorem State.evaluate_heardFrom (f : Frame) (target : Phase) (role : Antenna) (s : State) :
    (heardFrom f s).evaluate target role = s.evaluate target role :=
  State.evaluate_congr (by simp) (by simp) (by simp) (by simp) (by simp) (by rw [heardFrom_margin])

/-- The checks of R135 in their order. -/
theorem State.evaluate_halted {target : Phase} {role : Antenna} (halted : x.hop.phase = .halted) :
    x.evaluate target role = some .halted := if_pos halted

theorem State.evaluate_illegal {target : Phase} {role : Antenna} (acts : x.hop.phase ≠ .halted)
    (illegal : ¬ legalSuccessor x.settings.marginEnabled x.hop.phase target = true ∨
      (target = .sweep ∧ role = .div ∧ x.settings.diversity = false)) : x.evaluate target role = some .notLegal := by
  rw [State.evaluate, if_neg acts]
  by_cases legal : legalSuccessor x.settings.marginEnabled x.hop.phase target = true
  · rw [if_neg (by simp [legal]), if_pos (illegal.resolve_left (Classical.not_not.mpr legal))]
  · rw [if_pos (by simpa using legal)]

theorem State.evaluate_checked {target : Phase} {role : Antenna} (acts : x.hop.phase ≠ .halted)
    (legal : legalSuccessor x.settings.marginEnabled x.hop.phase target = true)
    (fitted : ¬ (target = .sweep ∧ role = .div ∧ x.settings.diversity = false)) :
    x.evaluate target role = x.precondition target := by
  rw [State.evaluate, if_neg acts, if_neg (by simp [legal]), if_neg fitted]

/-! ### The ways a PROPOSE goes (R134) -/

theorem State.takePropose_conflict (conflict : x.route.conflict = true) :
    x.takePropose proposer b = { x with hop := { x.hop with ignored := satInc 255 x.hop.ignored } } := if_pos conflict

theorem duplicates_some {a : AnsweredRecord} {r : Option AnsweredRecord}
    (repeated : r = some a ∧ a.proposer = proposer ∧ a.number = b.number ∧ a.target = b.target) :
    duplicates proposer b r = some a := by
  obtain ⟨rfl, same⟩ := repeated
  exact if_pos same

theorem duplicates_none {r : Option AnsweredRecord}
    (fresh : ¬ ∃ a, r = some a ∧ a.proposer = proposer ∧ a.number = b.number ∧ a.target = b.target) :
    duplicates proposer b r = none := by
  rcases r with _ | a
  · rfl
  · exact if_neg fun same => fresh ⟨a, rfl, same⟩

theorem State.takePropose_duplicate {a : AnsweredRecord} (clear : ¬ x.route.conflict = true)
    (repeated : duplicates proposer b x.hop.lastAnswered = some a) :
    x.takePropose proposer b = x.sendAnswer a := by
  rw [State.takePropose, if_neg clear, repeated]

theorem State.takePropose_free (clear : ¬ x.route.conflict = true)
    (fresh : duplicates proposer b x.hop.lastAnswered = none) (free : x.hop.outstanding = none) :
    x.takePropose proposer b = x.evaluateAndAnswer proposer b := by
  rw [State.takePropose, if_neg clear, fresh, free]

theorem State.takePropose_crosses {p : Proposal} (clear : ¬ x.route.conflict = true)
    (fresh : duplicates proposer b x.hop.lastAnswered = none) (made : x.hop.outstanding = some p) :
    x.takePropose proposer b = x.cross proposer b p := by
  rw [State.takePropose, if_neg clear, fresh, made]

theorem State.evaluateAndAnswer_declines {r : DeclineReason} (configured : x.station = some st)
    (verdict : x.evaluate b.target b.role = some r) :
    x.evaluateAndAnswer proposer b = answered st (declineRecord proposer b r) x := by
  rw [State.evaluateAndAnswer, verdict, ← State.answer_eq _ configured]

theorem State.evaluateAndAnswer_accepts (verdict : x.evaluate b.target b.role = none) :
    x.evaluateAndAnswer proposer b = x.acceptProposal proposer b false := by
  rw [State.evaluateAndAnswer, verdict]

/-- The acceptance of a proposal that may be entered: its ANSWER, then the phase (R127, R136). -/
theorem State.acceptProposal_entered {settled : Bool} (configured : x.station = some st)
    (legal : legalSuccessor x.settings.marginEnabled x.hop.phase b.target = true) :
    let record : AnsweredRecord := Machine.acceptRecord proposer b
    let id : ProposalId := { proposer := proposer, number := b.number }
    let t := x.acceptProposal proposer b settled
    t = (answered st record x).enterPhase b.target .accepted (some id) b.role settled ∧
      EntryRuns st id b.role (answered st record x) t ∧
      t.hop = ({ x.hop with lastAnswered := some record } : Coordinator).enter b.target .accepted (some id) ∧
      Signalled x.site t.site ∧ EventFlag.phase ∈ t.site.flags := by
  intro record id t
  have entered : t = (answered st record x).enterPhase b.target .accepted (some id) b.role settled := by
    rw [← State.answer_eq record configured]
    rfl
  obtain ⟨told, phase⟩ := State.enterPhase_told b.target .accepted (some id) b.role settled (answered st record x)
  rw [← entered] at told phase
  refine ⟨entered, entered ▸ State.enterPhase_runs configured legal, ?_, told, phase⟩
  rw [entered, State.enterPhase_hop]
  rfl

end

end Sys2Proof.Machine

end

section
/-! PROOFS. The partner's PROPOSE: with no own proposal outstanding, and the entry of SWEEP (R7, R24, R45, R51, R71, R112,
R127 to R129, R134 to R136, R150). -/

namespace Sys2Proof.Machine

theorem nextSerial_eq (n : Nat) : nextSerial n = if 65535 ≤ n then 0 else n + 1 := rfl

/-- The profile of a phase that a proposal can name (R128). -/
theorem profileOf_eq {target : Phase} (notHalted : target ≠ .halted) (p : Profile) :
    profileOf target p =
      if target = .soak ∨ target = .margin ∨ target = .handover then Profile.soak else Profile.align := by
  cases target <;> simp [profileOf] at notHalted ⊢

end Sys2Proof.Machine

namespace Sys2Proof.Proofs

open Sys2Proof Sys2Proof.Machine

/-- Settles O37: the delivery, then the ways of R134 and the checks of R135 one after another. -/
theorem proposalIsAnswered : Obligations.ProposalIsAnswered := by
  intro st h b s here good frame u conflict repeated duplicate free record declined
  obtain ⟨configured, -, -, source, -⟩ := And.intro here.1 here.2
  obtain ⟨t, t_eq⟩ : ∃ t, t = delivered st s (u.takePropose h.source b) := ⟨_, rfl⟩
  have taken : exec (.receivePropose h b) s = .next t :=
    t_eq ▸ exec_receiveRow_delivered (f := frame) here good
  obtain ⟨heardConflict, -⟩ := heardFrom_conflict (f := frame) configured source
  have verdict : u.evaluate b.target b.role = s.evaluate b.target b.role := State.evaluate_heardFrom ..
  have uFrame : u.pending = s.pending ∧ u.station = s.station ∧ u.settings = s.settings ∧ u.time = s.time ∧
      u.cue = s.cue ∧ u.chk = s.chk ∧ u.supply = s.supply ∧ u.level = s.level ∧ u.ident = s.ident ∧ u.pos = s.pos ∧
      u.map = s.map ∧ u.lobe = s.lobe ∧ u.soak = s.soak ∧ u.hop = s.hop := by
    simp [u]
  change u.route.conflict = true ↔ conflict at heardConflict
  clear_value u
  have uHop : u.hop = s.hop := by simp [uFrame]
  have uStation : u.station = some st := by simp [uFrame, configured]
  have conflicting : conflict → t = delivered st s { u with hop := { s.hop with ignored := min 255 (s.hop.ignored + 1) } } := by
    intro clash
    rw [t_eq, State.takePropose_conflict (heardConflict.mpr clash), satInc_eq, uHop]
  have repeats : ∀ a, ¬ conflict → repeated a → t = delivered st s { answered st a u with hop := s.hop } := by
    intro a clear again
    rw [t_eq, State.takePropose_duplicate (mt heardConflict.mp clear) (duplicates_some (by rw [uHop]; exact again)),
      State.sendAnswer_eq a uStation, uHop]
  have evaluates : ¬ conflict → ¬ duplicate → t = delivered st s (u.evaluateAndAnswer h.source b) := by
    intro clear fresh
    rw [t_eq, State.takePropose_free (mt heardConflict.mp clear) (duplicates_none (by rw [uHop]; exact fresh))
      (by rw [uHop]; exact free clear fresh)]
  have declines : ∀ r, ¬ conflict → ¬ duplicate → s.evaluate b.target b.role = some r → declined r t := by
    intro r clear fresh reason
    have answer : t = delivered st s (answered st (record (some r)) u) := by
      rw [evaluates clear fresh, State.evaluateAndAnswer_declines uStation (verdict.trans reason)]
      rfl
    refine ⟨answer, ?_⟩
    rw [answer]
    simp [uHop]
  have accepts : ¬ conflict → ¬ duplicate → s.evaluate b.target b.role = none →
      t = u.acceptProposal h.source b false := by
    intro clear fresh fine
    rw [evaluates clear fresh, State.evaluateAndAnswer_accepts (verdict.trans fine)]
    exact delivered_entered (by simpa using uStation)
  have runs : s.evaluate b.target b.role = none →
      legalSuccessor u.settings.marginEnabled u.hop.phase b.target = true := by
    intro fine
    rw [uHop]
    simpa [uFrame] using (State.evaluate_none fine).1
  refine ⟨t, taken, ?_, ?_, ?_, ?_, ?_, ?_, ?_, ?_, ?_, ?_, ?_, ?_⟩
  iterate 7 · rw [t_eq]; simp [uFrame]
  · intro samePhase
    by_cases clash : conflict
    · rw [conflicting clash]
      simp [uFrame]
    · by_cases again : duplicate
      · obtain ⟨a, again⟩ := again
        rw [repeats a clash again]
        simp [uFrame]
      · rcases verdict_ : s.evaluate b.target b.role with _ | r
        · obtain ⟨-, -, hop, -⟩ := State.acceptProposal_entered (settled := false) (proposer := h.source) uStation
            (runs verdict_)
          obtain ⟨-, -, -, -, moves, -⟩ := legalSuccessor_ends (State.evaluate_none verdict_).1
          rw [accepts clash again verdict_, hop] at samePhase
          exact absurd samePhase.symm moves
        · rw [(declines r clash again verdict_).1]
          simp [uFrame]
  · intro clash
    refine ⟨conflicting clash, by rw [conflicting clash]; simp, ?_⟩
    rw [conflicting clash, conflict_of_hearing (delivered_hearing ..)]
    exact heardConflict.mpr clash
  · intro a clear again
    exact ⟨by rw [repeats a clear again]; simp, repeats a clear again⟩
  · exact fun clear fresh halted => declines _ clear fresh (State.evaluate_halted halted)
  · intro clear fresh acts legal noDiv
    refine ⟨fun illegal => declines _ clear fresh (State.evaluate_illegal acts illegal), fun r allowed fitted fails => ?_,
      fun allowed fitted passes => ?_⟩
    · exact declines _ clear fresh ((State.evaluate_checked acts allowed fitted).trans fails)
    · have fine := (State.evaluate_checked acts allowed fitted).trans passes
      obtain ⟨entered, blocks, hop, -, phase⟩ := State.acceptProposal_entered (settled := false) (proposer := h.source)
        uStation (runs fine)
      obtain ⟨-, -, -, notHalted, -⟩ := legalSuccessor_ends (State.evaluate_none fine).1
      rw [← accepts clear fresh fine] at entered blocks hop phase
      rw [hop, uHop]
      exact ⟨entered, blocks, rfl, rfl, rfl, rfl, rfl, profileOf_eq notHalted _, rfl, phase⟩

/-- Settles O39: `proposalIsAnswered` names the entry, and SWEEP's row of the table gives the rest. -/
theorem sweepEntryStartsTheMap : Obligations.SweepEntryStartsTheMap := by
  intro st h b s here good free otherEnd sameHop fresh sweep from_ fitted
  have clear : ¬ (h.hopEnd = st.hopEnd ∨ h.hop ≠ st.hop) := by simp [otherEnd, sameHop]
  have acts : s.hop.phase ≠ .halted := by rcases from_ with phase | phase <;> simp [phase]
  have legal : legalSuccessor s.settings.marginEnabled s.hop.phase b.target = true := by
    rw [sweep]
    rcases from_ with phase | phase <;> rw [phase] <;> rfl
  obtain ⟨t, taken, pending, station, settings, time, cue, chk, supply, -, -, -, -, evaluated⟩ :=
    proposalIsAnswered st h b s here good fun _ _ => free
  obtain ⟨-, -, accepts⟩ := evaluated clear fresh acts
  obtain ⟨-, blocks, phase, -⟩ := accepts legal
    (fun noDiv => absurd ((fitted noDiv.2.1).symm.trans noDiv.2.2) (by decide)) (by rw [sweep]; rfl)
  have inSweep := phase.trans sweep
  obtain ⟨-, entered, -⟩ := blocks
  obtain ⟨map, -, steering, axes, snapshot, ident, src, lobe, -, -, soak, -, -⟩ := entered inSweep
  simp only [answered_frame, heardFrom_frame] at axes src lobe soak
  refine ⟨t, taken, inSweep, map, steering, fun x => ?_, snapshot, ident, ?_⟩
  · rw [axes x]
    exact ⟨rfl, rfl, rfl⟩
  · refine ⟨?_, ?_, ?_, ?_, ?_, ?_, ?_, ?_, pending, station, settings, time, cue, chk, supply, soak, fun other => ?_,
      fun same => ?_⟩
    iterate 8 · rw [lobe]
    · rw [src, beaconSet, if_neg other]
      exact ⟨rfl, rfl, rfl⟩
    · rw [src, beaconSet, if_pos same]

end Sys2Proof.Proofs
end

section
/-! PROOFS. Crossing proposals (R133, R137, R138, R140). -/

namespace Sys2Proof.Machine

section

variable {st : Station} {x : State} {b : ProposeBody} {p : Proposal} {proposer : Nat}

theorem alike_iff (p : Proposal) (b : ProposeBody) :
    alike p b = true ↔ p.target = b.target ∧ b.target ≠ .confirm ∧ (b.target ≠ .sweep ∨ p.role = b.role) := by
  simp [alike, and_assoc]

/-- An alike proposal that is accepted is joined (R138). -/
theorem State.cross_joins (same : alike p b = true) (fine : x.evaluate b.target b.role = none) :
    x.cross proposer b p = (x.signal (.proposal p.number p.target .joined none)).acceptProposal proposer b true := by
  rw [State.cross, if_pos same, State.joinAlike, fine]
  rfl

theorem State.cross_declinesAlike {r : DeclineReason} (configured : x.station = some st) (same : alike p b = true)
    (reason : x.evaluate b.target b.role = some r) :
    x.cross proposer b p = answered st (declineRecord proposer b r) x := by
  rw [State.cross, if_pos same, State.joinAlike, reason, ← State.answer_eq _ configured]

/-- The lower station number's proposal stands (R137). -/
theorem State.cross_stands (configured : x.station = some st) (other : ¬ alike p b = true)
    (lower : st.number < proposer) : x.cross proposer b p = answered st (declineRecord proposer b .crossed) x := by
  have own : x.ownNumber = st.number := by simp [State.ownNumber, configured]
  rw [State.cross, if_neg other, own, if_pos lower, ← State.answer_eq _ configured]

theorem State.cross_withdraws (configured : x.station = some st) (other : ¬ alike p b = true)
    (higher : proposer < st.number) :
    x.cross proposer b p = (x.closeProposal p .withdrawn none).evaluateAndAnswer proposer b := by
  have own : x.ownNumber = st.number := by simp [State.ownNumber, configured]
  rw [State.cross, if_neg other, own, if_neg (by omega)]

end

end Sys2Proof.Machine

namespace Sys2Proof.Proofs

open Sys2Proof Sys2Proof.Machine

/-- Settles O38: the four ways of crossing proposals, each with the evaluation of R135. -/
theorem proposalsCross : Obligations.ProposalsCross := by
  intro st h b p s here good made otherEnd sameHop fresh frame u same verdict id record withdrawn
  obtain ⟨configured, -, -, source, foreign, -⟩ := And.intro here.1 here.2
  obtain ⟨t, t_eq⟩ : ∃ t, t = delivered st s (u.takePropose h.source b) := ⟨_, rfl⟩
  have taken : exec (.receivePropose h b) s = .next t :=
    t_eq ▸ exec_receiveRow_delivered (f := frame) here good
  obtain ⟨heardConflict, -⟩ := heardFrom_conflict (f := frame) configured source
  have clear : ¬ u.route.conflict = true := mt heardConflict.mp (by simp [frame, otherEnd, sameHop])
  have evaluated : u.evaluate b.target b.role = verdict := State.evaluate_heardFrom ..
  have uFrame : u.pending = s.pending ∧ u.station = s.station ∧ u.settings = s.settings ∧ u.time = s.time ∧
      u.cue = s.cue ∧ u.chk = s.chk ∧ u.supply = s.supply ∧ u.level = s.level ∧ u.ident = s.ident ∧ u.pos = s.pos ∧
      u.map = s.map ∧ u.lobe = s.lobe ∧ u.soak = s.soak ∧ u.hop = s.hop := by
    simp [u]
  have uHop : u.hop = s.hop := by simp [uFrame]
  have uStation : u.station = some st := by simp [uFrame, configured]
  have closed : u.closeProposal p .withdrawn none = withdrawn := by
    rw [State.closeProposal_eq, uHop]
  have wFrame : withdrawn.station = some st ∧ withdrawn.settings = s.settings ∧ withdrawn.hop.phase = s.hop.phase ∧
      EventFlag.proposal ∈ withdrawn.site.flags := by
    refine ⟨uStation, ?_, rfl, State.event_mem_signal _ _⟩
    simp [withdrawn, uFrame]
  have evaluatedThen : withdrawn.evaluate b.target b.role = verdict := by
    refine Eq.trans (State.evaluate_congr ?_ ?_ ?_ ?_ ?_ ?_) evaluated <;> simp [withdrawn, uHop]
  have wHop : withdrawn.hop = { s.hop with
      outstanding := none, answerTimer := none
      autoTimer := if p.automatic then some 10000 else s.hop.autoTimer } := rfl
  have wRest : withdrawn.level = s.level ∧ withdrawn.ident = s.ident ∧ withdrawn.pos = s.pos ∧ withdrawn.map = s.map ∧
      withdrawn.lobe = s.lobe ∧ withdrawn.soak = s.soak := by
    simp [withdrawn, uFrame]
  clear_value withdrawn u
  have crosses : t = delivered st s (u.cross h.source b p) := by
    rw [t_eq, State.takePropose_crosses clear (duplicates_none (by rw [uHop]; exact fresh)) (by rw [uHop]; exact made)]
  have declines : ∀ (x : State) (r : DeclineReason), u.cross h.source b p = answered st (declineRecord h.source b r) x →
      t = delivered st s (answered st (record (some r)) x) ∧
        t.hop = { x.hop with lastAnswered := some (record (some r)) } := by
    intro x r way
    have answer : t = delivered st s (answered st (record (some r)) x) := by rw [crosses, way]; rfl
    exact ⟨answer, by rw [answer]; simp⟩
  have enters : ∀ (x : State) (settled : Bool), x.station = some st ∧ x.settings = s.settings ∧
      x.hop.phase = s.hop.phase ∧ EventFlag.proposal ∈ x.site.flags → verdict = none →
      u.cross h.source b p = x.acceptProposal h.source b settled →
      t = (answered st (record none) x).enterPhase b.target .accepted (some id) b.role settled ∧
        EntryRuns st id b.role (answered st (record none) x) t ∧
        t.hop.phase = b.target ∧ t.hop.outstanding = none ∧ t.hop.failed = none ∧
        t.hop.lastAnswered = some (record none) ∧ t.hop.lastAccepted = some id ∧
        EventFlag.proposal ∈ t.site.flags ∧ EventFlag.phase ∈ t.site.flags := by
    intro x settled facts fine way
    obtain ⟨station, settings, samePhase, proposal⟩ := facts
    have legal := (State.evaluate_none fine).1
    rw [← settings, ← samePhase] at legal
    obtain ⟨entered, blocks, hop, told, phase⟩ := State.acceptProposal_entered (settled := settled)
      (proposer := h.source) station legal
    have way : t = x.acceptProposal h.source b settled := by
      rw [crosses, way, entered]
      exact delivered_entered station
    rw [← way] at entered blocks hop told phase
    rw [hop]
    exact ⟨entered, blocks, rfl, rfl, rfl, rfl, rfl, told.flag proposal, phase⟩
  have joins : same → verdict = none → _ := fun alike_ fine =>
    enters (u.signal (.proposal p.number p.target .joined none)) true
      ⟨uStation, by simp [uFrame], by simp [uHop], State.event_mem_signal _ _⟩ fine
      (State.cross_joins ((alike_iff p b).mpr alike_) (evaluated.trans fine))
  have declinesAlike : ∀ r, same → verdict = some r → _ := fun r alike_ reason =>
    declines u r (State.cross_declinesAlike uStation ((alike_iff p b).mpr alike_) (evaluated.trans reason))
  have stands : ¬ same → st.number < h.source → _ := fun other lower =>
    declines u .crossed (State.cross_stands uStation (mt (alike_iff p b).mp other) lower)
  have withdraws : ¬ same → h.source < st.number →
      u.cross h.source b p = withdrawn.evaluateAndAnswer h.source b := fun other higher => by
    rw [State.cross_withdraws uStation (mt (alike_iff p b).mp other) higher, closed]
  have withdrawnEnters : ¬ same → h.source < st.number → verdict = none → _ := fun other higher fine =>
    enters withdrawn false wFrame fine
      ((withdraws other higher).trans (State.evaluateAndAnswer_accepts (evaluatedThen.trans fine)))
  have withdrawnDeclines : ∀ r, ¬ same → h.source < st.number → verdict = some r → _ := fun r other higher reason =>
    declines withdrawn r
      ((withdraws other higher).trans (State.evaluateAndAnswer_declines wFrame.1 (evaluatedThen.trans reason)))
  refine ⟨t, taken, ?_, ?_, ?_, ?_, ?_, ?_, ?_, ?_, ?_, ?_, ?_, ?_, ?_⟩
  iterate 7 · rw [t_eq]; simp [uFrame]
  · intro samePhase
    have moved : verdict = none → t.hop.phase ≠ b.target := fun fine atTarget =>
      (legalSuccessor_ends (State.evaluate_none fine).1).2.2.2.2.1 (samePhase.symm.trans atTarget)
    by_cases alike_ : same
    · rcases reason : verdict with _ | r
      · exact absurd (joins alike_ reason).2.2.1 (moved reason)
      · rw [(declinesAlike r alike_ reason).1]
        simp [uFrame]
    · by_cases lower : st.number < h.source
      · rw [(stands alike_ lower).1]
        simp [uFrame]
      · have higher : h.source < st.number := by
          rw [source] at lower ⊢
          exact Nat.lt_of_le_of_ne (Nat.not_lt.mp lower) foreign
        rcases reason : verdict with _ | r
        · exact absurd (withdrawnEnters alike_ higher reason).2.2.1 (moved reason)
        · rw [(withdrawnDeclines r alike_ higher reason).1]
          simp [wRest]
  · exact joins
  · intro r alike_ reason
    rw [← uHop]
    exact declinesAlike r alike_ reason
  · intro other lower
    rw [← uHop]
    exact stands other lower
  · exact withdrawnEnters
  · intro r other higher reason
    obtain ⟨answer, hop⟩ := withdrawnDeclines r other higher reason
    refine ⟨answer, by rw [hop, wHop], ?_⟩
    rw [answer]
    simpa using wFrame.2.2.2

end Sys2Proof.Proofs
end

section
/-! PROOFS. The partner's STATUS: the margin procedure, then catch-up, halts and the mismatch count (R111, R139, R142,
R143, R145, R185, R186). -/

namespace Sys2Proof.Machine

/-! ### The margin procedure (R185, R186; log 29) -/

/-- The partner's STATUS tells the transmitting end of a DONE direction that its DONE has arrived (R185). -/
def doneHeard (st : Station) (p : MarginProgress) (m : Margin) (d : Direction) : Bool :=
  roleIn st.hopEnd d == .transmitting && m.states.get d == .done && marginDoneFlag p d

section

variable {st : Station} {x : State} {p : MarginProgress} {d : Direction}

theorem State.roleOf_configured (configured : x.station = some st) (d : Direction) : x.roleOf d = roleIn st.hopEnd d := by
  rw [State.roleOf, configured]

theorem State.activeAs_iff (configured : x.station = some st) (d : Direction) (role : MarginRole) :
    x.activeAs d role = true ↔
      x.margin.current = some d ∧ x.margin.states.get d = .active ∧ roleIn st.hopEnd d = role := by
  simp [State.activeAs, State.roleOf_configured configured, and_assoc]

theorem State.statusToTransmitter_eq (configured : x.station = some st) (d : Direction) (p : MarginProgress) :
    x.statusToTransmitter d p = { x with
      margin := { x.margin with
        acknowledged := x.margin.acknowledged.set d (x.margin.acknowledged.get d || doneHeard st p x.margin d)
        doneTimer := if doneHeard st p x.margin d = true then none else x.margin.doneTimer } } := by
  have heard : (x.roleOf d = .transmitting ∧ x.margin.states.get d = .done ∧ marginDoneFlag p d = true) ↔
      doneHeard st p x.margin d = true := by
    simp [doneHeard, State.roleOf_configured configured, and_assoc]
  rw [State.statusToTransmitter]
  by_cases told : doneHeard st p x.margin d = true
  · rw [if_pos (heard.mpr told), if_pos told, told, Bool.or_true]
  · rw [if_neg (mt heard.mp told), if_neg told, Bool.eq_false_iff.mpr told, Bool.or_false]
    cases d <;> rfl

/-- The acknowledgement of both directions' DONE (R185). -/
def acknowledgedBy (st : Station) (p : MarginProgress) (m : Margin) : Margin :=
  { m with
    acknowledged :=
      { one := m.acknowledged.one || doneHeard st p m .one, two := m.acknowledged.two || doneHeard st p m .two }
    doneTimer := if (doneHeard st p m .one || doneHeard st p m .two) = true then none else m.doneTimer }

theorem State.statusToTransmitters_eq (configured : x.station = some st) (p : MarginProgress) :
    (x.statusToTransmitter .one p).statusToTransmitter .two p =
      { x with margin := acknowledgedBy st p x.margin } := by
  rw [State.statusToTransmitter_eq configured .one p, State.statusToTransmitter_eq (by exact configured) .two p,
    acknowledgedBy]
  have same : ∀ y : Margin, y.states = x.margin.states → doneHeard st p y .two = doneHeard st p x.margin .two :=
    fun y states => by rw [doneHeard, states]; rfl
  have timers : ∀ a b : Bool, (if (a || b) = true then none else x.margin.doneTimer) =
      if b = true then none else if a = true then none else x.margin.doneTimer := fun a b => by
    cases a <;> cases b <;> rfl
  rw [same _ rfl, timers]
  rfl

theorem State.statusToJudge_other (other : ¬ x.activeAs d .judge = true) : x.statusToJudge d p = x := if_neg other

/-- The step heard at the judge of an ACTIVE direction after a STATUS (R186). -/
def heardStep (d : Direction) (p : MarginProgress) (m : Margin) : Nat :=
  if p.direction = d.code ∧ p.role = .transmitting then max m.heard p.step else m.heard

theorem State.statusToJudge_active (judges : x.activeAs d .judge = true) :
    x.statusToJudge d p =
      if marginDoneFlag p d = true then
        ({ x with
          margin :=
            { x.margin with heard := heardStep d p x.margin, states := x.margin.states.set d .done } } : State).afterJudge d
      else { x with margin := { x.margin with heard := heardStep d p x.margin } } := by
  rw [State.statusToJudge, if_pos judges, heardStep]
  by_cases raised : p.direction = d.code ∧ p.role = .transmitting
  · rw [if_pos raised, if_pos raised]
    rfl
  · rw [if_neg raised, if_neg raised]

theorem State.marginStatus_eq (configured : x.station = some st) (p : MarginProgress) :
    (x.margin.current = none → x.marginStatus p = { x with margin := acknowledgedBy st p x.margin }) ∧
      ∀ d, x.margin.current = some d →
        x.marginStatus p = ({ x with margin := acknowledgedBy st p x.margin } : State).statusToJudge d p := by
  rw [State.marginStatus, State.statusToTransmitters_eq configured]
  refine ⟨fun none => ?_, fun d current => ?_⟩
  · simp only [acknowledgedBy, none]
  · simp only [acknowledgedBy, current]

/-- What the STATUS tells goes to the judge of the ACTIVE direction (R186). -/
theorem State.marginStatus_told (configured : x.station = some st) (p : MarginProgress) :
    MarginTold st p x (x.marginStatus p) := by
  obtain ⟨y, y_eq⟩ : ∃ y : State, y = { x with margin := acknowledgedBy st p x.margin } := ⟨_, rfl⟩
  obtain ⟨idle, runs⟩ := State.marginStatus_eq configured p
  rw [← y_eq] at idle runs
  have station : y.station = some st := by rw [y_eq]; exact configured
  have active : ∀ d, y.activeAs d .judge = true ↔
      x.margin.current = some d ∧ x.margin.states.get d = .active ∧ roleIn st.hopEnd d = .judge := fun d => by
    rw [State.activeAs_iff station, y_eq]
    rfl
  have judged : ∀ d, y.activeAs d .judge = true → x.marginStatus p = _ := fun d judges =>
    (runs d ((active d).mp judges).1).trans (State.statusToJudge_active judges)
  refine ⟨fun nobody => ?_, fun d judges waits => ?_, fun judges shown => ?_, fun judges shown => ?_⟩
  · rcases Option.eq_none_or_eq_some x.margin.current with none | ⟨d, current⟩
    · rw [idle none, y_eq]
      rfl
    · rw [runs d current, State.statusToJudge_other (mt (active d).mp (nobody d)), y_eq]
      rfl
  · have flag : ¬ marginDoneFlag p d = true := by
      cases d <;> exact Bool.eq_false_iff.mp waits
    rw [judged d ((active d).mpr judges), if_neg flag, y_eq]
    cases d <;> rfl
  · rw [judged .one ((active .one).mpr judges), if_pos (by exact shown)]
    obtain ⟨-, -, role⟩ := judges
    rw [State.afterJudge, if_pos ⟨rfl, by rw [State.roleOf_configured (by exact station)]; exact role⟩,
      State.beginDirection_begun st .two _ (by exact station), y_eq]
    rfl
  · rw [judged .two ((active .two).mpr judges), if_pos (by exact shown), State.afterJudge,
      if_neg (fun h => absurd h.1 (by decide)), y_eq]
    rfl

/-! ### Catch-up, halts and the mismatch count (R139, R142, R143, R145) -/

variable {b : StatusBody}

theorem State.catchUp_other (other : b.lastStation ≠ x.ownNumber) : x.catchUp b = x := if_neg other

theorem State.catchUp_own (own : b.lastStation = x.ownNumber) :
    x.catchUp b = x.enterMatched b.lastNumber b.phase .catchUp := if_pos own

theorem State.haltsOf_halted (halted : b.phase = .halted) : x.haltsOf b = x.partnerHalt := by
  rw [State.haltsOf, halted]

theorem State.haltsOf_idle (idle : b.phase = .idle) : x.haltsOf b = x.partnerRestarted := by
  rw [State.haltsOf, idle]

theorem State.haltsOf_other (notHalted : b.phase ≠ .halted) (notIdle : b.phase ≠ .idle) : x.haltsOf b = x := by
  unfold State.haltsOf
  split
  · next halted => exact absurd halted notHalted
  · next idle => exact absurd idle notIdle
  · rfl

/-- The partner has restarted unless the entry hold covers it (R143). -/
theorem State.partnerRestarted_iff (x : State) :
    (x.phaseIn [.beacon, .sweep, .confirm, .soak, .margin] && !x.hop.held .idle) = true ↔
      ((x.hop.phase ≠ .idle ∧ x.hop.phase ≠ .halted) ∧ x.hop.phase ≠ .handover ∧
        ¬ (x.hop.entryHold ≠ none ∧ x.hop.leftPhase = some .idle)) := by
  have working : x.phaseIn [.beacon, .sweep, .confirm, .soak, .margin] = true ↔
      (x.hop.phase ≠ .idle ∧ x.hop.phase ≠ .halted) ∧ x.hop.phase ≠ .handover := by
    rw [State.phaseIn_iff]
    cases x.hop.phase <;> simp
  have held : x.hop.held .idle = true ↔ x.hop.entryHold ≠ none ∧ x.hop.leftPhase = some .idle := by
    simp [Coordinator.held, Option.isSome_iff_ne_none]
  rw [Bool.and_eq_true, working, Bool.not_eq_true', ← Bool.not_eq_true, held, and_assoc]

/-- The mismatch count (R145). -/
theorem State.countMismatch_eq (b : StatusBody) (x : State) :
    (x.countMismatch b).hop = { x.hop with mismatch := (x.countMismatch b).hop.mismatch } ∧
      (b.phase = x.hop.phase → (x.countMismatch b).hop.mismatch = 0) ∧
      (b.phase ≠ x.hop.phase → x.hop.outstanding = none → x.hop.mismatch ≤ 5 →
        (x.countMismatch b).hop.mismatch = min 5 (x.hop.mismatch + 1)) ∧
      (b.phase ≠ x.hop.phase → x.hop.outstanding ≠ none → (x.countMismatch b).hop.mismatch = x.hop.mismatch) ∧
      x.countMismatch b = { x with
        hop := (x.countMismatch b).hop
        site :=
          if b.phase ≠ x.hop.phase ∧ x.hop.outstanding = none ∧ x.hop.mismatch = 4 then
            x.site.signal (.mismatch x.hop.phase b.phase)
          else x.site } := by
  by_cases same : b.phase = x.hop.phase
  · rw [State.countMismatch, if_pos same, if_neg (fun h => h.1 same)]
    exact ⟨rfl, fun _ => rfl, fun differs => absurd same differs, fun differs => absurd same differs, rfl⟩
  · by_cases still : x.hop.outstanding.isSome ∨ 5 ≤ x.hop.mismatch
    · have silent : ¬ (b.phase ≠ x.hop.phase ∧ x.hop.outstanding = none ∧ x.hop.mismatch = 4) := by
        rintro ⟨-, none, four⟩
        rcases still with made | least
        · rw [none] at made
          exact absurd made (by decide)
        · omega
      rw [State.countMismatch, if_neg same, if_pos still, if_neg silent]
      refine ⟨rfl, fun h => absurd h same, fun _ none most => ?_, fun _ _ => rfl, rfl⟩
      rcases still with made | least
      · rw [none] at made
        exact absurd made (by decide)
      · omega
    · obtain ⟨free, less⟩ := not_or.mp still
      have none : x.hop.outstanding = none := by simpa using free
      rw [State.countMismatch, if_neg same, if_neg still]
      dsimp only
      by_cases four : x.hop.mismatch = 4
      · rw [if_pos four, if_pos ⟨same, none, four⟩]
        exact ⟨rfl, fun h => absurd h same, fun _ _ _ => by show x.hop.mismatch + 1 = _; omega,
          fun _ made => absurd none made, rfl⟩
      · rw [if_neg four, if_neg (fun h => four h.2.2)]
        exact ⟨rfl, fun h => absurd h same, fun _ _ _ => by show x.hop.mismatch + 1 = _; omega,
          fun _ made => absurd none made, rfl⟩

/-- A STATUS that moves the phase counts no mismatch (R145). -/
theorem State.takeStatus_moved (moved : ((x.catchUp b).haltsOf b).hop.phase ≠ x.hop.phase) :
    x.takeStatus b = (x.catchUp b).haltsOf b := if_neg moved

theorem State.takeStatus_still (still : (x.catchUp b).haltsOf b = x) : x.takeStatus b = x.countMismatch b := by
  rw [State.takeStatus, still, if_pos rfl]

end

end Sys2Proof.Machine

namespace Sys2Proof.Proofs

open Sys2Proof Sys2Proof.Machine

/-- Settles O36: the margin procedure by `marginStatus_told`, then catch-up, the halts or the mismatch count; the law of
the coordinator makes the target of an own proposal legal. -/
theorem statusMovesThePhase : Obligations.StatusMovesThePhase := by
  intro st h b s here good sound outstanding failed caughtUp running covered restarted id
  have configured : s.station = some st := And.left here
  obtain ⟨u, u_eq⟩ : ∃ u, u = heardFrom { header := h, body := .status b } s := ⟨_, rfl⟩
  obtain ⟨x, x_eq⟩ : ∃ x, x = u.marginStatus b.progress := ⟨_, rfl⟩
  obtain ⟨t, t_eq⟩ : ∃ t, t = delivered st s (x.takeStatus b) := ⟨_, rfl⟩
  have taken : exec (.receiveStatus h b) s = .next t := by
    rw [t_eq, x_eq, u_eq]
    exact exec_receiveRow_delivered (f := { header := h, body := .status b }) here good
  have told : MarginTold st b.progress u x := by
    rw [x_eq]
    exact State.marginStatus_told (by simp [u_eq, configured]) b.progress
  have xFrame : x.pending = s.pending ∧ x.station = s.station ∧ x.settings = s.settings ∧ x.time = s.time ∧
      x.cue = s.cue ∧ x.chk = s.chk ∧ x.supply = s.supply ∧ x.level = s.level ∧ x.ident = s.ident ∧ x.pos = s.pos ∧
      x.map = s.map ∧ x.lobe = s.lobe ∧ x.soak = s.soak ∧ x.hop = s.hop := by
    simp [x_eq, u_eq]
  have xHop : x.hop = s.hop := by simp [xFrame]
  have xStation : x.station = some st := by simp [xFrame, configured]
  have xOwn : x.ownNumber = st.number := by simp [State.ownNumber, xStation]
  have legal : caughtUp → legalSuccessor s.settings.marginEnabled s.hop.phase b.phase = true := by
    rintro ⟨-, ⟨p, made, -, target⟩ | ⟨p, made, -, target⟩⟩
    · exact target ▸ (sound.2.1 p made).1
    · exact target ▸ (sound.2.2.1 p made).1
  have enters : ∀ m : Antenna × Bool, caughtUp → s.hop.ownMatch b.lastNumber b.phase = some m →
      t = x.enterOwn b.lastNumber b.phase m.1 .catchUp m.2 := by
    intro m caught matched
    obtain ⟨-, -, notIdle, notHalted, moves, -⟩ := legalSuccessor_ends (legal caught)
    have way : (x.catchUp b).haltsOf b = x.enterOwn b.lastNumber b.phase m.1 .catchUp m.2 := by
      rw [State.catchUp_own (by rw [xOwn]; exact caught.1), State.enterMatched_matched (by rw [xHop]; exact matched),
        State.haltsOf_other notHalted notIdle]
    obtain ⟨-, -, hop⟩ := State.enterOwn_told b.lastNumber b.phase m.1 .catchUp m.2 x
    rw [t_eq, State.takeStatus_moved (by rw [way, hop, xHop]; exact Ne.symm moves), way]
    exact delivered_entered xStation
  have runs : ∀ role settled, caughtUp → t = x.enterOwn b.lastNumber b.phase role .catchUp settled →
      let y := x.signal (.proposal b.lastNumber b.phase .accepted none)
      t = y.enterPhase b.phase .catchUp (some id) role settled ∧ EntryRuns st id role y t := by
    intro role settled caught own y
    have entered : t = y.enterPhase b.phase .catchUp (some id) role settled := by
      rw [own, State.enterOwn, xOwn]
      rfl
    refine ⟨entered, entered ▸ State.enterPhase_runs (by simpa [y] using xStation) ?_⟩
    simpa [y, xFrame] using legal caught
  have uncaught : ¬ caughtUp → x.catchUp b = x := by
    intro not_
    by_cases own : b.lastStation = st.number
    · obtain ⟨noneMade, noneFailed⟩ := not_or.mp (not_and.mp not_ own)
      rw [State.catchUp_own (by rw [xOwn]; exact own), State.enterMatched_none]
      rw [xHop]
      exact Coordinator.ownMatch_none (not_exists.mp noneMade) (not_exists.mp noneFailed)
    · exact State.catchUp_other (by rw [xOwn]; exact own)
  have haltsBy : ∀ c, ¬ caughtUp → x.haltsOf b = x.halt c → s.hop.phase ≠ .halted → t = x.halt c := by
    intro c not_ way acts
    have whole : (x.catchUp b).haltsOf b = x.halt c := by rw [uncaught not_, way]
    rw [t_eq, State.takeStatus_moved, whole]
    · exact delivered_entered xStation
    · rw [whole, State.halt, State.enterPhase_hop, xHop]
      exact Ne.symm acts
  have halts : b.phase = .halted → running → t = x.halt .partner := by
    intro halted acts
    refine haltsBy .partner (fun caught => (legalSuccessor_ends (legal caught)).2.2.2.1 halted) ?_ acts.2
    rw [State.haltsOf_halted halted, State.partnerHalt_acts (by rw [xHop]; exact acts)]
  have restarts : restarted → t = x.halt .partnerRestart := by
    rintro ⟨idle, acts, notHandover, uncovered⟩
    refine haltsBy .partnerRestart (fun caught => (legalSuccessor_ends (legal caught)).2.2.1 idle) ?_ acts.2
    rw [State.haltsOf_idle idle, State.partnerRestarted,
      if_pos ((State.partnerRestarted_iff x).mpr (by rw [xHop]; exact ⟨acts, notHandover, uncovered⟩))]
  have counts : ¬ caughtUp → ¬ (b.phase = .halted ∧ running) → ¬ restarted →
      t = delivered st s (x.countMismatch b) := by
    intro not_ noHalt noRestart
    rw [t_eq, State.takeStatus_still]
    rw [uncaught not_]
    by_cases halted : b.phase = .halted
    · have quiet : s.hop.phase = .idle ∨ s.hop.phase = .halted := by
        refine Classical.byContradiction fun both => ?_
        exact noHalt ⟨halted, not_or.mp both⟩
      rw [State.haltsOf_halted halted, State.partnerHalt_ignored (by rw [xHop]; exact quiet)]
    · by_cases idle : b.phase = .idle
      · rw [State.haltsOf_idle idle, State.partnerRestarted,
          if_neg (mt (State.partnerRestarted_iff x).mp (by rw [xHop]; exact fun h => noRestart ⟨idle, h⟩))]
      · exact State.haltsOf_other halted idle
  refine ⟨t, x, taken, u_eq ▸ told, ?_, ?_, ?_, ?_, ?_, ?_, ?_, ?_, ?_, ⟨?_, ?_⟩, ?_, ?_, ?_⟩
  iterate 7 · rw [t_eq]; simp [xFrame]
  · intro samePhase
    by_cases caught : caughtUp
    · obtain ⟨m, matched⟩ := Coordinator.ownMatch_some caught.2
      obtain ⟨-, -, hop⟩ := State.enterOwn_told b.lastNumber b.phase m.1 .catchUp m.2 x
      rw [enters m caught matched, hop] at samePhase
      exact absurd samePhase.symm (legalSuccessor_ends (legal caught)).2.2.2.2.1
    · have notHalt : ∀ c, s.hop.phase ≠ .halted → t ≠ x.halt c := by
        rintro c acts halt_
        rw [halt_, State.halt, State.enterPhase_hop] at samePhase
        exact acts samePhase.symm
      have noHalt : ¬ (b.phase = .halted ∧ running) := fun h => notHalt .partner h.2.2 (halts h.1 h.2)
      have noRestart : ¬ restarted := fun h => notHalt .partnerRestart h.2.1.2 (restarts h)
      rw [counts caught noHalt noRestart]
      simp [xFrame]
  · intro caught
    obtain ⟨m, matched⟩ := Coordinator.ownMatch_some caught.2
    obtain ⟨proposal, phase, hop⟩ := State.enterOwn_told b.lastNumber b.phase m.1 .catchUp m.2 x
    rw [← enters m caught matched] at proposal phase hop
    rw [hop, xOwn]
    exact ⟨rfl, rfl, rfl, rfl, rfl, rfl, proposal, phase⟩
  · intro p own made
    have caught : caughtUp := ⟨own, .inl ⟨p, made⟩⟩
    exact runs p.role true caught (enters (p.role, true) caught (Coordinator.ownMatch_outstanding made.1 made.2))
  · intro p own none made
    have caught : caughtUp := ⟨own, .inr ⟨p, made⟩⟩
    exact runs p.role false caught (enters (p.role, false) caught (Coordinator.ownMatch_failed none made.1 made.2))
  · intro halted acts
    rw [halts halted acts]
    exact (State.halt_entered xStation .partner).1
  · intro again
    rw [restarts again]
    exact (State.halt_entered xStation .partnerRestart).1
  · intro not_ noHalt noRestart
    have way := counts not_ noHalt noRestart
    have hop : t.hop = (x.countMismatch b).hop := by rw [way]; simp
    obtain ⟨rest, same, free, busy, whole⟩ := State.countMismatch_eq b x
    rw [← hop, xHop] at rest same free busy whole
    exact ⟨rest, same, free, busy, way.trans (congrArg (delivered st s) whole)⟩

end Sys2Proof.Proofs

end

section
/-! PROOFS. The partner's DIGEST and LEVEL (R110, R111, R176, R199, R200). -/

namespace Sys2Proof.Machine

section

variable {st : Station} {f : Frame} {s x : State} {b : DigestBody}

/-- The partner's frame makes it LIVE, so no record turns INCOMPLETE by it (R200). -/
theorem heardFrom_handover (configured : s.station = some st) (source : f.header.source = st.partner) :
    (heardFrom f s).handover = s.handover := by
  rw [heardFrom_live configured source, State.updateLevelCondition_frame _ |>.2.2.2.2.2.2.2.2.2.2.2.2.2.2.2.1]
  rfl

/-- The partner's entry after its frame is delivered (R110). -/
theorem delivered_partnerEntry (configured : s.station = some st) (source : f.header.source = st.partner) {y : State}
    (station : y.station = s.station) (heard : hearing y.route = hearing (heardFrom f s).route) :
    (delivered st s y).partnerEntry = some (entryAfter s.time.now f s.route) := by
  refine (State.partnerEntry_congr (s := frameCounted f s) ?_ ?_).trans (frameCounted_partnerEntry configured source)
  · simp [station, frameCounted]
  · have all := (delivered_hearing st s y).trans heard
    rw [heardFrom_live configured source, State.updateLevelCondition_hearing] at all
    exact congrArg Prod.fst all

/-! ### The partner's digest (R176, R199, R200) -/

theorem State.takeDigest_ignored (b : DigestBody)
    (early : x.hop.phase = .idle ∨ x.hop.phase = .beacon ∨ x.hop.phase = .sweep ∨ x.hop.phase = .confirm) :
    x.takeDigest b = x := by
  refine if_neg (mt (State.phaseIn_iff _ _).mp ?_)
  rcases early with phase | phase | phase | phase <;> simp [phase]

/-- A digest is held with its arrival time (R176). -/
theorem State.takeDigest_held (b : DigestBody)
    (late : x.hop.phase = .soak ∨ x.hop.phase = .margin ∨ x.hop.phase = .handover ∨ x.hop.phase = .halted) :
    x.takeDigest b =
      let held : State :=
        { x with soak := { x.soak with partnerDigest := some { body := b, arrival := x.time.now } } }
      if x.hop.phase = .handover then held.digestToRecord { body := b, arrival := x.time.now } else held := by
  refine if_pos ((State.phaseIn_iff _ _).mpr ?_)
  rcases late with phase | phase | phase | phase <;> simp [phase]

theorem State.digestToRecord_soak (d : HeldDigest) (x : State) : (x.digestToRecord d).soak = x.soak := by
  simp

theorem State.digestToRecord_none (d : HeldDigest) (none : x.handover = none) : x.digestToRecord d = x := by
  rw [State.digestToRecord, none]

/-- A record that is decided, or a digest that is not final, leaves the verdict (R200). -/
theorem State.digestToRecord_kept {d : HeldDigest} {r : HandoverRecord} (record : x.handover = some r)
    (calm : d.body.final = false ∨ r.overall = .pass ∨ r.overall = .fail) :
    x.digestToRecord d = { x with handover := some { r with partnerDigest := some d } } := by
  rw [State.digestToRecord, record]
  dsimp only
  rcases calm with open_ | pass | fail
  · have kept : x.decideHandover { r with partnerDigest := some d } =
        { x with handover := some { r with partnerDigest := some d } } := if_neg (Bool.eq_false_iff.mp open_)
    rw [kept]
    exact ite_self _
  · rw [pass]
    rfl
  · rw [fail]
    rfl

/-- A final digest decides an open record (R200). -/
theorem State.digestToRecord_decides {d : HeldDigest} {r : HandoverRecord} (record : x.handover = some r)
    (final : d.body.final = true) (open_ : r.overall = .pending ∨ r.overall = .incomplete) :
    x.digestToRecord d = x.setOverall { r with partnerDigest := some d }
      (({ r with partnerDigest := some d } : HandoverRecord).judge x.settings.diversity) := by
  rw [State.digestToRecord, record]
  dsimp only
  have undecided_ : undecided r.overall = true := by rcases open_ with open_ | open_ <;> rw [open_] <;> rfl
  rw [undecided_, if_pos rfl]
  exact if_pos final

end

end Sys2Proof.Machine

namespace Sys2Proof.Proofs

open Sys2Proof Sys2Proof.Machine

/-- Settles O41: the digest by the phase and the record, the LEVEL by the partner's entry. -/
theorem digestAndLevelAreTaken : Obligations.DigestAndLevelAreTaken := by
  intro st h d l s here
  obtain ⟨configured, -, -, source, -⟩ := id here
  refine ⟨fun good => ?_, fun good => ?_⟩
  · obtain ⟨u, u_eq⟩ : ∃ u, u = heardFrom { header := h, body := .digest d } s := ⟨_, rfl⟩
    have handover : u.handover = s.handover := u_eq ▸ heardFrom_handover configured source
    obtain ⟨t, t_eq⟩ : ∃ t, t = delivered st s (u.takeDigest d) := ⟨_, rfl⟩
    have taken : exec (.receiveDigest h d) s = .next t := by
      rw [t_eq, u_eq]
      exact exec_receiveRow_delivered (f := { header := h, body := .digest d }) here good
    have phase : u.hop.phase = s.hop.phase := by simp [u_eq]
    have soak : u.soak = s.soak := by simp [u_eq]
    have now : u.time.now = s.time.now := by simp [u_eq]
    have diversity : u.settings.diversity = s.settings.diversity := by simp [u_eq]
    have fields : t.soak = (u.takeDigest d).soak ∧ t.handover = (u.takeDigest d).handover ∧
        t.site = (u.takeDigest d).site := by rw [t_eq]; simp
    obtain ⟨tSoak, tHandover, tSite⟩ := fields
    have early_or_late : ∀ p : Phase, (p = .idle ∨ p = .beacon ∨ p = .sweep ∨ p = .confirm) ∨
        (p = .soak ∨ p = .margin ∨ p = .handover ∨ p = .halted) := fun p => by cases p <;> decide
    have late := State.takeDigest_held (x := u) d
    have early := State.takeDigest_ignored (x := u) d
    rw [phase] at late early
    refine ⟨t, taken, fun holds => ?_, fun ignores => ?_, fun other => ?_, fun inHandover none => ?_,
      fun r inHandover record => ?_, ?_⟩
    · rw [tSoak, late holds]
      dsimp only
      split <;> simp [soak, now]
    · rw [tSoak, early ignores, soak]
    · rw [tHandover, ← handover]
      rcases early_or_late s.hop.phase with ignores | holds
      · rw [early ignores]
      · rw [late holds, if_neg other]
    · rw [tHandover, late (.inr (.inr (.inl inHandover))), if_pos inHandover,
        State.digestToRecord_none _ (by exact handover.trans none)]
      exact handover.trans none
    · rw [tHandover, tSite, late (.inr (.inr (.inl inHandover))), if_pos inHandover]
      refine ⟨fun calm => ?_, fun final open_ => ?_⟩
      · rw [State.digestToRecord_kept (by exact handover.trans record) calm, now]
      · rw [State.digestToRecord_decides (by exact handover.trans record) final open_, now]
        refine ⟨_, rfl, HandoverRecord.judge_cases _ _, ?_, State.event_mem_signal _ _⟩
        rw [← diversity]
        exact HandoverRecord.judge_iff _ _
    · exact State.eq_of_fields (by simp [t_eq, u_eq])
  · obtain ⟨t, t_eq⟩ : ∃ t, t = delivered st s (heardFrom { header := h, body := .level l } s) := ⟨_, rfl⟩
    have taken : exec (.receiveLevel h l) s = .next t := by
      rw [t_eq]
      exact exec_receiveRow_delivered (f := { header := h, body := .level l }) here good
    have entry : t.partnerEntry = some (entryAfter s.time.now { header := h, body := .level l } s.route) :=
      t_eq ▸ delivered_partnerEntry (f := { header := h, body := .level l }) configured source (by simp) rfl
    refine ⟨t, _, taken, ?_, ?_, entry, ?_⟩
    · have handover := heardFrom_handover (f := { header := h, body := .level l }) configured source
      exact State.eq_of_fields (by simp [t_eq, handover])
    · rw [State.partnerLevel, entry, Option.bind_some, entryAfter, RosterEntry.take_level rfl]
      rfl
    · rw [entryAfter, RosterEntry.take_level rfl]
      rfl

end Sys2Proof.Proofs
end

section
/-! PROOFS. The MTEST frames of the partner, and end A's proposal of HANDOVER at their onset (R140, R157, R181, R184, R186,
R187). -/

namespace Sys2Proof.Machine

section

variable {st : Station} {u x : State}

/-! ### End A's proposal once both directions are done (R140) -/

/-- Both directions have a result that is no abort (R181). -/
theorem Margin.bothDone_iff (m : Margin) :
    m.bothDone = true ↔ ∃ one two, m.results.one = some one ∧ m.results.two = some two ∧
      one.outcome ≠ .aborted ∧ two.outcome ≠ .aborted := by
  have done : ∀ d, m.doneAt d = true ↔ ∃ r, m.results.get d = some r ∧ r.outcome ≠ .aborted := by
    intro d
    rw [Margin.doneAt]
    cases m.results.get d <;> simp
  rw [Margin.bothDone, Bool.and_eq_true, done, done]
  constructor
  · rintro ⟨⟨one, isOne, fine⟩, two, isTwo, fine2⟩
    exact ⟨one, two, isOne, isTwo, fine, fine2⟩
  · rintro ⟨one, two, isOne, isTwo, fine, fine2⟩
    exact ⟨⟨one, isOne, fine⟩, two, isTwo, fine2⟩

theorem State.autoTarget_endB (configured : x.station = some st) (endB : st.hopEnd = .b) : x.autoTarget = none := by
  simp [State.autoTarget, configured, endB]

theorem State.autoTarget_margin (configured : x.station = some st) (endA : st.hopEnd = .a)
    (inMargin : x.hop.phase = .margin) :
    x.autoTarget = if x.margin.bothDone = true then some .handover else none := by
  simp [State.autoTarget, configured, endA, inMargin]

theorem State.autoTarget_congr (station : x.station = u.station) (settings : x.settings = u.settings)
    (phase : x.hop.phase = u.hop.phase) (soak : x.soak.isComplete = u.soak.isComplete)
    (outside : u.hop.phase ≠ .margin) :
    x.autoTarget = u.autoTarget := by
  unfold State.autoTarget
  rw [station, settings, phase, soak]
  rcases u.station with _ | st
  · rfl
  · dsimp only
    split
    · rfl
    · split
      · rfl
      · next inMargin => exact absurd inMargin outside
      · rfl

/-- The end of the margin procedure comes about: end A proposes HANDOVER (R140). -/
def MarginOnset (st : Station) (u x : State) : Prop :=
  st.hopEnd = .a ∧ u.hop.phase = .margin ∧ ¬ u.margin.bothDone = true ∧ x.margin.bothDone = true

theorem State.autoOnset_quiet (configured : u.station = some st) (station : x.station = u.station)
    (settings : x.settings = u.settings) (phase : x.hop.phase = u.hop.phase)
    (soak : x.hop.phase ≠ .margin → x.soak.isComplete = u.soak.isComplete)
    (quiet : ¬ MarginOnset st u x) : u.autoOnset x = x := by
  refine if_neg ?_
  rw [Bool.and_eq_true]
  rintro ⟨before, after⟩
  by_cases endB : st.hopEnd = .b
  · rw [State.autoTarget_endB (station.trans configured) endB] at after
    exact absurd after (by decide)
  · have endA : st.hopEnd = .a := by
      revert endB
      cases st.hopEnd <;> simp
    by_cases inMargin : u.hop.phase = .margin
    · rw [State.autoTarget_margin configured endA inMargin] at before
      rw [State.autoTarget_margin (station.trans configured) endA (phase.trans inMargin)] at after
      refine quiet ⟨endA, inMargin, fun done => ?_, ?_⟩
      · rw [if_pos done] at before
        exact absurd before (by decide)
      · refine Classical.byContradiction fun open_ => ?_
        rw [if_neg open_] at after
        exact absurd after (by decide)
    · rw [State.autoTarget_congr station settings phase (soak (by rw [phase]; exact inMargin)) inMargin] at after
      cases target : u.autoTarget
      · rw [target] at after
        exact absurd after (by decide)
      · rw [target] at before
        exact absurd before Bool.false_ne_true

theorem State.autoOnset_tries (configured : u.station = some st) (station : x.station = u.station)
    (hop : x.hop = u.hop) (onset : MarginOnset st u x) (live : x.route.partner = .live) :
    (u.hop.outstanding ≠ none ∨ x.route.conflict = true →
      u.autoOnset x = { x with hop := { u.hop with autoTimer := some 10000 } }) ∧
    (u.hop.outstanding = none → x.route.conflict = false → u.autoOnset x = x.propose .handover .main true) := by
  obtain ⟨endA, inMargin, open_, done⟩ := onset
  have before := State.autoTarget_margin configured endA inMargin
  have after := State.autoTarget_margin (station.trans configured) endA (by rw [hop]; exact inMargin)
  rw [if_neg open_] at before
  rw [if_pos done] at after
  have tries : u.autoOnset x = x.autoTry := if_pos (by rw [before, after]; rfl)
  have checks : x.mayPropose .handover = (u.hop.outstanding.isNone && !x.route.conflict) := by
    rw [State.mayPropose, hop, live, State.precondition, if_pos (by rw [hop]; exact inMargin), if_pos done, inMargin]
    simp [legalSuccessor]
  rw [tries, State.autoTry, after]
  dsimp only
  refine ⟨fun bars => ?_, fun free clear => ?_⟩
  · rw [if_neg, hop]
    rw [checks]
    rcases bars with made | conflict
    · simp [Option.isNone_iff_eq_none, made]
    · simp [conflict]
  · rw [if_pos]
    rw [checks, free, clear]
    rfl

/-! ### The directions (R184, R186) -/

theorem State.takeStep_judge {b : MtestBody} (judges : x.activeAs b.direction .judge = true) :
    x.takeStep b = { x with
      margin := { x.margin with
        heard := b.step, latched := if b.step < x.margin.heard then none else x.margin.latched } } := if_pos judges

theorem State.takeStep_other {b : MtestBody} (other : ¬ x.activeAs b.direction .judge = true) :
    x.takeStep b = x := if_neg other

theorem State.takeLimit_other {b : MtestBody}
    (other : ¬ (x.activeAs b.direction .transmitting = true ∧ b.step ≤ x.margin.stepIndex)) : x.takeLimit b = x :=
  if_neg (by simpa using other)

theorem State.takeLimit_ends {b : MtestBody} (transmits : x.activeAs b.direction .transmitting = true)
    (reached : b.step ≤ x.margin.stepIndex) :
    x.takeLimit b = x.transmitDone (doneOfLimit x.settings b.direction b.step) :=
  if_pos (by simp [transmits, reached])

/-- A direction recorded at the transmitting end: the restore, the result, the DONE queued and its event (R184). -/
def transmitted (st : Station) (body : MtestBody) (x : State) : State :=
  let queued := queuedFor st (.mtest .done body) x.draws x.route
  let r := resultOf x.settings body
  { x with
    draws := queued.1, route := queued.2
    src := { x.src with atten := { live := 0, staged := 0, pending := false } }
    margin :=
      { x.margin with
        results := x.margin.results.set body.direction (some r)
        states := x.margin.states.set body.direction .done, stepDue := false, announceDue := false
        acknowledged := x.margin.acknowledged.set body.direction false, doneTimer := some 5000
        doneBody := some body }
    site :=
      x.site.signal
        (.margin body.direction (roleIn st.hopEnd body.direction) r.margin r.capped r.atZero r.outcome) }

/-- The end of direction 1 at its transmitting end is the start of direction 2 (R184). -/
theorem State.transmitDone_eq (configured : x.station = some st) (body : MtestBody)
    (transmits : roleIn st.hopEnd body.direction = .transmitting) :
    (body.direction = .one → x.transmitDone body = begun st .two (transmitted st body x)) ∧
      (body.direction = .two → x.transmitDone body = transmitted st body x) := by
  have recorded : ({ x.restoreAtten with
      margin := x.margin.recordDone body.direction (resultOf x.settings body) body }.send
        (.mtest .done body)).signalMargin body.direction (resultOf x.settings body) = transmitted st body x := by
    rw [State.send_queuedFor _ st _ (by exact configured), State.signalMargin,
      State.roleOf_configured (by exact configured)]
    rfl
  have role : (transmitted st body x).roleOf .one = roleIn st.hopEnd .one := State.roleOf_configured configured .one
  have whole : x.transmitDone body =
      if body.direction = .one ∧ (transmitted st body x).roleOf .one = .transmitting then
        (transmitted st body x).beginDirection .two
      else transmitted st body x := by
    rw [← recorded]
    rfl
  rw [whole, role]
  refine ⟨fun one => ?_, fun two => ?_⟩
  · rw [if_pos ⟨one, by rw [← one]; exact transmits⟩, State.beginDirection_begun st .two _ (by exact configured)]
  · rw [if_neg (fun h => absurd (two.symm.trans h.1) (by decide))]

/-- A result recorded at the judge, with its event (R186). -/
def resultJudged (st : Station) (b : MtestBody) (x : State) : State :=
  let r := resultOf x.settings b
  { x with
    margin :=
      { x.margin with
        results := x.margin.results.set b.direction (some r), states := x.margin.states.set b.direction .done }
    site := x.site.signal (.margin b.direction (roleIn st.hopEnd b.direction) r.margin r.capped r.atZero r.outcome) }

theorem State.judgeResult_eq (configured : x.station = some st) (b : MtestBody) :
    x.judgeResult b = resultJudged st b x := by
  rw [State.judgeResult, State.signalMargin, State.roleOf_configured (by exact configured)]
  rfl

/-- A DONE at the judge of the ACTIVE direction; end B then begins direction 2 (R186). -/
theorem State.takeDone_judge {b : MtestBody} (configured : x.station = some st)
    (judges : x.activeAs b.direction .judge = true) :
    (b.direction = .one → x.takeDone b = begun st .two (resultJudged st b x)) ∧
      (b.direction = .two → x.takeDone b = resultJudged st b x) := by
  have role := ((State.activeAs_iff configured _ _).mp judges).2.2
  have own : (resultJudged st b x).roleOf .one = roleIn st.hopEnd .one := State.roleOf_configured configured .one
  rw [State.takeDone, if_pos judges, State.judgeResult_eq configured, State.afterJudge, own]
  refine ⟨fun one => ?_, fun two => ?_⟩
  · rw [if_pos ⟨one, by rw [← one]; exact role⟩, State.beginDirection_begun st .two _ (by exact configured)]
  · rw [if_neg (fun h => absurd (two.symm.trans h.1) (by decide))]

/-- A DONE for a direction DONE without a result is recorded (R186). -/
theorem State.takeDone_late {b : MtestBody} (configured : x.station = some st)
    (late : roleIn st.hopEnd b.direction = .judge ∧ x.margin.states.get b.direction = .done ∧
      x.margin.results.get b.direction = none) : x.takeDone b = resultJudged st b x := by
  have inactive : ¬ x.activeAs b.direction .judge = true := fun active => by
    have state := ((State.activeAs_iff configured _ _).mp active).2.1
    exact absurd (state.symm.trans late.2.1) (by decide)
  rw [State.takeDone, if_neg inactive, State.roleOf_configured configured, if_pos late, State.judgeResult_eq configured]

theorem State.takeDone_other {b : MtestBody} (configured : x.station = some st)
    (inactive : ¬ x.activeAs b.direction .judge = true)
    (early : ¬ (roleIn st.hopEnd b.direction = .judge ∧ x.margin.states.get b.direction = .done ∧
      x.margin.results.get b.direction = none)) : x.takeDone b = x := by
  rw [State.takeDone, if_neg inactive, State.roleOf_configured configured, if_neg early]

end

end Sys2Proof.Machine

end

section
/-! PROOFS. The MTEST frames delivered (R140, R157, R181, R184, R186, R187). -/

namespace Sys2Proof.Machine

section

variable {st : Station} {s u x : State}

/-- What end A does once both directions have a result, u standing before (R140). -/
theorem State.autoOnset_made (configured : u.station = some st) (station : x.station = u.station)
    (settings : x.settings = u.settings) (hop : x.hop = u.hop) (soak : x.soak = u.soak)
    (live : x.route.partner = .live) :
    let t := u.autoOnset x
    (¬ MarginOnset st u x → t = x) ∧
      (MarginOnset st u x → u.hop.outstanding ≠ none ∨ x.route.conflict = true →
        t = { x with hop := { u.hop with autoTimer := some 10000 } }) ∧
      (MarginOnset st u x → u.hop.outstanding = none → x.route.conflict = false →
        let queued :=
          queuedFor st (.propose { number := u.hop.nextNumber, target := .handover, role := .main }) x.draws x.route
        t = { x with
          draws := queued.1, route := queued.2
          hop :=
            { u.hop with
              nextNumber := if 255 ≤ u.hop.nextNumber then 1 else u.hop.nextNumber + 1
              outstanding :=
                some
                  { number := u.hop.nextNumber, target := .handover, role := .main, attempts := 1
                    automatic := true }
              mismatch := 0, answerTimer := some 2000 } }) := by
  refine ⟨State.autoOnset_quiet configured station settings (congrArg _ hop) (fun _ => congrArg _ soak), fun onset => ?_, fun onset => ?_⟩
  · exact (State.autoOnset_tries configured station hop onset live).1
  · intro free clear
    dsimp only
    rw [(State.autoOnset_tries configured station hop onset live).2 free clear,
      State.propose_made (station.trans configured), hop]
    rfl

/-- The end of a direction at its transmitting end is no onset: direction 1's begins direction 2, and direction 2 is end
B's (R140, R184). -/
theorem not_marginOnset_begunTwo (y : State) : ¬ MarginOnset st u (begun st .two y) := by
  rintro ⟨-, -, -, done⟩
  obtain ⟨-, two, -, isTwo, -⟩ := (Margin.bothDone_iff _).mp done
  have none : (begun st .two y).margin.results.two = none := by
    unfold begun
    dsimp only
    split <;> rfl
  exact absurd (none.symm.trans isTwo) (by simp)

theorem not_marginOnset_endB (endB : st.hopEnd = .b) : ¬ MarginOnset st u x := fun onset =>
  absurd (onset.1.symm.trans endB) (by decide)

theorem State.autoTry_phase (s : State) : s.autoTry.hop.phase = s.hop.phase := by
  unfold State.autoTry State.propose
  repeat' split
  all_goals simp [Coordinator.propose]

theorem State.autoOnset_phase (before after : State) : (before.autoOnset after).hop.phase = after.hop.phase := by
  unfold State.autoOnset
  split
  · exact State.autoTry_phase after
  · rfl

theorem abortedDirection_iff {d : Direction} :
    abortedDirection s = some d ↔
      s.hop.phase = .margin ∧ s.margin.current = some d ∧ s.margin.states.get d = .aborted := by
  refine ⟨fun again => ?_, fun ⟨phase, current, aborted⟩ => abortedDirection_some phase current aborted⟩
  unfold abortedDirection at again
  rcases Option.eq_none_or_eq_some s.margin.current with none | ⟨e, current⟩
  · simp [none] at again
  · simp only [current, Option.ite_none_right_eq_some, Option.some.injEq] at again
    obtain ⟨⟨phase, aborted⟩, rfl⟩ := again
    exact ⟨phase, current, aborted⟩

end

end Sys2Proof.Machine

namespace Sys2Proof.Proofs

open Sys2Proof Sys2Proof.Machine

/-- Settles O42: each row by the role and the state of the direction it names; an ABORTED direction begins again by the
delivery, and end A proposes by `autoOnset_made`. -/
theorem mtestFramesAreTaken : Obligations.MtestFramesAreTaken := by
  intro st h b s here good role result heard active late own recorded told both proposed
  obtain ⟨configured, -, -, source, -⟩ := id here
  have step : exec (.mtestStep h b) s = .next (delivered st s ((heard .step).takeStep b)) :=
    exec_receiveRow_delivered (f := { header := h, body := .mtest .step b }) here good
  have limit : exec (.mtestLimit h b) s = .next (delivered st s ((heard .limit).deliverLimit b)) :=
    exec_receiveRow_delivered (f := { header := h, body := .mtest .limit b }) here good
  have done : exec (.mtestDone h b) s = .next (delivered st s ((heard .done).deliverDone b)) :=
    exec_receiveRow_delivered (f := { header := h, body := .mtest .done b }) here good
  have facts : ∀ e, (heard e).station = some st ∧ (heard e).settings = s.settings ∧ (heard e).hop = s.hop ∧
      (heard e).soak = s.soak ∧ (heard e).src = s.src ∧ (heard e).margin = { s.margin with silence := 0 } ∧
      ((heard e).route.conflict = true ↔ h.hopEnd = st.hopEnd ∨ h.hop ≠ st.hop) ∧ (heard e).route.partner = .live := by
    intro e
    obtain ⟨conflict, live⟩ := heardFrom_conflict (f := { header := h, body := .mtest e b }) configured source
    exact ⟨by simp [heard, configured], by simp [heard], by simp [heard], by simp [heard], by simp [heard],
      heardFrom_margin _ _, conflict, live⟩
  have activeAs : ∀ e r, (heard e).activeAs b.direction r = true ↔ active ∧ role = r := by
    intro e r
    obtain ⟨station, -, -, -, -, margin, -⟩ := facts e
    rw [State.activeAs_iff station, margin, and_assoc]
  have resting : ∀ d, s.margin.states.get d ≠ .aborted → s.margin.current = some d → abortedDirection s = none := by
    intro d state current
    cases again : abortedDirection s with
    | none => rfl
    | some e =>
      obtain ⟨-, current', aborted⟩ := abortedDirection_iff.mp again
      rw [Option.some.inj (current.symm.trans current')] at state
      exact absurd aborted state
  have activeStays : active → abortedDirection s = none := fun act => resting _ (by rw [act.2]; decide) act.1
  have judgedIs : resultJudged st b (heard .done) = { heard .done with margin := recorded, site := told } := by
    obtain ⟨-, settings, -, -, -, margin, -⟩ := facts .done
    have result_ : resultOf (heard .done).settings b = own := by
      rw [resultOf, outcomeOf, settings]
    rw [resultJudged, result_, margin]
  have proposes : proposed { heard .done with margin := recorded, site := told }
      ((heard .done).autoOnset { heard .done with margin := recorded, site := told }) := by
    obtain ⟨station, -, hop, -, -, margin, conflict, live⟩ := facts .done
    obtain ⟨quiet, barred, free⟩ := State.autoOnset_made (x := { heard .done with margin := recorded, site := told })
      station rfl rfl rfl rfl live
    have onset : MarginOnset st (heard .done) { heard .done with margin := recorded, site := told } ↔
        st.hopEnd = .a ∧ s.hop.phase = .margin ∧ ¬ both s.margin ∧ both recorded := by
      rw [MarginOnset, Margin.bothDone_iff, Margin.bothDone_iff, hop, margin]
    rw [onset] at quiet barred free
    rw [hop] at barred free
    refine ⟨quiet, fun comes bars => barred comes ?_, fun comes open_ => free comes open_.1 ?_⟩
    · by_cases made : s.hop.outstanding = none
      · refine .inr (conflict.mpr ?_)
        refine Classical.byContradiction fun agrees => ?_
        obtain ⟨otherEnd, sameHop⟩ := not_or.mp agrees
        exact bars ⟨made, otherEnd, Classical.not_not.mp sameHop⟩
      · exact .inl made
    · refine Bool.eq_false_iff.mpr (mt conflict.mp ?_)
      rintro (sameEnd | otherHop)
      · exact open_.2.1 sameEnd
      · exact otherHop open_.2.2
  have unmoved : ∀ e x, (heard e).station = some st → x.station = (heard e).station ∧ x.settings = (heard e).settings ∧
      x.hop = (heard e).hop ∧ x.soak = (heard e).soak → ¬ MarginOnset st (heard e) x → (heard e).autoOnset x = x :=
    fun e x station same => State.autoOnset_quiet station same.1 same.2.1 (congrArg _ same.2.2.1) fun _ => congrArg _ same.2.2.2
  have aborts : ∀ e, abortedDirection (heard e) = abortedDirection s := fun e => abortedDirection_heardFrom _ s
  have still : ∀ e, (heard e).autoOnset (heard e) = heard e := fun e =>
    unmoved e _ (facts e).1 ⟨rfl, rfl, rfl, rfl⟩ fun onset => onset.2.2.1 onset.2.2.2
  clear_value heard
  refine ⟨fun act judge => ?_, fun act other => ?_, fun act transmits reached => ?_, fun act other => ?_,
    fun act judge => ?_, fun act other => ?_, fun late_ none => ?_, fun d late_ again => ?_, fun idle early => ?_,
    fun idle => ?_, fun d phase current aborted => ?_⟩
  · obtain ⟨-, -, -, -, -, margin, -⟩ := facts .step
    rw [step, State.takeStep_judge ((activeAs .step .judge).mpr ⟨act, judge⟩), delivered_none (activeStays act), margin]
  · rw [step, State.takeStep_other (mt (activeAs .step .judge).mp fun h => other h.2), delivered_none (activeStays act)]
  · obtain ⟨station, settings, -, -, src, margin, -⟩ := facts .limit
    intro marginDb atZero body x queued done_
    have taken : (heard .limit).takeLimit b = (heard .limit).transmitDone body := by
      rw [State.takeLimit_ends ((activeAs .limit .transmitting).mpr ⟨act, transmits⟩) (by rw [margin]; exact reached),
        settings]
      rfl
    have ended : transmitted st body (heard .limit) = done_ := by
      have result_ : resultOf (heard .limit).settings body = result marginDb false atZero := by
        rw [resultOf, outcomeOf, settings]
      rw [transmitted, result_, margin, src]
    obtain ⟨first, second⟩ := State.transmitDone_eq station body transmits
    rw [ended] at first second
    refine ⟨fun one => ?_, fun two => ?_⟩
    · rw [limit, State.deliverLimit, taken, first one, unmoved _ _ station (by simp [← ended, transmitted])
        (not_marginOnset_begunTwo _), delivered_none (activeStays act)]
    · have endB : st.hopEnd = .b := by
        revert transmits
        simp only [role, two]
        cases st.hopEnd <;> simp [roleIn]
      rw [limit, State.deliverLimit, taken, second two, unmoved _ _ station (by rw [← ended]; exact ⟨rfl, rfl, rfl, rfl⟩)
        (not_marginOnset_endB endB), delivered_none (activeStays act)]
  · rw [limit, State.deliverLimit, State.takeLimit_other, still, delivered_none (activeStays act)]
    rw [activeAs, (facts .limit).2.2.2.2.2.1]
    rintro ⟨⟨-, transmits⟩, reached⟩
    rcases other with other | less
    · exact other transmits
    · exact absurd reached (Nat.not_le.mpr less)
  · intro done_
    obtain ⟨first, second⟩ := State.takeDone_judge (facts .done).1 ((activeAs .done .judge).mpr ⟨act, judge⟩)
    rw [judgedIs] at first second
    refine ⟨fun one => ?_, fun two => ⟨(heard .done).autoOnset done_, ?_, proposes⟩⟩
    · rw [done, State.deliverDone, first one, unmoved _ _ (facts .done).1 (by simp)
        (not_marginOnset_begunTwo _), delivered_none (activeStays act)]
    · rw [done, State.deliverDone, second two, delivered_none (activeStays act)]
  · rw [done, State.deliverDone, State.takeDone_other (facts .done).1 (mt (activeAs .done .judge).mp fun h => other h.2)
      (fun late_ => other late_.1), still, delivered_none (activeStays act)]
  · have taken := State.takeDone_late (b := b) (facts .done).1 (by rw [(facts .done).2.2.2.2.2.1]; exact late_)
    rw [judgedIs] at taken
    exact ⟨_, by rw [done, State.deliverDone, taken, delivered_none none], proposes⟩
  · have taken := State.takeDone_late (b := b) (facts .done).1 (by rw [(facts .done).2.2.2.2.2.1]; exact late_)
    rw [judgedIs] at taken
    refine ⟨_, ?_, proposes⟩
    obtain ⟨phase, current, aborted⟩ := abortedDirection_iff.mp again
    have other : d ≠ b.direction := by
      rintro rfl
      exact absurd (aborted.symm.trans late_.2.1) (by decide)
    rw [done, State.deliverDone, taken, delivered_begun again]
    refine abortedDirection_iff.mpr ⟨?_, ?_, ?_⟩
    · rw [State.autoOnset_phase]
      exact (congrArg _ (facts .done).2.2.1).trans phase
    · simpa using current
    · simpa [recorded, ByDirection.get_set_ne _ _ other] using aborted
  · rw [done, State.deliverDone, State.takeDone_other (facts .done).1 (mt (activeAs .done .judge).mp fun h => idle h.1)
      (by rw [(facts .done).2.2.2.2.2.1]; exact early), still]
  · refine ⟨?_, ?_⟩
    · rw [step, State.takeStep_other (mt (activeAs .step .judge).mp fun h => idle h.1)]
    · rw [limit, State.deliverLimit, State.takeLimit_other (fun h => idle ((activeAs .limit .transmitting).mp h.1).1),
        still]
  · have again := abortedDirection_some phase current aborted
    have idle : ¬ active := fun act => by
      rw [Option.some.inj (current.symm.trans act.1)] at aborted
      exact absurd (aborted.symm.trans act.2) (by decide)
    have begins : ∀ e, delivered st s (heard e) = begun st d (heard e) := fun e =>
      delivered_begun again ((aborts e).trans again)
    refine ⟨?_, ?_, fun early => ?_⟩
    · rw [step, State.takeStep_other (mt (activeAs .step .judge).mp fun h => idle h.1), begins]
    · rw [limit, State.deliverLimit, State.takeLimit_other (fun h => idle ((activeAs .limit .transmitting).mp h.1).1),
        still, begins]
    · rw [done, State.deliverDone, State.takeDone_other (facts .done).1 (mt (activeAs .done .judge).mp fun h => idle h.1)
        (by rw [(facts .done).2.2.2.2.2.1]; exact early), still, begins]

end Sys2Proof.Proofs
end

section
/-! PROOFS. The margin procedure's own steps: the dwell, the step's write, its announcement, the silence (R157, R181 to
R184, R187). -/

namespace Sys2Proof.Machine

section

variable {d : Direction} {s : State} {st : Station}

theorem State.transmitting_current (current : s.margin.current = some d) (active : s.margin.states.get d = .active) :
    s.transmitting = true ↔ s.roleOf d = .transmitting := by
  simp [State.transmitting, State.activeAs, current, active]

theorem State.dwellDue_iff (current : s.margin.current = some d) (active : s.margin.states.get d = .active) :
    s.dwellDue = true ↔
      s.roleOf d = .transmitting ∧ s.margin.dwell = s.settings.marginDwell ∧ s.margin.stepDue = false := by
  simp [State.dwellDue, State.transmitting_current current active, and_assoc]

theorem State.stepWriteDue_iff (current : s.margin.current = some d) (active : s.margin.states.get d = .active) :
    s.stepWriteDue = true ↔ s.roleOf d = .transmitting ∧ s.margin.stepDue = true ∧ s.time.now.index = 500 := by
  simp [State.stepWriteDue, State.transmitting_current current active, and_assoc]

theorem State.announceIsDue_iff (current : s.margin.current = some d) (active : s.margin.states.get d = .active) :
    s.announceIsDue = true ↔ s.roleOf d = .transmitting ∧ s.margin.announceDue = true := by
  simp [State.announceIsDue, State.transmitting_current current active]

theorem State.silenceDue_iff (current : s.margin.current = some d) (active : s.margin.states.get d = .active) :
    s.silenceDue = true ↔ s.hop.phase = .margin ∧ 10000 ≤ s.margin.silence := by
  simp [State.silenceDue, current, active]

/-- A write of the attenuation: live at once when no apply source is named, staged otherwise (R154, R156). -/
theorem Source.writeAtten_eq (sources : ApplySet) (n : Nat) (x : Source) :
    x.writeAtten sources n = { x with
      atten :=
        if sources.second = false ∧ sources.keyingEdge = false ∧ sources.syncPin = false then
          { live := min n 63, staged := min n 63, pending := false }
        else { live := x.atten.live, staged := min n 63, pending := true } } := by
  have empty : sources.isEmpty = true ↔
      sources.second = false ∧ sources.keyingEdge = false ∧ sources.syncPin = false := by
    simp [ApplySet.isEmpty, and_assoc]
  rw [Source.writeAtten]
  by_cases now : sources.isEmpty = true
  · rw [if_pos now, if_pos (empty.mp now)]
  · rw [if_neg now, if_neg (mt empty.mpr now)]
    rfl

theorem State.writeStep_next (current : s.margin.current = some d)
    (below : s.margin.stepIndex * s.settings.marginStep < 63) :
    s.writeStep = { s with
      margin := { s.margin with stepDue := false, dwell := 0, stepIndex := s.margin.stepIndex + 1 }
      src := s.src.writeAtten s.settings.attenSources ((s.margin.stepIndex + 1) * s.settings.marginStep) } := by
  rw [State.writeStep, current]
  exact if_neg (by rw [stepAtten]; omega)

theorem State.writeStep_cap (current : s.margin.current = some d)
    (capped : 63 ≤ s.margin.stepIndex * s.settings.marginStep) :
    s.writeStep = s.transmitDone (doneOfCap d s.margin.stepIndex) := by
  rw [State.writeStep, current]
  exact if_pos (by rw [stepAtten]; omega)

theorem State.configured_of_transmitting (transmits : s.roleOf d = .transmitting) :
    ∃ st, s.station = some st ∧ roleIn st.hopEnd d = .transmitting := by
  rcases Option.eq_none_or_eq_some s.station with none | ⟨st, configured⟩
  · simp [State.roleOf, none] at transmits
  · exact ⟨st, configured, (State.roleOf_configured configured d).symm.trans transmits⟩

/-- A step below the cap is written; it gives no result, so nothing is proposed (R140, R182). -/
theorem State.takeStepWrite_next (current : s.margin.current = some d) (due : s.stepWriteDue = true)
    (transmits : s.roleOf d = .transmitting) (below : s.margin.stepIndex * s.settings.marginStep < 63) :
    s.takeStepWrite = { s with
      margin := { s.margin with stepDue := false, dwell := 0, stepIndex := s.margin.stepIndex + 1 }
      src := s.src.writeAtten s.settings.attenSources ((s.margin.stepIndex + 1) * s.settings.marginStep) } := by
  obtain ⟨st, configured, -⟩ := State.configured_of_transmitting transmits
  rw [State.takeStepWrite, if_pos due, State.writeStep_next current below]
  exact State.autoOnset_quiet configured rfl rfl rfl (fun _ => rfl) fun onset => onset.2.2.1 onset.2.2.2

/-- The end of direction 1 at its transmitting end, which is direction 2's judge (R184). -/
theorem begun_judge (two : roleIn st.hopEnd .two = .judge) (x : State) :
    begun st .two x = { x with
      margin :=
        { x.margin with
          states := x.margin.states.set .two .active, current := some .two, results := x.margin.results.set .two none
          silence := 0, heard := 0, latched := none } } :=
  if_neg (by rw [two]; decide)

/-- The cap step ends the direction; end A is the judge of direction 2, and end B has no other to begin (R183, R184). -/
theorem State.takeStepWrite_cap (configured : s.station = some st) (current : s.margin.current = some d)
    (due : s.stepWriteDue = true) (transmits : roleIn st.hopEnd d = .transmitting)
    (capped : 63 ≤ s.margin.stepIndex * s.settings.marginStep) :
    (d = .one → s.takeStepWrite = begun st .two (transmitted st (doneOfCap d s.margin.stepIndex) s)) ∧
      (d = .two → s.takeStepWrite = transmitted st (doneOfCap d s.margin.stepIndex) s) := by
  obtain ⟨first, second⟩ := State.transmitDone_eq configured (doneOfCap d s.margin.stepIndex) transmits
  have written : s.takeStepWrite = s.autoOnset (s.transmitDone (doneOfCap d s.margin.stepIndex)) := by
    rw [State.takeStepWrite, if_pos due, State.writeStep_cap current capped]
  rw [written]
  refine ⟨fun one => ?_, fun two => ?_⟩
  · rw [first one]
    exact State.autoOnset_quiet configured (by simp [transmitted]) (by simp [transmitted]) (by simp [transmitted])
      (fun _ => by simp [transmitted]) (not_marginOnset_begunTwo _)
  · rw [second two]
    refine State.autoOnset_quiet configured rfl rfl rfl (fun _ => rfl) (not_marginOnset_endB ?_)
    rw [two] at transmits
    revert transmits
    cases st.hopEnd <;> simp [roleIn]

theorem State.announceStep_eq (configured : s.station = some st) (current : s.margin.current = some d) :
    let queued := queuedFor st (.mtest .step (stepBody s.settings d s.margin.stepIndex)) s.draws s.route
    s.announceStep = { s with
      draws := queued.1, route := queued.2
      margin := { s.margin with announced := s.margin.stepIndex, announceDue := false } } := by
  rw [State.announceStep, current]
  exact State.send_queuedFor _ st _ configured

theorem State.silenceAbort_transmitting (transmits : s.roleOf d = .transmitting) :
    s.silenceAbort d = { s with
      src := { s.src with atten := { live := 0, staged := 0, pending := false } }
      margin := { s.margin.abort d true with stepDue := false, announceDue := false }
      site := s.site.signal (.margin d (s.roleOf d) none false false .aborted) } := by
  rw [State.silenceAbort, if_pos transmits]
  rfl

theorem State.silenceAbort_other (other : s.roleOf d ≠ .transmitting) :
    s.silenceAbort d = { s with
      margin := { s.margin.abort d false with latched := none }
      site := s.site.signal (.margin d (s.roleOf d) none false false .aborted) } := by
  rw [State.silenceAbort, if_neg other]
  rfl

end

end Sys2Proof.Machine

namespace Sys2Proof.Proofs

open Sys2Proof Sys2Proof.Machine

/-- Settles O53: each row by its condition, the cap by `takeStepWrite_cap`. -/
theorem marginStepsRun : Obligations.MarginStepsRun := by
  intro d s current active m transmits step at0 sources immediate value writeDue silent aborted doneBody done
  have dwell := State.dwellDue_iff current active
  have write := State.stepWriteDue_iff current active
  have announce := State.announceIsDue_iff current active
  have silence := State.silenceDue_iff current active
  refine ⟨fun transmits_ reached fresh => ?_, fun why => ?_, fun due below => ?_, fun st configured due capped => ?_,
    fun idle => ?_, fun st configured transmits_ due => ?_, fun why => ?_, fun long => ?_, fun short => ?_⟩
  · exact congrArg Host.Outcome.next (if_pos (dwell.mpr ⟨transmits_, reached, fresh⟩))
  · refine congrArg Host.Outcome.next (if_neg fun due => ?_)
    obtain ⟨transmits_, reached, fresh⟩ := dwell.mp due
    rcases why with other | other | done_
    · exact other transmits_
    · exact other reached
    · exact absurd (fresh.symm.trans done_) (by decide)
  · have written := State.takeStepWrite_next current (write.mpr due) due.1 below
    rw [Source.writeAtten_eq] at written
    exact congrArg Host.Outcome.next written
  · have transmits_ : roleIn st.hopEnd d = .transmitting := (State.roleOf_configured configured d).symm.trans due.1
    obtain ⟨first, second⟩ := State.takeStepWrite_cap configured current (write.mpr due) transmits_ capped
    have told : (transmitted st (doneOfCap d s.margin.stepIndex) s).site = s.site.signal
        (.margin d .transmitting (some 63) true false
          (if s.settings.requiredMargin ≤ 63 then MarginOutcome.pass else .fail)) :=
      congrArg (fun r => s.site.signal (.margin d r (some 63) true false _)) transmits_
    refine ⟨s.takeStepWrite, rfl, ?_⟩
    cases d with
    | one =>
      have judges : roleIn st.hopEnd .two = .judge := by
        revert transmits_
        cases st.hopEnd <;> simp [roleIn]
      rw [first rfl, begun_judge judges]
      exact ⟨fun two => absurd two (by decide), fun _ => rfl, rfl, rfl, rfl, told⟩
    | two =>
      rw [second rfl]
      exact ⟨fun _ => rfl, fun one => absurd one (by decide), rfl, rfl, rfl, told⟩
  · exact congrArg Host.Outcome.next (if_neg (mt write.mp idle))
  · refine ⟨_, congrArg Host.Outcome.next (if_pos (announce.mpr ⟨transmits_, due⟩)), ?_⟩
    rw [State.announceStep_eq configured current]
    exact ⟨rfl, rfl⟩
  · refine congrArg Host.Outcome.next (if_neg fun due => ?_)
    obtain ⟨transmits_, told⟩ := announce.mp due
    rcases why with other | quiet
    · exact other transmits_
    · exact absurd (told.symm.trans quiet) (by decide)
  · have aborts : s.takeSilence = s.silenceAbort d := by
      rw [State.takeSilence, if_pos (silence.mpr long), State.abortCurrent]
      simp only [current, active, if_true]
    refine ⟨_, congrArg Host.Outcome.next aborts, ?_⟩
    by_cases transmits_ : s.roleOf d = .transmitting
    · rw [State.silenceAbort_transmitting transmits_]
      exact ⟨rfl, rfl, fun _ => ⟨rfl, rfl⟩, fun other => absurd transmits_ other⟩
    · rw [State.silenceAbort_other transmits_]
      exact ⟨rfl, rfl, fun now => absurd now transmits_, fun _ => ⟨rfl, rfl⟩⟩
  · exact congrArg Host.Outcome.next (if_neg (mt silence.mp short))

end Sys2Proof.Proofs
end

section
/-! PROOFS. The second event: its work in order, and what it does to the checker, the test source, the roster, the margin
procedure and the handover record (R114, R153 to R155, R158, R159, R163, R182, R186, R197, R200; log 37). -/

namespace Sys2Proof.Machine

/-! ### The order of the work (log 37) -/

/-- The second has been taken, and the totals start again (R163). -/
def secondBegun (s : State) : State :=
  { s with time := { s.time with secondDue := false }, chk := s.chk.closeSecond s.src.pattern.live }

/-- The totals have been delivered to the recorder and to the judge (R163). -/
def totalsHeard (s : State) : State := ((secondBegun s).deliverToSoak s.delivery).deliverToJudge s.delivery

/-- What follows the delivery (log 37). -/
def secondEnded (x : State) : State := x.ageRoster.applySecond.secondMargin.tickDigest

section

variable {s x : State} {st : Station}

/-- The checker's due work does not look at the time. -/
theorem State.takeSyncWord_time (t : Timebase) (s : State) :
    ({ s with time := t } : State).takeSyncWord = { s.takeSyncWord with time := t } := by
  unfold State.takeSyncWord
  dsimp only
  split <;> rfl

theorem State.completeWord_time (t : Timebase) (s : State) :
    ({ s with time := t } : State).completeWord = { s.completeWord with time := t } := by
  unfold State.completeWord
  dsimp only
  split <;> rfl

theorem State.takeWordComplete_time (t : Timebase) (s : State) :
    ({ s with time := t } : State).takeWordComplete = { s.takeWordComplete with time := t } := by
  unfold State.takeWordComplete
  rw [State.completeWord_time]
  dsimp only
  split <;> rfl

theorem State.settleSyncWork_time (t : Timebase) (s : State) :
    ({ s with time := t } : State).settleSyncWork = { s.settleSyncWork with time := t } := by
  rw [State.settleSyncWork, State.takeSyncWord_time, State.takeWordComplete_time]
  rfl

theorem State.takeIntervalEnd_time (t : Timebase) (s : State) :
    ({ s with time := t } : State).takeIntervalEnd = { s.takeIntervalEnd with time := t } := by
  unfold State.takeIntervalEnd
  rw [State.settleSyncWork_time]
  dsimp only
  split <;> rfl

theorem State.settleChecker_time (t : Timebase) (s : State) :
    ({ s with time := t } : State).settleChecker = { s.settleChecker with time := t } := by
  rw [State.settleChecker, State.settleSyncWork_time, State.takeIntervalEnd_time]
  rfl

theorem State.takeSecond_eq (due : s.time.secondDue = true) (settled : s.settleChecker = s) :
    s.takeSecond =
      ({ s with time := { s.time with secondDue := false } } : State).autoOnset (secondEnded (totalsHeard s)) := by
  have same : ({ s with time := { s.time with secondDue := false } } : State).settleChecker =
      { s with time := { s.time with secondDue := false } } := by rw [State.settleChecker_time, settled]
  rw [State.takeSecond, if_pos due, State.secondWork, same]
  rfl

/-! ### The roster ages (R112, R114, R200) -/

theorem RosterEntry.grow_eq (e : RosterEntry) :
    e.grow = { e with
      age := min 255 (e.age + 1)
      liveness := if e.age + 1 < 6 then .live else if e.age + 1 < 30 then .quiet else .lost } := by
  have young : ∀ n, n ≤ 255 → (min 255 (e.age + 1) < n ↔ e.age + 1 < n) := fun n _ => by omega
  rw [RosterEntry.grow, satInc_eq, livenessOf]
  simp only [young 6 (by decide), young 30 (by decide)]

/-- A change of the partner liveness to LOST makes a PENDING record INCOMPLETE (R200). -/
theorem State.partnerEntryChanged_handover (x : State) :
    (x.handover = none → x.partnerEntryChanged.handover = none) ∧
      ∀ h, x.handover = some h →
        (x.partnerShows = .lost ∧ x.route.partner ≠ .lost → h.overall = .pending →
          x.partnerEntryChanged.handover = some { h with overall := .incomplete } ∧
            EventFlag.handover ∈ x.partnerEntryChanged.site.flags) ∧
        (¬ (x.partnerShows = .lost ∧ x.route.partner ≠ .lost) ∨ h.overall ≠ .pending →
          x.partnerEntryChanged.handover = some h) := by
  have handover : x.partnerEntryChanged.handover = x.refreshPartner.handover := by
    simp [State.partnerEntryChanged, State.decideConflict_eq]
  have told : Signalled x.refreshPartner.site x.partnerEntryChanged.site := by
    rw [State.partnerEntryChanged, show ∀ y : State, y.updateLevelCondition.site = y.site from fun y => by simp]
    exact (State.decideConflict_signalled _).1
  rw [handover]
  by_cases lost : x.partnerShows = .lost ∧ x.route.partner ≠ .lost
  · have changed : x.partnerShows ≠ x.route.partner := fun same => lost.2 (same ▸ lost.1)
    have refreshed := State.refreshPartner_changed changed
    dsimp only at refreshed
    rw [if_pos lost.1] at refreshed
    refine ⟨fun none => ?_, fun h record => ⟨fun _ pending => ?_, fun other => ?_⟩⟩
    · rw [refreshed, State.handoverIncomplete]
      simp only [none]
    · have incomplete : x.refreshPartner = State.setOverall h .incomplete { x with
          route := { x.route with partner := x.partnerShows }
          site := x.site.signal (.partner x.partnerShows x.partnerAge) } := by
        rw [refreshed, State.handoverIncomplete]
        simp only [record]
        exact if_pos pending
      rw [incomplete] at told ⊢
      exact ⟨rfl, told.flag (State.event_mem_signal _ _)⟩
    · rw [refreshed, State.handoverIncomplete]
      simp only [record]
      rw [if_neg (other.resolve_left (Classical.not_not.mpr lost))]
  · have kept : x.refreshPartner.handover = x.handover := by
      by_cases same : x.partnerShows = x.route.partner
      · rw [State.refreshPartner_same same]
      · rw [State.refreshPartner_changed same]
        dsimp only
        rw [if_neg fun gone => lost ⟨gone, fun was => same (gone.trans was.symm)⟩]
    rw [kept]
    exact ⟨id, fun h record => ⟨fun now => absurd now lost, fun _ => record⟩⟩

/-! ### The delivery to the judge (R186) -/

theorem State.deliverToJudge_other {dl : Delivery}
    (other : ¬ ∃ d, x.margin.current = some d ∧ x.activeAs d .judge = true ∧ dl.enabled = true ∧
      badSecond dl.totals = true) : x.deliverToJudge dl = x := by
  rcases Option.eq_none_or_eq_some x.margin.current with none | ⟨d, current⟩
  · rw [State.deliverToJudge, none]
  · rw [State.deliverToJudge, current]
    refine if_neg fun acts => other ⟨d, current, ?_⟩
    simpa [and_assoc] using acts

/-- A BAD second at the judge latches the step heard and sends its LIMIT (R186). -/
theorem State.deliverToJudge_bad {dl : Delivery} {d : Direction} (configured : x.station = some st)
    (current : x.margin.current = some d) (judges : x.activeAs d .judge = true) (enabled : dl.enabled = true)
    (bad : badSecond dl.totals = true) :
    let step := x.margin.latched.getD x.margin.heard
    let queued := queuedFor st (.mtest .limit (limitBody d step)) x.draws x.route
    x.deliverToJudge dl = { x with
      draws := queued.1, route := queued.2, margin := { x.margin with latched := some step } } := by
  have acts : x.deliverToJudge dl = x.judgeBad d := by
    rw [State.deliverToJudge, current]
    dsimp only
    rw [judges, enabled, bad, if_pos (by decide)]
  rw [acts, State.judgeBad, State.send_queuedFor _ st _ (by exact configured)]

/-! ### The apply, the dwell and the DIGEST timer (R153 to R155, R175, R182) -/

/-- What follows the delivery, block by block. -/
theorem secondEnded_blocks (x : State) :
    (secondEnded x).draws = x.ageRoster.draws ∧ (secondEnded x).route = x.ageRoster.route ∧
      (secondEnded x).site = x.ageRoster.site ∧ (secondEnded x).handover = x.ageRoster.handover ∧
      (secondEnded x).hop = x.hop ∧
      (secondEnded x).src = (x.src.applyAtten x.settings.attenSources.second).applyPattern ∧
      (secondEnded x).chk = (if x.src.patternChanges = true then x.chk.start else x.chk) ∧
      (secondEnded x).soak = { x.soak with digestTimer := Timer.tick x.soak.digestTimer } ∧
      (secondEnded x).margin = (if x.transmitting = true then
        { x.margin with
          dwell := min 60 (x.margin.dwell + 1), announceDue := x.margin.announced != x.margin.stepIndex }
        else x.margin) := by
  have transmits : x.ageRoster.applySecond.transmitting = x.transmitting :=
    State.transmitting_congr (by simp) (by simp) (by simp)
  refine ⟨by simp [secondEnded], by simp [secondEnded], by simp [secondEnded], by simp [secondEnded],
    by simp [secondEnded], ?_, ?_, ?_, ?_⟩
  · simp [secondEnded, State.applySecond]
  · simp [secondEnded, State.applySecond]
  · simp [secondEnded, State.tickDigest]
  · rw [secondEnded, State.tickDigest_frame _ |>.2.2.2.2.2.2.2.2.2.2.2.2.2.2.2.1, State.secondMargin, transmits]
    split
    · simp [Margin.tickDwell]
    · simp

theorem secondEnded_kept (x : State) :
    (secondEnded x).pending = x.pending ∧ (secondEnded x).time = x.time ∧ (secondEnded x).station = x.station ∧
      (secondEnded x).settings = x.settings ∧ (secondEnded x).level = x.level ∧ (secondEnded x).ident = x.ident ∧
      (secondEnded x).pos = x.pos ∧ (secondEnded x).map = x.map ∧ (secondEnded x).lobe = x.lobe ∧
      (secondEnded x).cue = x.cue ∧ (secondEnded x).supply = x.supply := by
  simp [secondEnded]

end

end Sys2Proof.Machine

end

section
/-! PROOFS. The second event taken (R114, R153 to R155, R158, R159, R163, R182, R186, R197, R200). -/

namespace Sys2Proof.Machine

section

variable {s x : State} {st : Station}

/-! ### What the delivery of the totals leaves as it stands (R163) -/

theorem State.soakSecond_hearing (t : Totals) (x : State) : hearing (x.soakSecond t).route = hearing x.route := by
  unfold State.soakSecond State.afterSoakSecond State.closeSoak State.sendDigest
  dsimp only
  repeat' split
  all_goals simp

theorem State.deliverToSoak_hearing (dl : Delivery) (x : State) : hearing (x.deliverToSoak dl).route = hearing x.route := by
  unfold State.deliverToSoak
  split
  · split
    · exact State.soakSecond_hearing ..
    · rfl
  · exact State.soakSecond_hearing ..
  · rfl

/-- A soak that does not run takes no second (R168). -/
theorem State.deliverToSoak_idle {dl : Delivery} (idle : x.soak.running = false) : x.deliverToSoak dl = x := by
  unfold State.deliverToSoak
  split
  · next waiting => simp [Soak.running, waiting] at idle
  · next opened => simp [Soak.running, opened] at idle
  · rfl

theorem State.deliverToJudge_hearing (dl : Delivery) (x : State) :
    hearing (x.deliverToJudge dl).route = hearing x.route := by
  unfold State.deliverToJudge State.judgeBad
  dsimp only
  repeat' split
  all_goals simp

theorem totalsHeard_frame (s : State) :
    (totalsHeard s).pending = s.pending ∧ (totalsHeard s).time = { s.time with secondDue := false } ∧
      (totalsHeard s).station = s.station ∧ (totalsHeard s).settings = s.settings ∧ (totalsHeard s).level = s.level ∧
      (totalsHeard s).ident = s.ident ∧ (totalsHeard s).pos = s.pos ∧ (totalsHeard s).map = s.map ∧
      (totalsHeard s).lobe = s.lobe ∧ (totalsHeard s).cue = s.cue ∧ (totalsHeard s).hop = s.hop ∧
      (totalsHeard s).src = s.src ∧ (totalsHeard s).chk = s.chk.closeSecond s.src.pattern.live ∧
      (totalsHeard s).handover = s.handover ∧ (totalsHeard s).supply = s.supply ∧
      hearing (totalsHeard s).route = hearing s.route := by
  have heard : hearing (totalsHeard s).route = hearing s.route :=
    (State.deliverToJudge_hearing ..).trans (State.deliverToSoak_hearing ..)
  simp only [heard, and_true]
  simp [totalsHeard, secondBegun]

/-! ### The roster after a second (R114) -/

/-- The roster one second older, before what follows from it. -/
def rosterAged (x : State) : State := { x with route := x.route.ageRoster }

theorem State.ageRoster_eq (x : State) : x.ageRoster = (rosterAged x).partnerEntryChanged := rfl

/-- The second event's end in the head's ear: the roster aged, the partner liveness from it (R114). -/
theorem secondTaken_hearing (u x : State) :
    hearing (u.autoOnset (secondEnded x)).route =
      hearing { (rosterAged x).route with
        partner := (rosterAged x).partnerShows, conflict := (rosterAged x).conflictsNow } := by
  obtain ⟨-, route, -⟩ := secondEnded_blocks x
  rw [State.autoOnset_hearing, route, State.ageRoster_eq, State.partnerEntryChanged, State.updateLevelCondition_hearing,
    State.refreshed_route]

/-! ### The margin procedure at a second (R182, R186) -/

/-- The totals have been delivered to the recorder alone (R163). -/
def soakHeard (s : State) : State := (secondBegun s).deliverToSoak s.delivery

theorem soakHeard_frame (s : State) :
    (soakHeard s).station = s.station ∧ (soakHeard s).margin = s.margin := by
  simp [soakHeard, secondBegun]

theorem soakHeard_activeAs (s : State) (d : Direction) (role : MarginRole) :
    (soakHeard s).activeAs d role = true ↔
      s.margin.current = some d ∧ s.margin.states.get d = .active ∧ s.roleOf d = role := by
  obtain ⟨station, margin⟩ := soakHeard_frame s
  rw [State.activeAs, margin, State.roleOf_congr station]
  simp [and_assoc]

theorem totalsHeard_quiet
    (quiet : ¬ ((∃ d, s.margin.current = some d ∧ s.margin.states.get d = .active ∧ s.roleOf d = .judge) ∧
      s.src.pattern.live = true ∧ badSecond s.chk.totals = true)) : totalsHeard s = soakHeard s := by
  refine State.deliverToJudge_other ?_
  rintro ⟨d, -, judges, enabled, bad⟩
  exact quiet ⟨⟨d, (soakHeard_activeAs s d .judge).mp judges⟩, enabled, bad⟩

theorem State.configured_of_judge {d : Direction} (judges : s.roleOf d = .judge) : ∃ st, s.station = some st := by
  rcases Option.eq_none_or_eq_some s.station with none | some
  · simp [State.roleOf, none] at judges
  · exact some

theorem totalsHeard_bad {d : Direction} (configured : s.station = some st) (current : s.margin.current = some d)
    (active : s.margin.states.get d = .active) (judges : s.roleOf d = .judge) (live : s.src.pattern.live = true)
    (bad : badSecond s.chk.totals = true) :
    let step := s.margin.latched.getD s.margin.heard
    let queued := queuedFor st (.mtest .limit (limitBody d step)) (soakHeard s).draws (soakHeard s).route
    totalsHeard s = { soakHeard s with
      draws := queued.1, route := queued.2, margin := { s.margin with latched := some step } } := by
  obtain ⟨station, margin⟩ := soakHeard_frame s
  have taken := State.deliverToJudge_bad (x := soakHeard s) (dl := s.delivery) (station.trans configured)
    (by rw [margin]; exact current) ((soakHeard_activeAs s d .judge).mpr ⟨current, active, judges⟩) live bad
  rw [margin] at taken
  exact taken

theorem totalsHeard_transmitting (s : State) : (totalsHeard s).transmitting = s.transmitting := by
  have kept : ∀ y : State, y.station = s.station → y.margin.current = s.margin.current →
      y.margin.states = s.margin.states → y.transmitting = s.transmitting := fun y => State.transmitting_congr
  obtain ⟨station, margin⟩ := soakHeard_frame s
  by_cases bad : (∃ d, s.margin.current = some d ∧ s.margin.states.get d = .active ∧ s.roleOf d = .judge) ∧
      s.src.pattern.live = true ∧ badSecond s.chk.totals = true
  · obtain ⟨⟨d, current, active, judges⟩, live, bad⟩ := bad
    obtain ⟨st, configured⟩ := State.configured_of_judge judges
    rw [totalsHeard_bad configured current active judges live bad]
    exact kept _ station rfl rfl
  · rw [totalsHeard_quiet bad]
    exact kept _ station (by rw [margin]) (by rw [margin])

/-! ### The test source at a second (R153 to R155, R158) -/

theorem Source.patternChanges_iff (x : Source) :
    x.patternChanges = true ↔ x.pattern.pending = true ∧ x.pattern.staged ≠ x.pattern.live := by
  simp [Source.patternChanges]

/-- The SECOND apply event: the attenuation when its set names SECOND, the pattern enable always (R153 to R155). -/
theorem Source.applied (named : Bool) (x : Source) :
    let y := (x.applyAtten named).applyPattern
    y.pattern =
        (if x.pattern.pending then { live := x.pattern.staged, staged := x.pattern.staged, pending := false }
        else x.pattern) ∧
      y.atten =
        (if named = true ∧ x.atten.pending = true then
          { live := x.atten.staged, staged := x.atten.staged, pending := false }
        else x.atten) ∧
      y.beacon = x.beacon ∧ y.keyOut = x.keyOut ∧ y.sync = x.sync ∧
      (x.patternChanges = true → y.genWord = 0 ∧ y.genBit = 15 ∧ y.genOut = false) ∧
      (¬ x.patternChanges = true → y.genWord = x.genWord ∧ y.genBit = x.genBit ∧ y.genOut = x.genOut) := by
  intro y
  have same : (x.applyAtten named).patternChanges = x.patternChanges := rfl
  have atten := Staged.applyOn_eq named x.atten
  by_cases changes : x.patternChanges = true
  · have started : y = ({ x.applyAtten named with pattern := x.pattern.applyOn true } : Source).generatorStart :=
      if_pos (same.trans changes)
    rw [started]
    exact ⟨rfl, atten, rfl, rfl, rfl, fun _ => ⟨rfl, rfl, rfl⟩, fun still => absurd changes still⟩
  · have kept : y = { x.applyAtten named with pattern := x.pattern.applyOn true } :=
      if_neg (by rw [same]; exact changes)
    rw [kept]
    exact ⟨rfl, atten, rfl, rfl, rfl, fun now => absurd now changes, fun _ => ⟨rfl, rfl, rfl⟩⟩

end

end Sys2Proof.Machine

namespace Sys2Proof.Proofs

open Sys2Proof Sys2Proof.Machine

/-- Settles O51: the work of the second in its order, block by block. -/
theorem secondEventIsTaken : Obligations.SecondEventIsTaken := by
  intro s
  refine ⟨fun idle => congrArg Host.Outcome.next (if_neg (Bool.eq_false_iff.mp idle)), fun due settled => ?_⟩
  intro changes delivered_ inRole badSecondSeen
  obtain ⟨x, x_eq⟩ : ∃ x, x = totalsHeard s := ⟨_, rfl⟩
  obtain ⟨u, u_eq⟩ : ∃ u : State, u = { s with time := { s.time with secondDue := false } } := ⟨_, rfl⟩
  obtain ⟨t, t_eq⟩ : ∃ t, t = u.autoOnset (secondEnded x) := ⟨_, rfl⟩
  have taken : exec .secondEvent s = .next t := by
    rw [t_eq, x_eq, u_eq]
    exact congrArg Host.Outcome.next (State.takeSecond_eq due settled)
  obtain ⟨xPending, xTime, xStation, xSettings, xLevel, xIdent, xPos, xMap, xLobe, xCue, xHop, xSrc, xChk, xHandover,
    xSupply, xHearing⟩ := x_eq ▸ totalsHeard_frame s
  obtain ⟨ePending, eTime, eStation, eSettings, eLevel, eIdent, ePos, eMap, eLobe, eCue, eSupply⟩ := secondEnded_kept x
  obtain ⟨eDraws, eRoute, eSite, eHandover, eHop, eSrc, eChk, eSoak, eMargin⟩ := secondEnded_blocks x
  have tFrame : t.site = x.ageRoster.site ∧ t.handover = x.ageRoster.handover ∧ t.src = (secondEnded x).src ∧
      t.chk = (secondEnded x).chk ∧ t.margin = (secondEnded x).margin := by
    rw [t_eq]
    simp [eSite, eHandover]
  obtain ⟨tSite, tHandover, tSrc, tChk, tMargin⟩ := tFrame
  rw [eSrc, xSrc, xSettings] at tSrc
  rw [eChk, xSrc, xChk] at tChk
  rw [eMargin, x_eq, totalsHeard_transmitting, ← x_eq] at tMargin
  have tHearing := secondTaken_hearing u x
  rw [← t_eq] at tHearing
  obtain ⟨aged, a_eq⟩ : ∃ aged, aged = rosterAged x := ⟨_, rfl⟩
  rw [← a_eq] at tHearing
  simp only [hearing, Prod.mk.injEq] at tHearing xHearing
  obtain ⟨tRoster, tPartner, tConflict, -⟩ := tHearing
  obtain ⟨xRoster, xPartner, -⟩ := xHearing
  have tStation : t.station = aged.station := by rw [t_eq, a_eq]; simp [eStation, rosterAged]
  have tEntry : t.partnerEntry = aged.partnerEntry := State.partnerEntry_congr tStation tRoster
  have aPartner : aged.route.partner = s.route.partner := by rw [a_eq]; exact xPartner
  obtain ⟨source, sourceAtten, beacon, keyOut, sync, starts, stays⟩ :=
    Source.applied s.settings.attenSources.second s.src
  rw [← tSrc] at source sourceAtten beacon keyOut sync starts stays
  have changesIff : changes ↔ s.src.patternChanges = true := (Source.patternChanges_iff _).symm
  have transmits := State.transmitting_iff s
  have both : inRole .transmitting → ¬ inRole .judge := by
    rintro ⟨d, current, -, transmits_⟩ ⟨e, current', -, judges⟩
    rw [← Option.some.inj (current.symm.trans current')] at judges
    exact absurd (transmits_.symm.trans judges) (by decide)
  have xMargin : ¬ (inRole .judge ∧ badSecondSeen) → x.margin = s.margin := fun quiet => by
    rw [x_eq, totalsHeard_quiet quiet]
    exact (soakHeard_frame s).2
  have xLatched : inRole .judge → badSecondSeen →
      x.margin = { s.margin with latched := some (s.margin.latched.getD s.margin.heard) } := by
    rintro ⟨d, current, active, judges⟩ ⟨live, bad⟩
    obtain ⟨st, configured⟩ := State.configured_of_judge judges
    rw [x_eq, totalsHeard_bad configured current active judges live bad]
  refine ⟨t, taken, ?_, ?_, ?_, ?_, fun changed => ?_, ?_, ?_, fun now => ?_, fun still => ?_, source, sourceAtten, beacon,
    keyOut, sync, fun inTransmit => ?_, fun inJudge bad => ?_, fun st d configured current inJudge bad inMargin quiet => ?_,
    fun h record => ?_, fun none => ?_, fun noTransmit noJudge => ?_⟩
  · refine State.eq_of_fields ?_
    rw [t_eq]
    simp [ePending, eTime, eStation, eSettings, eLevel, eIdent, ePos, eMap, eLobe, eCue, eSupply, xPending, xTime, xStation,
      xSettings, xLevel, xIdent, xPos, xMap, xLobe, xCue, xSupply]
  · rw [t_eq, State.autoOnset_phase, eHop, xHop]
  · have grow : RosterEntry.grow = fun e => { e with
        age := min 255 (e.age + 1)
        liveness := if e.age + 1 < 6 then .live else if e.age + 1 < 30 then .quiet else .lost } :=
      funext RosterEntry.grow_eq
    rw [tRoster, a_eq, rosterAged, Route.ageRoster, xRoster, grow]
  · rw [tPartner, tEntry]
    rfl
  · rw [tSite, State.ageRoster_eq, ← a_eq]
    refine (State.partnerEntryChanged_signalled aged).2.1 ?_
    rw [aPartner]
    exact tPartner ▸ changed
  · rw [tChk]
    split <;> rfl
  · rw [tChk]
    split <;> rfl
  · rw [tChk, if_pos (changesIff.mp now)]
    exact ⟨rfl, starts (changesIff.mp now)⟩
  · rw [tChk, if_neg (mt changesIff.mpr still)]
    exact ⟨rfl, stays (mt changesIff.mpr still)⟩
  · rw [tMargin, if_pos (transmits.mpr inTransmit), xMargin (fun judge => both inTransmit judge.1)]
  · obtain ⟨d, current, active, judges⟩ := inJudge
    rw [tMargin, if_neg (fun on => both (transmits.mp on) ⟨d, current, active, judges⟩), xLatched ⟨d, current, active, judges⟩ bad]
  · obtain ⟨e, current', active, judges⟩ := inJudge
    rw [Option.some.inj (current'.symm.trans current)] at active judges
    have heard := totalsHeard_bad configured current active judges bad.1 bad.2
    rw [← x_eq, soakHeard, State.deliverToSoak_idle (by exact quiet)] at heard
    have results : (secondEnded x).margin.results = u.margin.results := by
      rw [eMargin, u_eq, apply_ite Margin.results, ite_self, heard]
    have still : t = secondEnded x := by
      rw [t_eq]
      refine State.autoOnset_quiet (st := st) ?_ ?_ ?_ ?_ (fun outside => absurd ?_ outside) fun onset => ?_
      · rw [u_eq]; exact configured
      · rw [eStation, xStation, u_eq]
      · rw [eSettings, xSettings, u_eq]
      · rw [eHop, xHop, u_eq]
      · rw [eHop, xHop]; exact inMargin
      · have same : (secondEnded x).margin.bothDone = u.margin.bothDone := by
          unfold Margin.bothDone Margin.doneAt
          rw [results]
        exact onset.2.2.1 (same ▸ onset.2.2.2)
    obtain ⟨-, route⟩ := State.partnerEntryChanged_route (s := aged)
      (by rw [a_eq]; exact xHop ▸ (by rw [inMargin]; decide)) (by rw [a_eq]; exact xHop ▸ (by rw [inMargin]; decide))
    have tRoute : t.route = _ := (still ▸ eRoute).trans (a_eq ▸ route)
    rw [tRoute, rosterAged, heard]
    rfl
  · obtain ⟨-, follows⟩ := State.partnerEntryChanged_handover aged
    have aRecord : aged.handover = some h := by rw [a_eq]; exact xHandover.trans record
    obtain ⟨lost, kept⟩ := follows h aRecord
    rw [aPartner] at lost kept
    rw [tPartner, tHandover, tSite, State.ageRoster_eq, ← a_eq]
    exact ⟨lost, kept⟩
  · rw [tHandover, State.ageRoster_eq, ← a_eq]
    refine (State.partnerEntryChanged_handover aged).1 ?_
    rw [a_eq]
    exact xHandover.trans none
  · rw [tMargin, if_neg (mt transmits.mp noTransmit), xMargin noJudge]

end Sys2Proof.Proofs
end

section
/-! PROOFS. One soak second: its class, its place by the availability rule, and what it leaves as it stands (R169 to
R173). -/

namespace Sys2Proof.Machine

/-! ### Classes (R169) -/

theorem provisionalClass_eq (t : Totals) :
    provisionalClass t =
      if t.intervals = 0 ∨ t.intervals ≤ t.notLocked * 10 ∨ (0 < t.bitsChecked ∧ t.bitsChecked ≤ t.bitErrors * 1000) then
        .bad
      else if 1 ≤ t.bitErrors ∨ 1 ≤ t.notLocked ∨ 1 ≤ t.slips then .errored
      else .clean := by
  have bad : badSecond t = true ↔
      t.intervals = 0 ∨ t.intervals ≤ t.notLocked * 10 ∨ (0 < t.bitsChecked ∧ t.bitsChecked ≤ t.bitErrors * 1000) := by
    simp [badSecond, or_assoc]
  rw [provisionalClass]
  simp only [bad]

section

variable {c : SecondClass} {q : Soak}

/-! ### The release of seconds (R170, R171) -/

/-- How many of the pending seconds are of a class. -/
def pendingOf (c : SecondClass) (ps : List PendingSecond) : Nat := (ps.filter fun x => x.provisional == c).length

theorem pendingOf_append (c : SecondClass) (ps : List PendingSecond) (p : PendingSecond) :
    pendingOf c (ps ++ [p]) = pendingOf c ps + if p.provisional = c then 1 else 0 := by
  by_cases same : p.provisional = c <;> simp [pendingOf, List.filter_append, same]

theorem Soak.release_eq (c : SecondClass) (k : Soak) :
    k.release c = { k with
      clean := k.clean + (if c = .clean then 1 else 0), errored := k.errored + (if c = .errored then 1 else 0)
      bad := k.bad + (if c = .bad then 1 else 0) } := by
  cases c <;> rfl

theorem Soak.foldl_release_eq (ps : List PendingSecond) (k : Soak) :
    ps.foldl (fun k p => k.release p.provisional) k = { k with
      clean := k.clean + pendingOf .clean ps, errored := k.errored + pendingOf .errored ps
      bad := k.bad + pendingOf .bad ps } := by
  have step : ∀ (c : SecondClass) (p : PendingSecond) (ps : List PendingSecond),
      pendingOf c (p :: ps) = (if p.provisional = c then 1 else 0) + pendingOf c ps := by
    intro c p ps
    rw [pendingOf, List.filter_cons, pendingOf]
    simp only [beq_iff_eq]
    split
    · rw [List.length_cons, Nat.add_comm]
    · rw [Nat.zero_add]
  induction ps generalizing k with
  | nil => rfl
  | cons p ps ih =>
    rw [List.foldl_cons, ih, Soak.release_eq, step, step, step]
    simp only [Nat.add_assoc]

/-! ### The availability rule, case by case (R170, R171) -/

theorem Soak.place_available (available : q.availability = .available) : q.place c = q.placeAvailable c := by
  rw [Soak.place, available]

theorem Soak.place_outage (away : q.availability = .outage) : q.place c = q.placeOutage c := by
  rw [Soak.place, away]

/-- In AVAILABLE a second that is not BAD releases the pending ones as BAD (R170). -/
theorem Soak.place_available_good (available : q.availability = .available) (good : c ≠ .bad) :
    q.place c = ({ q with
      pending := [], bad := q.bad + q.pending.length, clean := q.clean + (if c = .clean then 1 else 0)
      errored := q.errored + (if c = .errored then 1 else 0) }, none) := by
  rw [Soak.place_available available, Soak.placeAvailable, if_neg good, Soak.release_eq, if_neg good]
  rfl

theorem Soak.place_available_held (available : q.availability = .available) (few : q.pending.length < 9) :
    q.place .bad = ({ q with pending := q.pending ++ [{ number := q.elapsed, provisional := .bad }] }, none) := by
  have held : ¬ 10 ≤ (q.hold .bad).pending.length := by
    rw [(q.hold_counts .bad).2.1]
    omega
  rw [Soak.place_available available, Soak.placeAvailable, if_pos rfl]
  exact if_neg held

/-- The tenth pending BAD second begins an outage (R170). -/
theorem Soak.place_available_full (available : q.availability = .available) (full : 9 ≤ q.pending.length) :
    ∃ r : Report, r.event = .outage ∧ q.place .bad = ({ q with
      availability := .outage, outage := q.outage + (q.pending.length + 1), currentOutage := q.pending.length + 1
      periods := min 65535 (q.periods + 1), pending := [] }, some r) := by
  have tenth : (q.hold .bad).pending.length = q.pending.length + 1 := (q.hold_counts .bad).2.1
  refine ⟨.outage .start (q.hold .bad).oldest (satInc max16 q.periods) (q.pending.length + 1), rfl, ?_⟩
  rw [Soak.place_available available, Soak.placeAvailable, if_pos rfl]
  refine (if_pos (by rw [tenth]; omega)).trans ?_
  rw [Soak.startOutage, tenth, ← satInc_eq]
  rfl

/-- In OUTAGE a BAD second releases the pending ones, and itself, as OUTAGE (R171). -/
theorem Soak.place_outage_bad (away : q.availability = .outage) :
    q.place .bad = ({ q with
      pending := [], outage := q.outage + (q.pending.length + 1)
      currentOutage := q.currentOutage + (q.pending.length + 1) }, none) := by
  have joined : (q.hold .bad).pending.length = q.pending.length + 1 := (q.hold_counts .bad).2.1
  rw [Soak.place_outage away, Soak.placeOutage, if_pos rfl, Soak.pendingAsOutage, joined]
  rfl

theorem Soak.place_outage_held (away : q.availability = .outage) (good : c ≠ .bad) (few : q.pending.length < 9) :
    q.place c = ({ q with pending := q.pending ++ [{ number := q.elapsed, provisional := c }] }, none) := by
  have held : ¬ 10 ≤ (q.hold c).pending.length := by
    rw [(q.hold_counts c).2.1]
    omega
  rw [Soak.place_outage away, Soak.placeOutage, if_neg good]
  exact if_neg held

/-- The tenth pending second that is not BAD ends the outage, all of them released under their classes (R171, R172). -/
theorem Soak.place_outage_full (away : q.availability = .outage) (good : c ≠ .bad) (full : 9 ≤ q.pending.length) :
    ∃ r : Report, r.event = .outage ∧ q.place c = ({ q with
      availability := .available, pending := []
      clean := q.clean + (pendingOf .clean q.pending + if c = .clean then 1 else 0)
      errored := q.errored + (pendingOf .errored q.pending + if c = .errored then 1 else 0)
      bad := q.bad + pendingOf .bad q.pending, longestOutage := max q.longestOutage q.currentOutage
      currentOutage := 0 }, some r) := by
  refine ⟨.outage .finish (q.hold c).oldest (q.hold c).periods (q.hold c).currentOutage, rfl, ?_⟩
  rw [Soak.place_outage away, Soak.placeOutage, if_neg good]
  refine (if_pos (by rw [(q.hold_counts c).2.1]; omega)).trans ?_
  rw [Soak.finishOutage, Soak.releasePending, Soak.foldl_release_eq]
  simp only [Soak.hold, pendingOf_append, if_neg good]
  rfl

/-- A placed second leaves the rest of the recorder as it stands. -/
theorem Soak.place_kept (c : SecondClass) (q : Soak) :
    (q.place c).1 = { q with
      availability := (q.place c).1.availability, pending := (q.place c).1.pending, clean := (q.place c).1.clean
      errored := (q.place c).1.errored, bad := (q.place c).1.bad, outage := (q.place c).1.outage
      periods := (q.place c).1.periods, currentOutage := (q.place c).1.currentOutage
      longestOutage := (q.place c).1.longestOutage } := by
  by_cases full : 9 ≤ q.pending.length
  · rcases away : q.availability with _ | _
    · by_cases bad : c = .bad
      · obtain ⟨r, -, placed⟩ := Soak.place_available_full away full
        rw [bad, placed]
      · rw [Soak.place_available_good away bad]
    · by_cases bad : c = .bad
      · rw [bad, Soak.place_outage_bad away]
      · obtain ⟨r, -, placed⟩ := Soak.place_outage_full away bad full
        rw [placed]
  · have few : q.pending.length < 9 := Nat.not_le.mp full
    rcases away : q.availability with _ | _
    · by_cases bad : c = .bad
      · rw [bad, Soak.place_available_held away few]
      · rw [Soak.place_available_good away bad]
    · by_cases bad : c = .bad
      · rw [bad, Soak.place_outage_bad away]
      · rw [Soak.place_outage_held away bad few]

/-- The figures of a soak second, the recorder k standing before it but for its state and settling count (R169 to
R172). -/
theorem Soak.second_figures {k : Soak} {t : Totals} (same : q = { k with state := q.state, settling := q.settling })
    (class_ : provisionalClass t = c) :
    let m := (q.second t).1
    let p := k.pending.length
    let one (x : SecondClass) : Nat := if c = x then 1 else 0
    (k.availability = .available → c ≠ .bad →
      m.pending = [] ∧ m.bad = k.bad + p ∧ m.clean = k.clean + one .clean ∧ m.errored = k.errored + one .errored ∧
        m.outage = k.outage ∧ m.availability = .available) ∧
    (k.availability = .available → c = .bad → p < 9 →
      m.pending = k.pending ++ [{ number := k.elapsed + 1, provisional := .bad }] ∧ m.bad = k.bad ∧
        m.clean = k.clean ∧ m.errored = k.errored ∧ m.outage = k.outage ∧ m.availability = .available) ∧
    (k.availability = .available → c = .bad → p = 9 →
      m.pending = [] ∧ m.outage = k.outage + 10 ∧ m.bad = k.bad ∧ m.clean = k.clean ∧ m.errored = k.errored ∧
        m.availability = .outage ∧ m.currentOutage = 10 ∧ m.periods = min 65535 (k.periods + 1) ∧
        ∃ r : Report, r.event = .outage ∧ (q.second t).2 = some r) ∧
    (k.availability = .outage → c = .bad →
      m.pending = [] ∧ m.outage = k.outage + p + 1 ∧ m.currentOutage = k.currentOutage + p + 1 ∧ m.bad = k.bad ∧
        m.clean = k.clean ∧ m.errored = k.errored ∧ m.availability = .outage) ∧
    (k.availability = .outage → c ≠ .bad → p < 9 →
      m.pending = k.pending ++ [{ number := k.elapsed + 1, provisional := c }] ∧ m.outage = k.outage ∧
        m.currentOutage = k.currentOutage ∧ m.bad = k.bad ∧ m.clean = k.clean ∧ m.errored = k.errored ∧
        m.availability = .outage) ∧
    (k.availability = .outage → c ≠ .bad → p = 9 →
      m.pending = [] ∧ m.availability = .available ∧ m.currentOutage = 0 ∧
        m.longestOutage = max k.longestOutage k.currentOutage ∧
        m.clean = k.clean + pendingOf .clean k.pending + one .clean ∧
        m.errored = k.errored + pendingOf .errored k.pending + one .errored ∧
        m.bad = k.bad + pendingOf .bad k.pending ∧ m.outage = k.outage ∧
        ∃ r : Report, r.event = .outage ∧ (q.second t).2 = some r) := by
  obtain ⟨w, w_eq⟩ : ∃ w, w = q.count c := ⟨_, rfl⟩
  have second : q.second t = w.place c := by rw [w_eq, Soak.second, class_]
  have kept : w.availability = k.availability ∧ w.pending = k.pending ∧ w.clean = k.clean ∧ w.errored = k.errored ∧
      w.bad = k.bad ∧ w.outage = k.outage ∧ w.periods = k.periods ∧ w.currentOutage = k.currentOutage ∧
      w.longestOutage = k.longestOutage ∧ w.elapsed = k.elapsed + 1 := by
    rw [w_eq, same]
    exact ⟨rfl, rfl, rfl, rfl, rfl, rfl, rfl, rfl, rfl, rfl⟩
  obtain ⟨availability, pending, clean, errored, bad, outage, periods, current, longest, elapsed⟩ := kept
  dsimp only
  rw [second, ← availability, ← pending, ← clean, ← errored, ← bad, ← outage, ← periods, ← current, ← longest, ← elapsed]
  refine ⟨fun here good => ?_, fun here is few => ?_, fun here is nine => ?_, fun away is => ?_, fun away good few => ?_,
    fun away good nine => ?_⟩
  · rw [Soak.place_available_good here good]
    exact ⟨rfl, rfl, rfl, rfl, rfl, here⟩
  · rw [is, Soak.place_available_held here few]
    exact ⟨rfl, rfl, rfl, rfl, rfl, here⟩
  · obtain ⟨r, event, placed⟩ := Soak.place_available_full here (Nat.le_of_eq nine.symm)
    rw [is, placed, nine]
    exact ⟨rfl, rfl, rfl, rfl, rfl, rfl, rfl, rfl, r, event, rfl⟩
  · rw [is, Soak.place_outage_bad away]
    exact ⟨rfl, (Nat.add_assoc ..).symm, (Nat.add_assoc ..).symm, rfl, rfl, rfl, away⟩
  · rw [Soak.place_outage_held away good few]
    exact ⟨rfl, rfl, rfl, rfl, rfl, rfl, away⟩
  · obtain ⟨r, event, placed⟩ := Soak.place_outage_full away good (Nat.le_of_eq nine.symm)
    rw [placed]
    exact ⟨rfl, rfl, rfl, rfl, (Nat.add_assoc ..).symm, (Nat.add_assoc ..).symm, rfl, rfl, r, event, rfl⟩

/-- What a soak second records beside the figures (R169, R172). -/
theorem Soak.second_kept {k : Soak} {t : Totals} (same : q = { k with state := q.state, settling := q.settling })
    (class_ : provisionalClass t = c) :
    let m := (q.second t).1
    let starts := k.availability = .available ∧ c = .bad ∧ 9 ≤ k.pending.length
    let ends := k.availability = .outage ∧ c ≠ .bad ∧ 9 ≤ k.pending.length
    (m.elapsed = k.elapsed + 1 ∧ m.latest = some c ∧ m.lowSeen = false ∧
      m.suspect = (if k.lowSeen then min 65535 (k.suspect + 1) else k.suspect) ∧ m.state = q.state ∧
      m.verdict = k.verdict ∧ m.fades = k.fades ∧ m.list = k.list ∧ m.joint = k.joint ∧ m.discards = k.discards ∧
      m.partnerDigest = k.partnerDigest ∧ m.settling = q.settling ∧ m.digestTimer = k.digestTimer) ∧
    (¬ starts → m.periods = k.periods) ∧ (¬ ends → m.longestOutage = k.longestOutage) ∧
    (k.availability = .available → ¬ starts → m.currentOutage = k.currentOutage) := by
  have second : q.second t = (q.count c).place c := by rw [Soak.second, class_]
  dsimp only
  rw [second]
  constructor
  · rw [Soak.place_kept, same]
    exact ⟨rfl, rfl, rfl, by simp only [Soak.count, satInc_eq], rfl, rfl, rfl, rfl, rfl, rfl, rfl, rfl, rfl⟩
  · obtain ⟨-, periods, longest, current⟩ := Soak.place_outage_figures c (q.count c)
    rw [same] at periods longest current ⊢
    exact ⟨periods, longest, current⟩

end

end Sys2Proof.Machine

end

section
/-! PROOFS. The second event in the recorder: its soak second, its DIGEST and its completion, and end A's proposal at
the completion (R131, R140, R168 to R175, R180; log 3, 24, 37, 38). -/

namespace Sys2Proof.Machine

section

variable {s u x y : State} {st : Station}

/-! ### What follows a soak second (R173 to R175) -/

/-- The second has been placed, with its report (R169 to R171). -/
def soakTold (t : Totals) (y : State) : State :=
  { y with
    soak := (y.soak.second t).1
    site := ((y.soak.second t).2.map y.site.signal).getD y.site }

theorem State.soakSecond_eq (t : Totals) (y : State) : y.soakSecond t = (soakTold t y).afterSoakSecond := by
  unfold State.soakSecond soakTold
  dsimp only
  rcases (y.soak.second t).2 with _ | r <;> rfl

/-- The soak goes on, or closes with its event (R173, R174). -/
theorem State.afterSoakSecond_soak (y : State) :
    Signalled y.site y.afterSoakSecond.site ∧
      (y.soak.elapsed < y.settings.soakSeconds → y.afterSoakSecond.soak = y.soak) ∧
      (¬ y.soak.elapsed < y.settings.soakSeconds →
        SoakClosed false y y.soak y.afterSoakSecond.soak ∧ EventFlag.soak ∈ y.afterSoakSecond.site.flags) := by
  by_cases goesOn : y.soak.elapsed < y.settings.soakSeconds
  · have short : y.afterSoakSecond = if y.soak.elapsed % 60 = 0 then y.sendDigest false else y :=
      if_neg (Nat.not_le.mpr goesOn)
    have kept : y.afterSoakSecond.site = y.site ∧ y.afterSoakSecond.soak = y.soak := by
      rw [short]
      split <;> simp [State.sendDigest]
    exact ⟨.ofEq kept.1, fun _ => kept.2, fun past => absurd goesOn past⟩
  · have closes : y.afterSoakSecond = y.closeSoak false := if_pos (Nat.not_lt.mp goesOn)
    have soak : (y.closeSoak false).soak = y.soak.close y.settings y.time.now y.level false := by
      simp [State.closeSoak, State.sendDigest]
    have site : (y.closeSoak false).site = y.site.signal (y.closeSoak false).soak.report := by
      rw [soak]
      simp [State.closeSoak, State.sendDigest, State.signal]
    rw [closes, site, soak]
    exact ⟨.one _ _, fun short => absurd short goesOn, fun _ =>
      ⟨Soak.close_closed false y y.soak, (Site.mem_signal_flags _ _ _).mpr (.inl rfl)⟩⟩

/-- The DIGEST that follows a soak second (R175). -/
theorem State.afterSoakSecond_frames (configured : y.station = some st) :
    let z := y.afterSoakSecond
    let after (bodies : List FrameBody) : Prop := (z.draws, z.route) = enqueueAll st bodies y.draws y.route
    (y.soak.elapsed < y.settings.soakSeconds → y.soak.elapsed % 60 ≠ 0 → after []) ∧
      (y.soak.elapsed < y.settings.soakSeconds → y.soak.elapsed % 60 = 0 → after [.digest (digestShown false z.soak)]) ∧
      (¬ y.soak.elapsed < y.settings.soakSeconds → after [.digest (digestShown true z.soak)]) := by
  intro z after
  refine ⟨fun goesOn odd => ?_, fun goesOn minute => ?_, fun past => ?_⟩
  · have same : z = y := (if_neg (Nat.not_le.mpr goesOn)).trans (if_neg odd)
    rw [show after [] ↔ (z.draws, z.route) = (y.draws, y.route) from Iff.rfl, same]
  · have sent : z = y.send (.digest (digestShown false y.soak)) :=
      (if_neg (Nat.not_le.mpr goesOn)).trans (if_pos minute)
    have queued := sent.trans (State.send_queuedFor _ st _ configured)
    simp only [after]
    rw [queued]
    rfl
  · have closes : z = y.closeSoak false := if_pos (Nat.not_lt.mp past)
    simp only [after]
    rw [closes, State.closeSoak, State.sendDigest, State.send_queuedFor _ st _ (by exact configured)]
    rfl

/-! ### The delivery of the totals to the recorder (R168) -/

/-- The recorder a second is counted in: opened by this delivery, or open before it (R168). -/
def soakOpened (s : State) : Soak := if s.soak.state = .waiting then s.soak.openUp s.delivery else s.soak

theorem soakOpened_eq (s : State) :
    soakOpened s = { s.soak with state := (soakOpened s).state, settling := (soakOpened s).settling } := by
  unfold soakOpened
  split <;> rfl

theorem Soak.opens_iff (s : State) :
    s.soak.opens s.delivery = true ↔
      s.src.pattern.live = true ∧
        ((0 < s.chk.totals.intervals ∧ s.chk.totals.notLocked = 0) ∨ 10 ≤ s.soak.settling + 1) := by
  simp only [Soak.opens, Bool.and_eq_true, Bool.or_eq_true, decide_eq_true_iff, beq_iff_eq]
  rfl

theorem soakHeard_waits (waiting : s.soak.state = .waiting) (waits : ¬ s.soak.opens s.delivery = true) :
    soakHeard s = { secondBegun s with soak := s.soak.settle s.delivery } := by
  have state : (secondBegun s).soak.state = .waiting := waiting
  rw [soakHeard, State.deliverToSoak, state]
  exact if_neg waits

theorem soakHeard_idle (notWaiting : s.soak.state ≠ .waiting) (notOpen : s.soak.state ≠ .opened) :
    soakHeard s = secondBegun s :=
  State.deliverToSoak_idle (by simp [Soak.running, secondBegun, notWaiting, notOpen])

theorem soakHeard_counts
    (counting : s.soak.state = .opened ∨ (s.soak.state = .waiting ∧ s.soak.opens s.delivery = true)) :
    soakHeard s = (soakTold s.chk.totals { secondBegun s with soak := soakOpened s }).afterSoakSecond := by
  rw [← State.soakSecond_eq]
  rcases counting with opened | ⟨waiting, opens⟩
  · have state : (secondBegun s).soak.state = .opened := opened
    rw [soakOpened, if_neg (by rw [opened]; decide), soakHeard, State.deliverToSoak, state]
    rfl
  · have state : (secondBegun s).soak.state = .waiting := waiting
    rw [soakOpened, if_pos waiting, soakHeard, State.deliverToSoak, state]
    exact if_pos opens

theorem soakOpened_counting
    (counting : s.soak.state = .opened ∨ (s.soak.state = .waiting ∧ s.soak.opens s.delivery = true)) :
    (soakOpened s).state = .opened ∧
      (soakOpened s).settling =
        (if s.soak.state = .opened ∨ (0 < s.chk.totals.intervals ∧ s.chk.totals.notLocked = 0) then s.soak.settling
          else s.soak.settling + 1) := by
  rcases counting with opened | ⟨waiting, -⟩
  · rw [soakOpened, if_neg (by rw [opened]; decide), if_pos (.inl opened)]
    exact ⟨opened, rfl⟩
  · rw [soakOpened, if_pos waiting]
    have notOpen : ¬ s.soak.state = .opened := by rw [waiting]; decide
    refine ⟨rfl, ?_⟩
    simp only [notOpen, false_or]
    rfl

/-- The second placed, before what follows from it. -/
def secondPlaced (s : State) : State := soakTold s.chk.totals { secondBegun s with soak := soakOpened s }

theorem secondPlaced_soak (s : State) : (secondPlaced s).soak = ((soakOpened s).second s.chk.totals).1 := rfl

theorem secondPlaced_elapsed (s : State) : (secondPlaced s).soak.elapsed = s.soak.elapsed + 1 := by
  obtain ⟨⟨elapsed, -⟩, -⟩ := Soak.second_kept (soakOpened_eq s) (t := s.chk.totals) rfl
  exact elapsed

/-- The report of the availability rule is signalled (R170, R171). -/
theorem secondPlaced_reports {r : Report} (report : ((soakOpened s).second s.chk.totals).2 = some r) :
    r.event ∈ (secondPlaced s).site.flags := by
  have site : (secondPlaced s).site = s.site.signal r := by
    rw [secondPlaced, soakTold, report]
    rfl
  rw [site]
  exact (Site.mem_signal_flags _ _ _).mpr (.inl rfl)

/-- The recorder after a counted second (R169 to R174). -/
theorem soakHeard_counted
    (counting : s.soak.state = .opened ∨ (s.soak.state = .waiting ∧ s.soak.opens s.delivery = true)) :
    Signalled (secondPlaced s).site (soakHeard s).site ∧
      (s.soak.elapsed + 1 < s.settings.soakSeconds → (soakHeard s).soak = (secondPlaced s).soak) ∧
      (¬ s.soak.elapsed + 1 < s.settings.soakSeconds →
        SoakClosed false s (secondPlaced s).soak (soakHeard s).soak ∧ EventFlag.soak ∈ (soakHeard s).site.flags) := by
  have counted := State.afterSoakSecond_soak (secondPlaced s)
  rw [secondPlaced_elapsed] at counted
  rw [soakHeard_counts counting]
  exact counted

/-- The frames of a counted second (R175). -/
theorem soakHeard_frames (configured : s.station = some st)
    (counting : s.soak.state = .opened ∨ (s.soak.state = .waiting ∧ s.soak.opens s.delivery = true)) :
    let z := soakHeard s
    let after (bodies : List FrameBody) : Prop := (z.draws, z.route) = enqueueAll st bodies s.draws s.route
    let goesOn := s.soak.elapsed + 1 < s.settings.soakSeconds
    (goesOn → (s.soak.elapsed + 1) % 60 ≠ 0 → after []) ∧
      (goesOn → (s.soak.elapsed + 1) % 60 = 0 → after [.digest (digestShown false z.soak)]) ∧
      (¬ goesOn → after [.digest (digestShown true z.soak)]) := by
  have frames := State.afterSoakSecond_frames (y := secondPlaced s) configured
  rw [secondPlaced_elapsed] at frames
  rw [soakHeard_counts counting]
  exact frames

theorem totalsHeard_soak (s : State) : (totalsHeard s).soak = (soakHeard s).soak := by
  simp [totalsHeard, soakHeard]

/-! ### End A at the completion (R131, R140) -/

/-- The completion is no onset at end B, and without it there is none (R140). -/
theorem State.autoOnset_unfinished (configured : u.station = some st) (station : x.station = u.station)
    (settings : x.settings = u.settings) (hop : x.hop = u.hop) (inSoak : u.hop.phase = .soak)
    (same : st.hopEnd = .b ∨ x.soak.isComplete = u.soak.isComplete) : u.autoOnset x = x := by
  rcases same with endB | same
  · refine if_neg ?_
    rw [State.autoTarget_endB (station.trans configured) endB]
    simp
  · exact State.autoOnset_quiet configured station settings (congrArg _ hop) (fun _ => same) fun onset =>
      absurd (onset.2.1.symm.trans inSoak) (by decide)

/-- End A proposes MARGIN, or HANDOVER with the margin test disabled, at the completion (R140). -/
theorem State.autoOnset_completes (configured : u.station = some st) (station : x.station = u.station)
    (settings : x.settings = u.settings) (hop : x.hop = u.hop) (inSoak : u.hop.phase = .soak)
    (endA : st.hopEnd = .a) (before : u.soak.isComplete = false) (complete : x.soak.isComplete = true) :
    let target := if u.settings.marginEnabled then Phase.margin else .handover
    let free := u.hop.outstanding = none ∧ x.route.conflict = false ∧ x.route.partner ≠ .lost
    (¬ free → u.autoOnset x = { x with hop := { u.hop with autoTimer := some 10000 } }) ∧
      (free → u.autoOnset x = x.propose target .main true) := by
  intro target free
  have none : u.autoTarget = none := by simp [State.autoTarget, configured, endA, inSoak, before]
  have some_ : x.autoTarget = some target := by
    simp [State.autoTarget, station, configured, endA, hop, inSoak, complete, settings, target]
  have tries : u.autoOnset x = x.autoTry := if_pos (by rw [none, some_]; rfl)
  have legal : legalSuccessor x.settings.marginEnabled .soak target = true ∧ x.precondition target = Option.none := by
    simp only [target, settings]
    cases u.settings.marginEnabled <;> simp [legalSuccessor, State.precondition, hop, inSoak, complete]
  have checks : x.mayPropose target = true ↔ free := by
    simp [State.mayPropose, hop, inSoak, legal.1, legal.2, free, and_assoc]
  rw [tries, State.autoTry, some_]
  refine ⟨fun barred => ?_, fun clear => if_pos (checks.mpr clear)⟩
  rw [← hop]
  exact if_neg (mt checks.mp barred)

/-! ### The route in SOAK (R114, R122) -/

/-- In SOAK no direction is ACTIVE, so nothing but the DIGEST is queued before end A's proposal (R152). -/
theorem secondEnded_inSoak (inSoak : s.hop.phase = .soak) (sound : AttenuationSound s) :
    let z := secondEnded (totalsHeard s)
    z.draws = (soakHeard s).draws ∧
      z.route = { (soakHeard s).route with
        roster := z.route.roster, partner := z.route.partner, conflict := z.route.conflict, levelTimer := none } := by
  obtain ⟨-, -, -, onlyMargin⟩ := sound
  have quiet : totalsHeard s = soakHeard s := by
    refine totalsHeard_quiet ?_
    rintro ⟨⟨d, current, active, -⟩, -⟩
    exact absurd ((onlyMargin d current active).symm.trans inSoak) (by decide)
  have phase : (rosterAged (totalsHeard s)).hop.phase = .soak := by
    obtain ⟨-, -, -, -, -, -, -, -, -, -, hop, -⟩ := totalsHeard_frame s
    exact (congrArg _ hop).trans inSoak
  obtain ⟨eDraws, eRoute, -⟩ := secondEnded_blocks (totalsHeard s)
  obtain ⟨draws, route⟩ := State.partnerEntryChanged_route (s := rosterAged (totalsHeard s))
    (by rw [phase]; decide) (by rw [phase]; decide)
  rw [← State.ageRoster_eq, quiet] at draws route
  rw [quiet] at eDraws eRoute
  intro z
  have zRoute := eRoute.trans route
  have zDraws := eDraws.trans draws
  simp only [z, quiet]
  refine ⟨zDraws, ?_⟩
  rw [zRoute]
  rfl

end

end Sys2Proof.Machine

namespace Sys2Proof.Proofs

open Sys2Proof Sys2Proof.Machine

/-- Settles O52: the recorder's work by `Soak.second_figures` and `Soak.close_closed`, the frames by the state's phase. -/
theorem soakSecondsAreCounted : Obligations.SoakSecondsAreCounted := by
  intro s due settled k totals enabled opens cls one counting goesOn p outageStarts outageEnds
  obtain ⟨x, x_eq⟩ : ∃ x, x = secondEnded (totalsHeard s) := ⟨_, rfl⟩
  obtain ⟨u, u_eq⟩ : ∃ u : State, u = { s with time := { s.time with secondDue := false } } := ⟨_, rfl⟩
  obtain ⟨t, t_eq⟩ : ∃ t, t = u.autoOnset x := ⟨_, rfl⟩
  have taken : exec .secondEvent s = .next t := by
    rw [t_eq, x_eq, u_eq]
    exact congrArg Host.Outcome.next (State.takeSecond_eq due settled)
  have opensIff : s.soak.opens s.delivery = true ↔ opens := Soak.opens_iff s
  have countingIff : counting ↔
      s.soak.state = .opened ∨ (s.soak.state = .waiting ∧ s.soak.opens s.delivery = true) := by rw [opensIff]
  have class_ : provisionalClass totals = cls := provisionalClass_eq totals
  obtain ⟨-, -, eSite, -, eHop, -, -, eSoak, -⟩ := secondEnded_blocks (totalsHeard s)
  obtain ⟨-, -, eStation, eSettings, -⟩ := secondEnded_kept (totalsHeard s)
  obtain ⟨-, -, hStation, hSettings, -, -, -, -, -, -, hHop, -⟩ := totalsHeard_frame s
  rw [← x_eq] at eSite eHop eSoak eStation eSettings
  have tSoak : t.soak = { (soakHeard s).soak with digestTimer := Timer.tick (soakHeard s).soak.digestTimer } := by
    rw [t_eq, ← totalsHeard_soak, ← eSoak]
    simp
  have tSite : Signalled (soakHeard s).site t.site := by
    have heard : (totalsHeard s).site = (soakHeard s).site := by simp [totalsHeard, soakHeard]
    have same : t.site = (rosterAged (totalsHeard s)).partnerEntryChanged.site := by
      rw [t_eq, ← State.ageRoster_eq, ← eSite]
      simp
    rw [same, ← heard]
    exact (State.partnerEntryChanged_signalled (rosterAged (totalsHeard s))).1
  refine ⟨t, taken, fun waiting waits => ?_, fun notWaiting notOpen => ?_, fun counts => ?_,
    fun st configured counts inSoak sound => ?_⟩
  · rw [tSoak, soakHeard_waits waiting (mt opensIff.mp waits)]
    rfl
  · rw [tSoak, soakHeard_idle notWaiting notOpen]
    rfl
  · obtain ⟨told, continues, closes⟩ := soakHeard_counted (countingIff.mp counts)
    obtain ⟨opened, settling⟩ := soakOpened_counting (countingIff.mp counts)
    obtain ⟨⟨elapsed, latest, lowSeen, suspect, state, verdict, fades, list, joint, discards, partner, settling_, timer⟩,
      periods, longest, current⟩ := Soak.second_kept (soakOpened_eq s) class_
    obtain ⟨good, held, full, outBad, outHeld, outFull⟩ := Soak.second_figures (soakOpened_eq s) class_
    have flagged : (∃ r : Report, r.event = .outage ∧ ((soakOpened s).second s.chk.totals).2 = some r) →
        EventFlag.outage ∈ t.site.flags := by
      rintro ⟨r, event, report⟩
      exact tSite.flag (told.flag (event ▸ secondPlaced_reports report))
    refine ⟨(secondPlaced s).soak, elapsed, latest, lowSeen, suspect, state.trans opened, verdict, fades, list, joint,
      discards, partner, settling_.trans settling, periods, longest, current, good, held, fun here bad nine => ?_, outBad,
      outHeld, fun away fine nine => ?_, fun goes => ?_, fun ends => ?_⟩
    · obtain ⟨a, b, c, d, e, f, g, h, report⟩ := full here bad nine
      exact ⟨a, b, c, d, e, f, g, h, flagged report⟩
    · obtain ⟨a, b, c, d, e, f, g, h, report⟩ := outFull away fine nine
      exact ⟨a, b, c, d, e, f, g, h, flagged report⟩
    · rw [tSoak, continues goes, secondPlaced_soak, timer]
    · obtain ⟨closed, flag⟩ := closes ends
      refine ⟨⟨_, closed, ?_⟩, tSite.flag flag⟩
      have same : (soakHeard s).soak.digestTimer = k.digestTimer := by
        rw [closed.2.1]
        exact timer
      rw [tSoak, same]
  · intro after last free target
    obtain ⟨-, continues, closes⟩ := soakHeard_counted (countingIff.mp counts)
    obtain ⟨quiet, minute, final⟩ := soakHeard_frames configured (countingIff.mp counts)
    obtain ⟨draws, route⟩ := secondEnded_inSoak inSoak sound
    rw [← x_eq] at draws route
    have heard : hearing t.route = hearing x.route := t_eq ▸ State.autoOnset_hearing u x
    simp only [hearing, Prod.mk.injEq] at heard
    obtain ⟨roster, partner, conflict, -⟩ := heard
    have queued : ∀ bodies, ((soakHeard s).draws, (soakHeard s).route) = enqueueAll st bodies s.draws s.route →
        x.draws = (after bodies).1 ∧ x.route = (after bodies).2 := by
      intro bodies sent
      simp only [after, ← sent, roster, partner, conflict]
      exact ⟨draws, route⟩
    have shown : ∀ b, digestShown b (soakHeard s).soak = digestShown b t.soak := fun b => by rw [tSoak]; rfl
    have xHop : x.hop = u.hop := by rw [eHop, hHop, u_eq]
    have xStation : x.station = u.station := by rw [eStation, hStation, u_eq]
    have xSettings : x.settings = u.settings := by rw [eSettings, hSettings, u_eq]
    have xComplete : x.soak.isComplete = (soakHeard s).soak.isComplete := by
      rw [eSoak, totalsHeard_soak]
      rfl
    have uHop : u.hop = s.hop := by rw [u_eq]
    have uSettings : u.settings = s.settings := by rw [u_eq]
    have uStation : u.station = some st := by rw [u_eq]; exact configured
    have uSoak : u.hop.phase = .soak := by rw [uHop]; exact inSoak
    have before : u.soak.isComplete = false := by
      have running : s.soak.state ≠ .closed := by
        rcases counts with opened | ⟨waiting, -⟩
        · exact fun closed => absurd (opened.symm.trans closed) (by decide)
        · exact fun closed => absurd (waiting.symm.trans closed) (by decide)
      rw [u_eq]
      exact Bool.eq_false_iff.mpr (mt (Soak.isComplete_iff _).mp running)
    have unmoved : st.hopEnd = .b ∨ x.soak.isComplete = false → t = x := fun same =>
      t_eq.trans (State.autoOnset_unfinished uStation xStation xSettings xHop uSoak (by rwa [before]))
    have open_ : goesOn → t = x := fun goes => unmoved <| .inr <| by
      obtain ⟨state, -⟩ := soakOpened_counting (countingIff.mp counts)
      obtain ⟨⟨-, -, -, -, kept, -⟩, -⟩ := Soak.second_kept (soakOpened_eq s) class_
      have opened : (secondPlaced s).soak.state = .opened := kept.trans state
      rw [xComplete, continues goes]
      refine Bool.eq_false_iff.mpr fun complete => ?_
      exact absurd (opened.symm.trans ((Soak.isComplete_iff _).mp complete)) (by decide)
    have completes : st.hopEnd = .a → ¬ goesOn → _ := fun endA ends =>
      State.autoOnset_completes uStation xStation xSettings xHop uSoak endA before (by
        rw [xComplete, Soak.isComplete_iff, (closes ends).1.2.1]
        rfl)
    dsimp only at completes
    rw [← t_eq, uHop, uSettings, ← conflict, ← partner] at completes
    refine ⟨fun goes odd => ?_, fun goes whole => ?_, fun ends endB => ?_, fun ends endA barred => ?_,
      fun ends endA clear => ?_⟩
    · rw [open_ goes]
      exact ⟨xHop.trans uHop, (queued [] (quiet goes odd)).2⟩
    · rw [← shown, open_ goes]
      exact ⟨xHop.trans uHop, (queued _ (minute goes whole)).2⟩
    · have lastIs := (queued _ ((shown true) ▸ final ends)).2
      rw [unmoved (.inl endB)]
      exact ⟨xHop.trans uHop, lastIs⟩
    · have lastIs := (queued _ ((shown true) ▸ final ends)).2
      rw [(completes endA ends).1 barred]
      exact ⟨rfl, lastIs⟩
    · obtain ⟨lastDraws, lastRoute⟩ := queued _ ((shown true) ▸ final ends)
      have made := ((completes endA ends).2 clear).trans (State.propose_made (xStation.trans uStation) true)
      rw [xHop, uHop, lastDraws, lastRoute] at made
      simp only [ite_self] at made
      rw [made]
      exact ⟨rfl, rfl⟩

end Sys2Proof.Proofs

end
